-- ==== Sys2Proof/Word.lean ====
section
/-! DEFINITION. The word types of the FL640's registers and memory structures (R8, R104). -/
namespace Sys2Proof

/-- One byte of a memory structure. -/
abbrev Byte := BitVec 8

/-- One 32-bit register (R104). -/
abbrev Word := BitVec 32

/-- One 64-bit count or register pair (R19, R106). -/
abbrev DWord := BitVec 64

end Sys2Proof
end

