-- ==== Sys2Proof/Config.lean ====
section
/-! DEFINITION. What an assembly fixes (the variant, R6, R7, R31) and the free values: constants without a body that
stand for what the spec leaves open. A free value is applied to a counter of the state (`State.freeCtr`), so that two
uses are not assumed equal, or to the operands it depends on. -/
namespace Sys2Proof

/-- The host die of an assembly (R6). -/
inductive HostDie where
  | h | u
  deriving DecidableEq, Repr

/-- The orderable variants (Table 0-1, Table 2-1). -/
inductive Variant where
  | fl1H | fl2H | fl4H | fl2U | fl4U | fl2HT | fl4HT
  deriving DecidableEq, Repr

/-- Number of weight stacks (R7). -/
def Variant.stacks : Variant → Nat
  | .fl1H => 1
  | .fl2H | .fl2U | .fl2HT => 2
  | .fl4H | .fl4U | .fl4HT => 4

/-- Host die (R6). -/
def Variant.hostDie : Variant → HostDie
  | .fl2U | .fl4U => .u
  | .fl1H | .fl2H | .fl4H | .fl2HT | .fl4HT => .h

/-- Whether the tandem die is present (R6). -/
def Variant.tandem : Variant → Bool
  | .fl2HT | .fl4HT => true
  | .fl1H | .fl2H | .fl4H | .fl2U | .fl4U => false

/-- Number of weight-stack channels: 8 for each stack (R7). -/
def Variant.channels (v : Variant) : Nat := 8 * v.stacks

/-- Sustained maximum power in mW (Table 0-1; the reset value of PWR_LIMIT.limit_mw, R90). -/
def Variant.maxMw (v : Variant) : Nat :=
  match v.stacks with
  | 1 => 3500
  | 2 => 5500
  | _ => 9000

/-- The bit of a firmware image's assembly_mask that names the variant (Table 5-4). -/
def Variant.maskBit : Variant → Nat
  | .fl1H => 0 | .fl2H => 1 | .fl4H => 2 | .fl2U => 3 | .fl4U => 4 | .fl2HT => 5 | .fl4HT => 6

/-- Free value: whether a RESET_N pulse between 1 µs and 10 µs causes a cold reset (R568 leaves it open). -/
opaque Config.shortPulseResets : Nat → Bool

/-- Free value: what a register reads in factory test (R51 corner: every register value is undefined). -/
opaque Config.factoryRegister : Nat → Word

/-- Free value: the firmware boot ROM's four public keys (R138 names them and gives no value), as affine points. -/
opaque Config.bootKey : Nat → Nat × Nat

/-- Free value: the cassette public keys that a firmware image carries (R261), by firmware version and index; `none`
where the image carries no key at that index. -/
opaque Config.cassetteKey : Word → Nat → Option (Nat × Nat)

/-- Free value: an output element of CONV1D (R298 gives no alignment, edge rule or order of summation), as binary32: from
the kernel, stride, dilation and causal attributes, the channel's kernel weights and the channel's inputs over the pass
as binary32, and the position. -/
opaque Config.conv1d : List Nat → List Nat → List Nat → Nat → Nat

/-- Free value: an element of SPECTRUM as binary32 (R298 gives no arithmetic): from fft_points, window_fn, the frame and the
bin. -/
opaque Config.spectrum : Nat → Nat → List Nat → Nat → Nat

/-- Free value: an element of ROTARY as binary32 (R298 says "rotation by position" and no more): from rope_base, the
position, the head's elements as binary32 and the element's index. -/
opaque Config.rotary : Nat → Nat → List Nat → Nat → Nat

/-- Free value: the token SELECT picks where no logit is greater than every other (R298). -/
opaque Config.selectAmong : List Nat → Nat

/-- Free value: which spoke of a row set a counted event of a stroke falls on, or how large its share of a stroke's count
is (R326, R391: the division of work is lowering's). -/
opaque Config.spokeShare : Nat → Nat → Nat

/-- Free value: which of the three hubs that use the system area (R220) owns the data an uncorrectable burst there hits:
0 BOOT, 1 SERVE, 2 PAGE. -/
opaque Config.systemOwner : Nat → Nat

/-- Free value: the round trip of a tandem link in ns, measured in TRAIN (R437, Table 15-9). -/
opaque Config.roundTrip : Nat → Nat

/-- Free value: the tag of the MIGRATE that a peer runs (R459: no message of Table 15-4 carries it). -/
opaque Config.peerTag : Nat → Nat

/-- Free value: the router sink that was the source of a stream arriving from a peer (R459: no message of Table 15-4 and no
field of the blob carries it). -/
opaque Config.peerSource : Nat → Nat

/-- Free value: a sample under a falling (fades) or rising (ramps) gain of R484, as binary32: from the sample's pattern, the step
and the number of steps; the spec gives no rounding and no first step. -/
opaque Config.gained : Bool → Nat → Nat → Nat → Nat

/-- Free value: the µs from the release of a restarted hub to its working state restored (Table 19-2, RESTORED). -/
opaque Config.restoreUs : Nat → Nat

/-- Free value: the fault code of a partition that is reset because the PAGE hub stays away (R150 names none). -/
opaque Config.holdCode : Nat → Nat

/-- Free value: the check field that a torn log entry shows (R544). -/
opaque Config.tornCheck : Nat → Nat

/-- Free value: the handle, the tag and the destination's owner of the tag checker's test block (R523 names none). -/
opaque Config.testBlock : Nat → Nat × Nat × Nat

end Sys2Proof
end

