-- ==== Sys2Proof/Syntax.lean ====
section
/-! DEFINITION. The commands of the block: one constructor of `Instr` for each row of the opcode table, with the data
its event brings (a register value, a descriptor's bytes, samples, measurements, message fields). Agents are numbered
as in Table 4-3. -/
namespace Sys2Proof

/-- A submission descriptor as fetched (Table 7-1): `zero13` and `zero17` are the two bytes that must be zero, and
`ops` the 32 operand bytes. `data` is what the host memory at data_addr holds, for the opcodes whose data the block reads
as it admits them (the tokens of SEQ_SUBMIT and SEQ_APPEND, R372), and `dataFail` the way in which that read fails, if it
does (R175): 0 Unsupported Request, 1 Completer Abort, 2 poisoned, 3 timeout. -/
structure Desc where
  opcode   : Nat
  flags    : Nat
  tag      : Nat
  target   : Nat
  dataAddr : Nat
  dataLen  : Nat
  zero13   : Nat
  outLen   : Nat
  zero17   : Nat
  outAddr  : Nat
  ops      : List Byte
  data     : List Byte
  dataFail : Option Nat
  deriving DecidableEq, Repr

/-- What a DMA request belongs to (R172, R175): the descriptors of a ring, the data of an accepted command by its acceptance
order, a state blob that a stream imports, a cold layer of a partition, a spill or a prefetch of a page of a sequence, the ring
of a link-audio port, the trace buffer. -/
inductive Transfer where
  | fetch (ring : Nat)
  | command (order : Nat)
  | stateBlob (handle : Nat)
  | coldLayer (prt : Nat)
  | spill (seq tensor ring : Nat)
  | prefetch (seq tensor ring : Nat)
  | audio (port : Nat)
  | trace
  deriving DecidableEq, Repr

/-- What cold boot finds (R44, R51, R74, R131 to R134): the strap levels, whether a clock is present on REFCLK, whether
PRES_N is low at the release, and the spokes, channels and rim rows that fail their tests. -/
structure BootIn where
  refSel         : Bool
  testEn         : Bool
  refClk         : Bool
  presLow        : Bool
  failedSpokes   : List Nat
  failedChannels : List Nat
  failedRim      : List Nat
  deriving DecidableEq, Repr

/-- A message on a tandem link: the CTRL messages of Table 15-4 and the payloads of the other flit types (Table 15-3). -/
inductive TanMsg where
  | hello (id chip port maxWidth credits0 credits1 tickLen recorded : Nat)
  | pairReq (own peer : Nat)
  | pairAck (own : Nat)
  | width (newWidth lanes : Nat)
  | stroke (slot gear number : Nat) (tick : DWord) (members : List (Nat × Nat))
  | commit (slot : Nat) (tick : DWord)
  | report (slot handle ed : Nat)
  | groupReset (slot code : Nat)
  | migOffer (handle layout graph adapter mask bytes : Nat)
  | migAccept (handle : Nat)
  | migRefuse (code : Nat)
  | migDone (bytes : Nat)
  | migAbandon (code : Nat)
  | tick (number : DWord) (lenCode h w root : Nat)
  | xfer (num offset : Nat) (data : List Byte)
  | coll (num offset : Nat) (data : List Byte)
  | act (num : Nat) (tags : List Nat) (data : List Byte)
  | null
  deriving DecidableEq, Repr

/-- One handoff item (R27, R372): a token, or a vector of raw binary32 words for a stream. -/
structure Handoff where
  tag    : Nat          -- rider tag (R515)
  data   : List Nat
  deriving DecidableEq, Repr
/-- A field of a function's configuration space that CONFIG_SPACE_WRITE changes (R165, R175, R176, R180 to R183), with
the value written. -/
inductive CfgField where
  | d3hot (v : Bool)
  | busMaster (v : Bool)
  | msixEnable (v : Bool)
  | msixMask (v : Bool)
  | pmeEnable (v : Bool)
  | maxPayload (v : Nat)
  | maxRead (v : Nat)
  | cplTimeout (us : Nat)
  | numVFs (v : Nat)
  | vfEnable
  | ari (v : Bool)
  | ltrEnable (v : Bool)
  | aspmL1 (v : Bool)
  | l1Substates (v : Nat)
  deriving DecidableEq, Repr

/-- What the audio terminals and the host link bring between two steps of the audio section: samples captured since the
last batch by source (raw codes, oldest first), strobes of each sink, and for each link-audio port the host's control
block and the bytes of its ring read or to be read (R466, R482, R491). -/
structure AudioIn where
  captured : List (Nat × List Int)
  strobes  : List (Nat × Nat)
  rings    : List (Nat × List Byte)
  deriving DecidableEq, Repr

/-- One command of the block: a row of the opcode table with the data its event brings. -/
inductive Instr where
  | vinRise
  | vinLoss
  | resetNPulse (lowUs : Nat)
  | coldReset (b : BootIn)
  | islandStartupTests (failed : Nat)
  | fwBankSelect
  | bootWaitDriver
  | deviceReset (b : BootIn)
  | rstCtlDeviceReset (agent : Nat) (val : Word)
  | tickEdge (a : AudioIn) (uJ : Nat)
  | routerFrameEdge (a : AudioIn)
  | sinkDecisionPoint (sink : Nat)
  | sinkUnderrun (sink : Nat)
  | sinkOverrun (sink : Nat)
  | pcmFrame (port dir bits : Nat)
  | pcmRateMeasure (port dir rate : Nat)
  | pcmClockLost (port dir : Nat)
  | pcmClockReturn (port dir : Nat)
  | tickSourceLost
  | audioPortFail (page : Nat) (stalled : Bool)
  | refLost
  | thmSample (readings : List (Nat × Int))
  | vinSample (mv : Nat)
  | headwindPowerDecay
  | headwindThermalDecay
  | dvfsCapLower
  | dvfsCapRaise
  | pwrStateRequest (agent : Nat) (val : Word)
  | powerTransitionDone
  | hostAccessInAon (agent off be : Nat) (val : Option DWord)
  | aonTimerExpire
  | tandemSbWake (port : Nat)
  | tickCtlWrite (agent : Nat) (val : Word)
  | presencePress
  | presenceWindowExpire
  | prsCtlClose (agent : Nat) (val : Word)
  | hdrClaimClaim (agent page : Nat)
  | hdrClaimCommit (agent page : Nat)
  | hdrClaimAbandon (agent page : Nat)
  | claimExpire (page : Nat)
  | hdrIntStatusClear (agent page : Nat) (val : Word)
  | hdrIntEnableWrite (agent page : Nat) (val : Word)
  | hdrIntSet (agent page : Nat) (val : Word)
  | hdrErrClear (agent page : Nat) (val : Word)
  | registerWrite (agent off be : Nat) (val : DWord)
  | counterClear (agent off : Nat) (val : Word)
  | hubRestartRequest (agent hub : Nat) (val : Word)
  | hubWatchdogExpire (hub : Nat) (torn : Bool)
  | hubFault (hub : Nat) (torn : Bool)
  | hubRestartDone (hub : Nat)
  | hubRestartTimeout (hub : Nat) (digestFail : Bool)
  | pageHubHoldTimeout
  | hubIfaceOffer (agent : Nat) (val : Word)
  | fwOpWrite (agent : Nat) (val : Word) (image : Option (List Byte)) (stored : Bool)
  | fwOpRollback (agent : Nat) (val : Word)
  | fwOpConfirm (agent : Nat) (val : Word)
  | fwOpRecoveryRun (agent : Nat) (val : Word) (image : Option (List Byte))
  | fwOpReset (agent : Nat) (val : Word)
  | fwOpInvalid (agent : Nat) (val : Word)
  | fwOpDone
  | retrainDue (chan : Nat)
  | retrainWindowDone (chan : Nat) (pass : Bool)
  | patrolScrub (chan gran : Nat) (corrected : Nat)
  | eccReadError (chan addr : Nat) (kind : Nat)
  | spokeRehome (chan : Nat)
  | sramError (spoke offset : Nat) (corrected : Bool)
  | residueMismatch (spoke : Nat)
  | rimCheckFail (spoke prt : Nat) (again : Bool)
  | partitionResetCleared (prt : Nat)
  | partitionRebuild (row : Nat) (spareGood : Bool)
  | prtBuildDone (prt : Nat)
  | strokeEnd (prt : Nat)
  | handoffArrival (producer consumer : Nat)
  | pannierDigestCheck (prt layer : Nat) (match_ : Bool)
  | pannierStarveAbandon (prt : Nat)
  | kvSpillDone (seq tensor ring : Nat)
  | kvPrefetchDone (seq tensor ring : Nat) (good : Bool)
  | descriptorFetch (rider ring : Nat) (batch : List Desc)
  | rdrSqTail (agent rider ring : Nat) (val : Word)
  | rdrCqHead (agent rider ring : Nat) (val : Word)
  | nop (rider ring : Nat) (d : Desc)
  | jnlMark (rider ring : Nat) (d : Desc)
  | outRebind (rider ring : Nat) (d : Desc)
  | casLoad (rider ring : Nat) (d : Desc)
  | casEvict (rider ring : Nat) (d : Desc)
  | casReplace (rider ring : Nat) (d : Desc)
  | adpLoad (rider ring : Nat) (d : Desc)
  | adpUnload (rider ring : Nat) (d : Desc)
  | imageHeaderArrived (order : Nat) (bytes : List Byte)
  | imageTablesArrived (order : Nat) (bytes : List Byte)
  | imageLastByte (order : Nat) (bytes : List Byte)
  | prtBuild (rider ring : Nat) (d : Desc)
  | prtDiscard (rider ring : Nat) (d : Desc)
  | strOpen (rider ring : Nat) (d : Desc)
  | strClose (rider ring : Nat) (d : Desc)
  | strExport (rider ring : Nat) (d : Desc)
  | strExportWritten (order : Nat)
  | strImportDone (handle : Nat) (blob : Option (List Byte))
  | seqSubmit (rider ring : Nat) (d : Desc)
  | seqAppend (rider ring : Nat) (d : Desc)
  | seqCancel (rider ring : Nat) (d : Desc)
  | lnkAudSet (rider ring : Nat) (d : Desc)
  | tanPair (rider ring : Nat) (d : Desc)
  | migrate (rider ring : Nat) (d : Desc)
  | jnlErase (rider ring : Nat) (d : Desc)
  | sigPolicy (rider ring : Nat) (d : Desc)
  | privPolicy (rider ring : Nat) (d : Desc)
  | debugUnlock (rider ring : Nat) (d : Desc)
  | sealBurn (rider ring : Nat) (d : Desc)
  | jnlReadIdx (agent : Nat) (val : Word)
  | jnlDumpGo (agent : Nat) (val : Word)
  | jnlDumpDone (fail : Option Nat)
  | strReadIdx (agent : Nat) (val : Word)
  | kvcSeqReadIdx (agent : Nat) (val : Word)
  | rdrCtlReset (agent rider : Nat) (val : Word)
  | functionLevelReset (fn : Nat)
  | vfEnableClear
  | riderResetEnd (rider : Nat)
  | hostLinkReset (cause : Nat)
  | linkUp (width rate : Nat)
  | linkWidthSpeedChange (width rate : Nat)
  | dmaFailure (rider kind : Nat) (t : Transfer)
  | deliveryHoldEnd (rider : Nat)
  | msixSend (rider vec : Nat)
  | l1IdleEntry
  | tanPortRetrain (agent port : Nat) (val : Word)
  | tanPortUnpair (agent port : Nat) (val : Word)
  | tanPortWakePeer (agent port : Nat) (val : Word)
  | tanDetectTimeout (port : Nat)
  | tanTrainAlign (port lanes : Nat)
  | hello (port id chip peerPort maxWidth credits0 credits1 tickLen recorded : Nat)
  | tanLaneLoss (port lanes : Nat)
  | tanFlitReceive (port : Nat) (flit : List Byte)
  | tanReplayTimeout (port : Nat)
  | tanNak (port ack : Nat)
  | pairReq (port own peer : Nat)
  | pairAck (port own : Nat)
  | tanPairTimeout (port : Nat)
  | tick (port : Nat) (number : DWord) (lenCode h w root : Nat) (skewNs : Int)
  | tanLockAchieved
  | tanLockLost (reason : Nat)
  | stroke (port slot gear number : Nat) (tick : DWord) (members : List (Nat × Nat))
  | commit (port slot : Nat) (tick : DWord)
  | report (port slot handle ed : Nat)
  | groupReset (port slot code : Nat)
  | migOffer (port handle layout graph adapter mask bytes : Nat)
  | migAccept (port handle : Nat)
  | migRefuse (port code : Nat)
  | migDone (port bytes : Nat)
  | migAbandon (port code : Nat)
  | migLate (port : Nat)
  | xfer (port num offset : Nat) (data : List Byte)
  | coll (port num offset : Nat) (data : List Byte)
  | act (port num : Nat) (tags : List Nat) (data : List Byte)
  | safCtlForce (agent : Nat) (val : Word)
  | safCtlRelease (agent : Nat) (val : Word)
  | safCtlStore (agent : Nat) (val : Word)
  | lockstepMismatch
  | periodicSelfTest (failed : Nat)
  | ceilingExceedance (output : Nat)
  | ceilingLongEval (output : Nat)
  | muteCheckFail (output : Nat)
  | safCeilClear (agent output : Nat) (val : Word)
  | lampSenseSample (current : Bool) (mv : Nat)
  | lampOffCheck (mv : Nat)
  | gateCheckFail (input : Nat)
  | safPrivClear (agent : Nat) (val : Word)
  | islandThermalSample (quarters : Int)
  | islandThermalClear
  | islandSensorCompare
  | safTestCeiling (agent : Nat) (val : Word)
  | safTestTag (agent : Nat) (val : Word)
  | safTestLamp (agent : Nat) (val : Word)
  | trcLogRead (agent : Nat) (val : Word)
  | trcObjRead (agent : Nat) (val : Word)
  | trcSnapGo (agent : Nat) (val : Word)
  | trcSnapDone (fail : Option Nat)
  | traceRecord
  | traceStagingDrain
  | configSpaceWrite (fn : Nat) (field : CfgField)
  | msixTableWrite (fn vec : Nat) (addr : DWord) (data : Word) (masked : Bool)
  | perstNDeassert
  | presNRelease
  | tanPartnerDetect (port : Nat)
  deriving DecidableEq, Repr

end Sys2Proof
end

