-- ==== Sys2Proof/Decode.lean ====
section
/-! DEFINITION. The command that a word spells by the opcode table's bits. No row of this block's table gives bits: its
commands are register accesses, ring descriptors, messages and events, so no word spells one. -/
namespace Sys2Proof

/-- The command of a table word: none, since no row gives bits. -/
def decodeTableWord (_nbits _w : Nat) : Option Instr := none

end Sys2Proof
end

