-- ==== Sys2Proof/Machine/RegNames.lean ====
section
/-! DEFINITION. The names of the registers: BAR0 offsets (R95, Table 4-1) of every register of the spec's
register tables, `page * 0x1000 + offset`. A register of a block with several instances takes the instance
number first; a register array takes its index last. -/
namespace Sys2Proof.Machine

/-! ### IDN page -/
abbrev Reg.IDN_ASSEMBLY : Nat := 0x00040
abbrev Reg.IDN_STRAPS : Nat := 0x00044
/-! ### PWR page -/
abbrev Reg.PWR_STATE : Nat := 0x01040
abbrev Reg.PWR_STATE_CTL : Nat := 0x01044
abbrev Reg.PWR_LISTEN_CTL : Nat := 0x01048
abbrev Reg.PWR_WAKE_EN : Nat := 0x0104C
abbrev Reg.PWR_WAKE_CAUSE : Nat := 0x01050
abbrev Reg.PWR_AON_TIMER : Nat := 0x01054
abbrev Reg.PWR_AON_TIME_LO : Nat := 0x01058
abbrev Reg.PWR_AON_TIME_HI : Nat := 0x0105C
abbrev Reg.PWR_VIN : Nat := 0x01060
abbrev Reg.PWR_LIMIT : Nat := 0x01064
abbrev Reg.PWR_HEADWIND_CTL : Nat := 0x01068
abbrev Reg.PWR_HEADWIND : Nat := 0x0106C
abbrev Reg.PWR_AVG : Nat := 0x01070
abbrev Reg.PWR_ENERGY_LO : Nat := 0x01074
abbrev Reg.PWR_ENERGY_HI : Nat := 0x01078
abbrev Reg.PWR_OVER_ALLOWANCE : Nat := 0x0107C
abbrev Reg.PWR_STAT_CLR : Nat := 0x01080
/-! ### CLK page -/
abbrev Reg.CLK_REF_STATUS : Nat := 0x02040
abbrev Reg.CLK_TICK_LO : Nat := 0x02044
abbrev Reg.CLK_TICK_HI : Nat := 0x02048
abbrev Reg.CLK_TICK_CTL : Nat := 0x0204C
abbrev Reg.CLK_TICK_STATUS : Nat := 0x02050
abbrev Reg.CLK_TICK_MEASURED : Nat := 0x02054
abbrev Reg.CLK_SPOKE_CTL : Nat := 0x02058
abbrev Reg.CLK_SPOKE_STATUS : Nat := 0x0205C
abbrev Reg.CLK_SPOKE_CHANGES : Nat := 0x02060
/-! ### THM page -/
abbrev Reg.THM_CTL : Nat := 0x03040
abbrev Reg.THM_MAX : Nat := 0x03044
abbrev Reg.THM_PEAK : Nat := 0x03048
abbrev Reg.THM_WARN_TICKS : Nat := 0x0304C
abbrev Reg.THM_CLR : Nat := 0x03050
abbrev Reg.THM_SENSOR (i : Nat) : Nat := 0x03080 + 0x4 * i
/-! ### Common header (Table 4-2): offsets within the page `pg` page -/
abbrev Reg.HDR_ID (pg : Nat) : Nat := 0x1000 * pg + 0x000
abbrev Reg.HDR_CAP (pg : Nat) : Nat := 0x1000 * pg + 0x004
abbrev Reg.HDR_CTL (pg : Nat) : Nat := 0x1000 * pg + 0x008
abbrev Reg.HDR_STATUS (pg : Nat) : Nat := 0x1000 * pg + 0x00C
abbrev Reg.HDR_INT_STATUS (pg : Nat) : Nat := 0x1000 * pg + 0x010
abbrev Reg.HDR_INT_ENABLE (pg : Nat) : Nat := 0x1000 * pg + 0x014
abbrev Reg.HDR_INT_SET (pg : Nat) : Nat := 0x1000 * pg + 0x018
abbrev Reg.HDR_ERR (pg : Nat) : Nat := 0x1000 * pg + 0x01C
abbrev Reg.HDR_ERR_ADDR (pg : Nat) : Nat := 0x1000 * pg + 0x020
abbrev Reg.HDR_CLAIM (pg : Nat) : Nat := 0x1000 * pg + 0x024
abbrev Reg.HDR_CLAIM_OWNER (pg : Nat) : Nat := 0x1000 * pg + 0x028
abbrev Reg.HDR_SCRATCH (pg : Nat) : Nat := 0x1000 * pg + 0x02C
/-! ### RST page -/
abbrev Reg.RST_CTL : Nat := 0x04040
abbrev Reg.RST_CAUSE : Nat := 0x04044
abbrev Reg.RST_RESETN_COUNT : Nat := 0x04048
abbrev Reg.RST_DEVICE_COUNT : Nat := 0x0404C
abbrev Reg.RST_CLR : Nat := 0x04050
/-! ### HUB page -/
abbrev Reg.HUB_STATE (h : Nat) : Nat := 0x08040 + 0x1000 * h
abbrev Reg.HUB_CTL (h : Nat) : Nat := 0x08044 + 0x1000 * h
abbrev Reg.HUB_RESTARTS (h : Nat) : Nat := 0x08048 + 0x1000 * h
abbrev Reg.HUB_OVERLONG (h : Nat) : Nat := 0x0804C + 0x1000 * h
abbrev Reg.HUB_LAST_TICK_LO (h : Nat) : Nat := 0x08050 + 0x1000 * h
abbrev Reg.HUB_LAST_TICK_HI (h : Nat) : Nat := 0x08054 + 0x1000 * h
abbrev Reg.HUB_LAST_DURATION (h : Nat) : Nat := 0x08058 + 0x1000 * h
abbrev Reg.HUB_STAT_CLR (h : Nat) : Nat := 0x0805C + 0x1000 * h
/-! ### HUB[0] only page -/
abbrev Reg.HUB_FW_STATE : Nat := 0x08100
abbrev Reg.HUB_FW_VERSION : Nat := 0x08104
abbrev Reg.HUB_IFACE_FW : Nat := 0x08108
abbrev Reg.HUB_IFACE_DRIVER : Nat := 0x0810C
abbrev Reg.HUB_IFACE_CTL : Nat := 0x08110
abbrev Reg.HUB_BANK_STATUS : Nat := 0x08114
abbrev Reg.HUB_BANK_VERSION (i : Nat) : Nat := 0x08118 + 0x4 * i
abbrev Reg.HUB_FW_ADDR_LO : Nat := 0x08120
abbrev Reg.HUB_FW_ADDR_HI : Nat := 0x08124
abbrev Reg.HUB_FW_LEN : Nat := 0x08128
abbrev Reg.HUB_FW_CTL : Nat := 0x0812C
abbrev Reg.HUB_FW_STATUS : Nat := 0x08130
abbrev Reg.HUB_BOOT_TIME : Nat := 0x08134
abbrev Reg.HUB_REPAIR : Nat := 0x08138
abbrev Reg.HUB_RETRAIN_CTL : Nat := 0x0813C
abbrev Reg.HUB_RETRAINS : Nat := 0x08140
abbrev Reg.HUB_RETRAIN_FAILS : Nat := 0x08144
abbrev Reg.HUB_FW_STAT_CLR : Nat := 0x08148
/-! ### LNK page -/
abbrev Reg.LNK_STATUS : Nat := 0x0C040
abbrev Reg.LNK_CTL : Nat := 0x0C044
abbrev Reg.LNK_LTR : Nat := 0x0C048
abbrev Reg.LNK_WAKE_CTL : Nat := 0x0C04C
abbrev Reg.LNK_FLIGHT : Nat := 0x0C050
abbrev Reg.LNK_CORR_ERRS : Nat := 0x0C054
abbrev Reg.LNK_DMA_ERRS : Nat := 0x0C058
abbrev Reg.LNK_RETRAINS : Nat := 0x0C05C
abbrev Reg.LNK_HOST_RESETS : Nat := 0x0C060
abbrev Reg.LNK_L1_EXITS : Nat := 0x0C064
abbrev Reg.LNK_STAT_CLR : Nat := 0x0C068
/-! ### RDR page -/
abbrev Reg.RDR_STATE (n : Nat) : Nat := 0x40040 + 0x1000 * n
abbrev Reg.RDR_CTL (n : Nat) : Nat := 0x40044 + 0x1000 * n
abbrev Reg.RDR_FLIGHT (n : Nat) : Nat := 0x40048 + 0x1000 * n
abbrev Reg.RDR_BACKLOG (n : Nat) : Nat := 0x4004C + 0x1000 * n
abbrev Reg.RDR_CPL_DROPPED (n : Nat) : Nat := 0x40050 + 0x1000 * n
abbrev Reg.RDR_DMA_ERRS (n : Nat) : Nat := 0x40054 + 0x1000 * n
abbrev Reg.RDR_RESETS (n : Nat) : Nat := 0x40058 + 0x1000 * n
abbrev Reg.RDR_STAT_CLR (n : Nat) : Nat := 0x4005C + 0x1000 * n
abbrev Reg.RDR_SQ_BASE_LO (n : Nat) (i : Nat) : Nat := 0x40100 + 0x1000 * n + 0x20 * i
abbrev Reg.RDR_SQ_BASE_HI (n : Nat) (i : Nat) : Nat := 0x40104 + 0x1000 * n + 0x20 * i
abbrev Reg.RDR_SQ_CTL (n : Nat) (i : Nat) : Nat := 0x40108 + 0x1000 * n + 0x20 * i
abbrev Reg.RDR_SQ_TAIL (n : Nat) (i : Nat) : Nat := 0x4010C + 0x1000 * n + 0x20 * i
abbrev Reg.RDR_SQ_HEAD (n : Nat) (i : Nat) : Nat := 0x40110 + 0x1000 * n + 0x20 * i
abbrev Reg.RDR_CQ_BASE_LO (n : Nat) (i : Nat) : Nat := 0x40200 + 0x1000 * n + 0x20 * i
abbrev Reg.RDR_CQ_BASE_HI (n : Nat) (i : Nat) : Nat := 0x40204 + 0x1000 * n + 0x20 * i
abbrev Reg.RDR_CQ_CTL (n : Nat) (i : Nat) : Nat := 0x40208 + 0x1000 * n + 0x20 * i
abbrev Reg.RDR_CQ_HEAD (n : Nat) (i : Nat) : Nat := 0x4020C + 0x1000 * n + 0x20 * i
abbrev Reg.RDR_CQ_TAIL (n : Nat) (i : Nat) : Nat := 0x40210 + 0x1000 * n + 0x20 * i
abbrev Reg.RDR_VEC_MOD (n : Nat) (i : Nat) : Nat := 0x40400 + 0x1000 * n + 0x4 * i
abbrev Reg.RDR_INT_SUMMARY (n : Nat) (i : Nat) : Nat := 0x40F00 + 0x1000 * n + 0x4 * i
/-! ### JNL page -/
abbrev Reg.JNL_STATUS : Nat := 0x06040
abbrev Reg.JNL_PENDING : Nat := 0x06044
abbrev Reg.JNL_NEXT_LO : Nat := 0x06048
abbrev Reg.JNL_NEXT_HI : Nat := 0x0604C
abbrev Reg.JNL_READ_IDX : Nat := 0x06050
abbrev Reg.JNL_READ_STATUS : Nat := 0x06054
abbrev Reg.JNL_DATA (i : Nat) : Nat := 0x06060 + 0x4 * i
abbrev Reg.JNL_DUMP_ADDR_LO : Nat := 0x06080
abbrev Reg.JNL_DUMP_ADDR_HI : Nat := 0x06084
abbrev Reg.JNL_DUMP_CTL : Nat := 0x06088
abbrev Reg.JNL_CHECK_ERRS : Nat := 0x0608C
abbrev Reg.JNL_STAT_CLR : Nat := 0x06090
/-! ### PRS page -/
abbrev Reg.PRS_STATUS : Nat := 0x07040
abbrev Reg.PRS_CTL : Nat := 0x07044
abbrev Reg.PRS_WINDOWS : Nat := 0x07048
abbrev Reg.PRS_USED : Nat := 0x0704C
abbrev Reg.PRS_REFUSED : Nat := 0x07050
abbrev Reg.PRS_LAST_LO : Nat := 0x07054
abbrev Reg.PRS_LAST_HI : Nat := 0x07058
abbrev Reg.PRS_STAT_CLR : Nat := 0x0705C
/-! ### STK page -/
abbrev Reg.STK_STATUS (k : Nat) : Nat := 0x50040 + 0x1000 * k
abbrev Reg.STK_FREE (k : Nat) : Nat := 0x50044 + 0x1000 * k
abbrev Reg.STK_REFRESH_WINDOWS (k : Nat) : Nat := 0x50048 + 0x1000 * k
abbrev Reg.STK_CLR (k : Nat) : Nat := 0x5004C + 0x1000 * k
/-! ### STK[0] only page -/
abbrev Reg.STK_PAN_STATUS : Nat := 0x50100
abbrev Reg.STK_PAN_BYTES_LO : Nat := 0x50104
abbrev Reg.STK_PAN_BYTES_HI : Nat := 0x50108
abbrev Reg.STK_PAN_DIGEST_FAILS : Nat := 0x5010C
abbrev Reg.STK_PAN_ABORTS : Nat := 0x50110
abbrev Reg.STK_STARVE (i : Nat) : Nat := 0x50140 + 0x4 * i
abbrev Reg.STK_STARVE_US (i : Nat) : Nat := 0x50160 + 0x4 * i
abbrev Reg.STK_PAN_CLR : Nat := 0x50180
/-! ### CHN page -/
abbrev Reg.CHN_STATE (c : Nat) : Nat := 0x60040 + 0x1000 * c
abbrev Reg.CHN_USE_A (c : Nat) : Nat := 0x60044 + 0x1000 * c
abbrev Reg.CHN_USE_B (c : Nat) : Nat := 0x60048 + 0x1000 * c
abbrev Reg.CHN_BYTES_LO (c : Nat) : Nat := 0x6004C + 0x1000 * c
abbrev Reg.CHN_BYTES_HI (c : Nat) : Nat := 0x60050 + 0x1000 * c
abbrev Reg.CHN_ECC_CORR (c : Nat) : Nat := 0x60054 + 0x1000 * c
abbrev Reg.CHN_ECC_UNCORR (c : Nat) : Nat := 0x60058 + 0x1000 * c
abbrev Reg.CHN_ECC_ADDR_LO (c : Nat) : Nat := 0x6005C + 0x1000 * c
abbrev Reg.CHN_ECC_ADDR_HI (c : Nat) : Nat := 0x60060 + 0x1000 * c
abbrev Reg.CHN_STAT_CLR (c : Nat) : Nat := 0x60064 + 0x1000 * c
/-! ### CAS page -/
abbrev Reg.CAS_STATE (s : Nat) : Nat := 0x30040 + 0x1000 * s
abbrev Reg.CAS_MODEL_VERSION (s : Nat) : Nat := 0x30044 + 0x1000 * s
abbrev Reg.CAS_LAYOUT_LO (s : Nat) : Nat := 0x30048 + 0x1000 * s
abbrev Reg.CAS_LAYOUT_HI (s : Nat) : Nat := 0x3004C + 0x1000 * s
abbrev Reg.CAS_SHAPE (s : Nat) : Nat := 0x30050 + 0x1000 * s
abbrev Reg.CAS_GRANULES (s : Nat) : Nat := 0x30054 + 0x1000 * s
abbrev Reg.CAS_ADP_LO (s : Nat) : Nat := 0x30058 + 0x1000 * s
abbrev Reg.CAS_ADP_HI (s : Nat) : Nat := 0x3005C + 0x1000 * s
abbrev Reg.CAS_ADP_GRANULES (s : Nat) : Nat := 0x30060 + 0x1000 * s
abbrev Reg.CAS_USERS (s : Nat) : Nat := 0x30064 + 0x1000 * s
abbrev Reg.CAS_LOAD_US (s : Nat) : Nat := 0x30068 + 0x1000 * s
abbrev Reg.CAS_REPLACES (s : Nat) : Nat := 0x3006C + 0x1000 * s
abbrev Reg.CAS_LAST_RESULT (s : Nat) : Nat := 0x30070 + 0x1000 * s
abbrev Reg.CAS_STAT_CLR (s : Nat) : Nat := 0x30074 + 0x1000 * s
/-! ### CAS[0] only page -/
abbrev Reg.CAS_SIG_POLICY : Nat := 0x30100
abbrev Reg.CAS_KEYS : Nat := 0x30104
abbrev Reg.CAS_SLOTS : Nat := 0x30108
/-! ### STR page -/
abbrev Reg.STR_STATUS : Nat := 0x10040
abbrev Reg.STR_READ_IDX : Nat := 0x10044
abbrev Reg.STR_STATE_UNITS : Nat := 0x10048
abbrev Reg.STR_ENTRY (i : Nat) : Nat := 0x10060 + 0x4 * i
abbrev Reg.STR_FAULTS : Nat := 0x10080
abbrev Reg.STR_ROLLBACKS : Nat := 0x10084
abbrev Reg.STR_AUTO_ZERO : Nat := 0x10088
abbrev Reg.STR_IN_DROPPED : Nat := 0x1008C
abbrev Reg.STR_STAT_CLR : Nat := 0x10090
/-! ### KVC page -/
abbrev Reg.KVC_STATUS : Nat := 0x11040
abbrev Reg.KVC_SEQ_READ_IDX : Nat := 0x11044
abbrev Reg.KVC_PAGES_RESIDENT : Nat := 0x11048
abbrev Reg.KVC_PAGES_SPILLED : Nat := 0x1104C
abbrev Reg.KVC_SEQ_ENTRY (i : Nat) : Nat := 0x11060 + 0x4 * i
abbrev Reg.KVC_VERIFY_ACCEPTED_LO : Nat := 0x11080
abbrev Reg.KVC_VERIFY_ACCEPTED_HI : Nat := 0x11084
abbrev Reg.KVC_VERIFY_REJECTED_LO : Nat := 0x11088
abbrev Reg.KVC_VERIFY_REJECTED_HI : Nat := 0x1108C
abbrev Reg.KVC_DESCRIPTORS_LO : Nat := 0x11090
abbrev Reg.KVC_DESCRIPTORS_HI : Nat := 0x11094
abbrev Reg.KVC_PAGE_FAULTS : Nat := 0x11098
abbrev Reg.KVC_SPILLS : Nat := 0x1109C
abbrev Reg.KVC_PREFETCHES : Nat := 0x110A0
abbrev Reg.KVC_SPILL_CHECK_FAILS : Nat := 0x110A4
abbrev Reg.KVC_PREFETCH_WAIT_US : Nat := 0x110A8
abbrev Reg.KVC_IN_DROPPED : Nat := 0x110AC
abbrev Reg.KVC_STAT_CLR : Nat := 0x110B0
/-! ### PRT page -/
abbrev Reg.PRT_STATE (p : Nat) : Nat := 0x28040 + 0x1000 * p
abbrev Reg.PRT_CTL (p : Nat) : Nat := 0x28044 + 0x1000 * p
abbrev Reg.PRT_PELOTON (p : Nat) : Nat := 0x28048 + 0x1000 * p
abbrev Reg.PRT_ADMIT (p : Nat) : Nat := 0x2804C + 0x1000 * p
abbrev Reg.PRT_BUDGET_LAST (p : Nat) : Nat := 0x28050 + 0x1000 * p
abbrev Reg.PRT_STROKES_LAST (p : Nat) : Nat := 0x28054 + 0x1000 * p
abbrev Reg.PRT_SPILL_LO (p : Nat) : Nat := 0x28058 + 0x1000 * p
abbrev Reg.PRT_SPILL_HI (p : Nat) : Nat := 0x2805C + 0x1000 * p
abbrev Reg.PRT_SPILL_LEN (p : Nat) : Nat := 0x28060 + 0x1000 * p
abbrev Reg.PRT_LAST_FAULT (p : Nat) : Nat := 0x28064 + 0x1000 * p
abbrev Reg.PRT_RESETS (p : Nat) : Nat := 0x28068 + 0x1000 * p
abbrev Reg.PRT_OVERRUNS (p : Nat) : Nat := 0x2806C + 0x1000 * p
abbrev Reg.PRT_NO_FIT (p : Nat) : Nat := 0x28070 + 0x1000 * p
abbrev Reg.PRT_STAT_CLR (p : Nat) : Nat := 0x28074 + 0x1000 * p
/-! ### SRV page -/
abbrev Reg.SRV_STROKE_CTL : Nat := 0x0E040
abbrev Reg.SRV_STATUS : Nat := 0x0E044
abbrev Reg.SRV_JOB_FAULTS : Nat := 0x0E048
abbrev Reg.SRV_NO_FIT : Nat := 0x0E04C
abbrev Reg.SRV_HANDOFF_SUPPRESSED : Nat := 0x0E050
abbrev Reg.SRV_STAT_CLR : Nat := 0x0E054
/-! ### DRL page -/
abbrev Reg.DRL_CTL : Nat := 0x0F040
abbrev Reg.DRL_OVERRUN_COUNT : Nat := 0x0F044
abbrev Reg.DRL_DEFERRED : Nat := 0x0F048
abbrev Reg.DRL_SHIFTS_DOWN : Nat := 0x0F04C
abbrev Reg.DRL_SHIFTS_UP : Nat := 0x0F050
abbrev Reg.DRL_STAT_CLR : Nat := 0x0F054
abbrev Reg.DRL_LOOP (i : Nat) : Nat := 0x0F080 + 0x4 * i
/-! ### TAN[0-1] page -/
abbrev Reg.TAN_PORT_CTL (p : Nat) : Nat := 0x20040 + 0x1000 * p
abbrev Reg.TAN_PORT_STATUS (p : Nat) : Nat := 0x20044 + 0x1000 * p
abbrev Reg.TAN_PEER_ID_LO (p : Nat) : Nat := 0x20048 + 0x1000 * p
abbrev Reg.TAN_PEER_ID_HI (p : Nat) : Nat := 0x2004C + 0x1000 * p
abbrev Reg.TAN_CRC_ERRS (p : Nat) : Nat := 0x20050 + 0x1000 * p
abbrev Reg.TAN_REPLAYS (p : Nat) : Nat := 0x20054 + 0x1000 * p
abbrev Reg.TAN_DEGRADES (p : Nat) : Nat := 0x20058 + 0x1000 * p
abbrev Reg.TAN_TX_FLITS_LO (p : Nat) : Nat := 0x2005C + 0x1000 * p
abbrev Reg.TAN_TX_FLITS_HI (p : Nat) : Nat := 0x20060 + 0x1000 * p
abbrev Reg.TAN_RX_FLITS_LO (p : Nat) : Nat := 0x20064 + 0x1000 * p
abbrev Reg.TAN_RX_FLITS_HI (p : Nat) : Nat := 0x20068 + 0x1000 * p
abbrev Reg.TAN_PORT_CLR (p : Nat) : Nat := 0x2006C + 0x1000 * p
/-! ### TAN[2] page -/
abbrev Reg.TAN_CHIP : Nat := 0x22040
abbrev Reg.TAN_TICK_CTL : Nat := 0x22044
abbrev Reg.TAN_TICK_STATUS : Nat := 0x22048
abbrev Reg.TAN_TICK_OFFSET_LO : Nat := 0x2204C
abbrev Reg.TAN_TICK_OFFSET_HI : Nat := 0x22050
abbrev Reg.TAN_TICK_TRIMS : Nat := 0x22054
abbrev Reg.TAN_SELF_ID_LO : Nat := 0x22058
abbrev Reg.TAN_SELF_ID_HI : Nat := 0x2205C
abbrev Reg.TAN_COLL_OPS : Nat := 0x22060
abbrev Reg.TAN_MIG_OUT : Nat := 0x22064
abbrev Reg.TAN_MIG_IN : Nat := 0x22068
abbrev Reg.TAN_MIG_FAILS : Nat := 0x2206C
abbrev Reg.TAN_GROUP_RESETS : Nat := 0x22070
abbrev Reg.TAN_COLL_CLR : Nat := 0x22074
abbrev Reg.TAN_GROUP (i : Nat) : Nat := 0x22080 + 0x4 * i
/-! ### AUD page -/
abbrev Reg.AUD_FADE : Nat := 0x12040
abbrev Reg.AUD_GATE : Nat := 0x12044
abbrev Reg.AUD_TICK_LOST : Nat := 0x12048
abbrev Reg.AUD_CLR : Nat := 0x1204C
abbrev Reg.AUD_SRC (i : Nat) : Nat := 0x12100 + 0x4 * i
abbrev Reg.AUD_SINK (i : Nat) : Nat := 0x12140 + 0x4 * i
abbrev Reg.AUD_UNDERRUN (i : Nat) : Nat := 0x12200 + 0x4 * i
abbrev Reg.AUD_OVERRUN (i : Nat) : Nat := 0x12240 + 0x4 * i
abbrev Reg.AUD_SLIP_DROP (i : Nat) : Nat := 0x12280 + 0x4 * i
abbrev Reg.AUD_SLIP_REPEAT (i : Nat) : Nat := 0x122C0 + 0x4 * i
abbrev Reg.AUD_ROUTE_CHANGES (i : Nat) : Nat := 0x12300 + 0x4 * i
abbrev Reg.AUD_CLIP (i : Nat) : Nat := 0x12340 + 0x4 * i
abbrev Reg.AUD_SRC_REROUTES (i : Nat) : Nat := 0x12380 + 0x4 * i
/-! ### PDM page -/
abbrev Reg.PDM_CTL (d : Nat) : Nat := 0x18040 + 0x1000 * d
abbrev Reg.PDM_RATE (d : Nat) : Nat := 0x18044 + 0x1000 * d
abbrev Reg.PDM_STATUS (d : Nat) : Nat := 0x18048 + 0x1000 * d
abbrev Reg.PDM_SAT (d : Nat) : Nat := 0x1804C + 0x1000 * d
abbrev Reg.PDM_CLR (d : Nat) : Nat := 0x18050 + 0x1000 * d
/-! ### PCM page -/
abbrev Reg.PCM_TX_CTL (p : Nat) : Nat := 0x16040 + 0x1000 * p
abbrev Reg.PCM_RX_CTL (p : Nat) : Nat := 0x16060 + 0x1000 * p
abbrev Reg.PCM_TX_RATE (p : Nat) : Nat := 0x16044 + 0x1000 * p
abbrev Reg.PCM_RX_RATE (p : Nat) : Nat := 0x16064 + 0x1000 * p
abbrev Reg.PCM_TX_STATUS (p : Nat) : Nat := 0x16048 + 0x1000 * p
abbrev Reg.PCM_RX_STATUS (p : Nat) : Nat := 0x16068 + 0x1000 * p
abbrev Reg.PCM_TX_MEAS (p : Nat) : Nat := 0x1604C + 0x1000 * p
abbrev Reg.PCM_RX_MEAS (p : Nat) : Nat := 0x1606C + 0x1000 * p
abbrev Reg.PCM_TX_REF (p : Nat) : Nat := 0x16050 + 0x1000 * p
abbrev Reg.PCM_RX_REF (p : Nat) : Nat := 0x16070 + 0x1000 * p
abbrev Reg.PCM_MCLK_CTL (p : Nat) : Nat := 0x16080 + 0x1000 * p
abbrev Reg.PCM_RATE_THR (p : Nat) : Nat := 0x16084 + 0x1000 * p
abbrev Reg.PCM_FRAME_ERRS (p : Nat) : Nat := 0x16088 + 0x1000 * p
abbrev Reg.PCM_CLK_LOST (p : Nat) : Nat := 0x1608C + 0x1000 * p
abbrev Reg.PCM_CLR (p : Nat) : Nat := 0x16090 + 0x1000 * p
/-! ### SAF page -/
abbrev Reg.SAF_STATUS : Nat := 0x05040
abbrev Reg.SAF_KICK : Nat := 0x05044
abbrev Reg.SAF_CTL : Nat := 0x05048
abbrev Reg.SAF_TEMP : Nat := 0x0504C
abbrev Reg.SAF_PRIV : Nat := 0x05050
abbrev Reg.SAF_PRIV_POLICY : Nat := 0x05054
abbrev Reg.SAF_TAG_MISMATCHES : Nat := 0x05058
abbrev Reg.SAF_TAG_LAST : Nat := 0x0505C
abbrev Reg.SAF_TAG_LAST_HANDLE : Nat := 0x05060
abbrev Reg.SAF_SELFTEST : Nat := 0x05064
abbrev Reg.SAF_SELFTEST_RUNS : Nat := 0x05068
abbrev Reg.SAF_TEST : Nat := 0x0506C
abbrev Reg.SAF_STAT_CLR : Nat := 0x05070
abbrev Reg.SAF_CEIL_LIMIT (i : Nat) : Nat := 0x05080 + 0x4 * i
abbrev Reg.SAF_CEIL_MAX (i : Nat) : Nat := 0x05090 + 0x4 * i
abbrev Reg.SAF_CEIL_STATE (i : Nat) : Nat := 0x050A0 + 0x4 * i
abbrev Reg.SAF_CEIL_MUTES (i : Nat) : Nat := 0x050B0 + 0x4 * i
/-! ### TRC page -/
abbrev Reg.TRC_CTL : Nat := 0x0D040
abbrev Reg.TRC_ENABLE : Nat := 0x0D044
abbrev Reg.TRC_FILTER : Nat := 0x0D048
abbrev Reg.TRC_BUF_ADDR_LO : Nat := 0x0D04C
abbrev Reg.TRC_BUF_ADDR_HI : Nat := 0x0D050
abbrev Reg.TRC_BUF_LEN : Nat := 0x0D054
abbrev Reg.TRC_BUF_POS_LO : Nat := 0x0D058
abbrev Reg.TRC_BUF_POS_HI : Nat := 0x0D05C
abbrev Reg.TRC_STATUS : Nat := 0x0D060
abbrev Reg.TRC_WRITTEN_LO : Nat := 0x0D064
abbrev Reg.TRC_WRITTEN_HI : Nat := 0x0D068
abbrev Reg.TRC_DROPPED : Nat := 0x0D06C
abbrev Reg.TRC_LOG_READ : Nat := 0x0D070
abbrev Reg.TRC_LOG_STATUS : Nat := 0x0D074
abbrev Reg.TRC_LOG_CHECK_ERRS : Nat := 0x0D078
abbrev Reg.TRC_OBJ_READ : Nat := 0x0D07C
abbrev Reg.TRC_LOG_DATA (i : Nat) : Nat := 0x0D080 + 0x4 * i
abbrev Reg.TRC_OBJ_DATA (i : Nat) : Nat := 0x0D0A0 + 0x4 * i
abbrev Reg.TRC_LOG_STATE (i : Nat) : Nat := 0x0D0C0 + 0x4 * i
abbrev Reg.TRC_SNAP_ADDR_LO : Nat := 0x0D0D0
abbrev Reg.TRC_SNAP_ADDR_HI : Nat := 0x0D0D4
abbrev Reg.TRC_SNAP_CTL : Nat := 0x0D0D8
abbrev Reg.TRC_CLR : Nat := 0x0D0DC
/-! ### SPK page -/
abbrev Reg.SPK_STATE (k : Nat) : Nat := 0x80040 + 0x1000 * k
abbrev Reg.SPK_FAIL (k : Nat) : Nat := 0x80044 + 0x1000 * k
abbrev Reg.SPK_MACS_LO (k : Nat) : Nat := 0x80048 + 0x1000 * k
abbrev Reg.SPK_MACS_HI (k : Nat) : Nat := 0x8004C + 0x1000 * k
abbrev Reg.SPK_BUSY_LO (k : Nat) : Nat := 0x80050 + 0x1000 * k
abbrev Reg.SPK_BUSY_HI (k : Nat) : Nat := 0x80054 + 0x1000 * k
abbrev Reg.SPK_WBYTES_LO (k : Nat) : Nat := 0x80058 + 0x1000 * k
abbrev Reg.SPK_WBYTES_HI (k : Nat) : Nat := 0x8005C + 0x1000 * k
abbrev Reg.SPK_SRAM_CORR (k : Nat) : Nat := 0x80060 + 0x1000 * k
abbrev Reg.SPK_SRAM_UNCORR (k : Nat) : Nat := 0x80064 + 0x1000 * k
abbrev Reg.SPK_SRAM_ADDR (k : Nat) : Nat := 0x80068 + 0x1000 * k
abbrev Reg.SPK_RESIDUE_ERRS (k : Nat) : Nat := 0x8006C + 0x1000 * k
abbrev Reg.SPK_RIM_RETRIES (k : Nat) : Nat := 0x80070 + 0x1000 * k
abbrev Reg.SPK_NAN_INT8 (k : Nat) : Nat := 0x80074 + 0x1000 * k
abbrev Reg.SPK_SAT_INT8 (k : Nat) : Nat := 0x80078 + 0x1000 * k
abbrev Reg.SPK_STAT_CLR (k : Nat) : Nat := 0x8007C + 0x1000 * k

end Sys2Proof.Machine
end

