-- ==== Sys2Proof/Machine/RegTable.lean ====
section
/-! DEFINITION. The register tables of the spec, one list for each block: for every register its offset, the
masks of its RW, W1C, W1S and WO fields, and its reset value where the table states a number (R101, R104, R106,
Table 0-3). A reset value the table names by a source (store, fuse, boot, variant, sampled, measured) is 0 here and
is supplied by the register file's reset values in Ops.lean or read from the state that holds it. -/

namespace Sys2Proof.Machine

/-- Whether a register stands alone or is half of a 64-bit pair (R106). -/
inductive PairRole where
  | single | lo | hi
  deriving DecidableEq, Repr

/-- One row of a register table: the register at `off + stride * i` for `i < count`. Fields outside the four masks
are read-only or reserved. -/
structure RegSpec where
  off    : Nat
  stride : Nat
  count  : Nat
  rw     : Nat
  w1c    : Nat
  w1s    : Nat
  wo     : Nat
  reset  : Nat
  role   : PairRole
  deriving DecidableEq, Repr

def idnRegs : List RegSpec := [
  ⟨0x040, 0x0, 1, 0x0, 0x0, 0x0, 0x0, 0x0, .single⟩, -- IDN_ASSEMBLY
  ⟨0x044, 0x0, 1, 0x0, 0x0, 0x0, 0x0, 0x0, .single⟩ -- IDN_STRAPS
  ]

def pwrRegs : List RegSpec := [
  ⟨0x040, 0x0, 1, 0x0, 0x0, 0x0, 0x0, 0x3, .single⟩, -- PWR_STATE
  ⟨0x044, 0x0, 1, 0x3F, 0x0, 0x80000000, 0x0, 0x2B, .single⟩, -- PWR_STATE_CTL
  ⟨0x048, 0x0, 1, 0x107, 0x0, 0x0, 0x0, 0x0, .single⟩, -- PWR_LISTEN_CTL
  ⟨0x04C, 0x0, 1, 0x1E, 0x0, 0x0, 0x0, 0xB, .single⟩, -- PWR_WAKE_EN
  ⟨0x050, 0x0, 1, 0x0, 0x3F, 0x0, 0x0, 0x0, .single⟩, -- PWR_WAKE_CAUSE
  ⟨0x054, 0x0, 1, 0xFFFFFFFF, 0x0, 0x0, 0x0, 0x0, .single⟩, -- PWR_AON_TIMER
  ⟨0x058, 0x0, 1, 0x0, 0x0, 0x0, 0x0, 0x0, .lo⟩, -- PWR_AON_TIME_LO
  ⟨0x05C, 0x0, 1, 0x0, 0x0, 0x0, 0x0, 0x0, .hi⟩, -- PWR_AON_TIME_HI
  ⟨0x060, 0x0, 1, 0xFFFF0000, 0x0, 0x0, 0x0, 0xA5A0000, .single⟩, -- PWR_VIN
  ⟨0x064, 0x0, 1, 0xFFFFFFF, 0x0, 0x0, 0x0, 0x640000, .single⟩, -- PWR_LIMIT
  ⟨0x068, 0x0, 1, 0xF, 0x0, 0x0, 0x0, 0x4, .single⟩, -- PWR_HEADWIND_CTL
  ⟨0x06C, 0x0, 1, 0x0, 0x0, 0x0, 0x0, 0x0, .single⟩, -- PWR_HEADWIND
  ⟨0x070, 0x0, 1, 0x0, 0x0, 0x0, 0x0, 0x0, .single⟩, -- PWR_AVG
  ⟨0x074, 0x0, 1, 0x0, 0x0, 0x0, 0x0, 0x0, .lo⟩, -- PWR_ENERGY_LO
  ⟨0x078, 0x0, 1, 0x0, 0x0, 0x0, 0x0, 0x0, .hi⟩, -- PWR_ENERGY_HI
  ⟨0x07C, 0x0, 1, 0x0, 0x0, 0x0, 0x0, 0x0, .single⟩, -- PWR_OVER_ALLOWANCE
  ⟨0x080, 0x0, 1, 0x0, 0x0, 0x0, 0x3, 0x0, .single⟩ -- PWR_STAT_CLR
  ]

def clkRegs : List RegSpec := [
  ⟨0x040, 0x0, 1, 0x0, 0x0, 0x0, 0x0, 0x10, .single⟩, -- CLK_REF_STATUS
  ⟨0x044, 0x0, 1, 0x0, 0x0, 0x0, 0x0, 0x0, .lo⟩, -- CLK_TICK_LO
  ⟨0x048, 0x0, 1, 0x0, 0x0, 0x0, 0x0, 0x0, .hi⟩, -- CLK_TICK_HI
  ⟨0x04C, 0x0, 1, 0x73, 0x0, 0x0, 0x0, 0x2, .single⟩, -- CLK_TICK_CTL
  ⟨0x050, 0x0, 1, 0x0, 0x0, 0x0, 0x0, 0x2, .single⟩, -- CLK_TICK_STATUS
  ⟨0x054, 0x0, 1, 0x0, 0x0, 0x0, 0x0, 0x0, .single⟩, -- CLK_TICK_MEASURED
  ⟨0x058, 0x0, 1, 0x133, 0x0, 0x0, 0x0, 0x3, .single⟩, -- CLK_SPOKE_CTL
  ⟨0x05C, 0x0, 1, 0x0, 0x0, 0x0, 0x0, 0x30, .single⟩, -- CLK_SPOKE_STATUS
  ⟨0x060, 0x0, 1, 0x0, 0x0, 0x0, 0x0, 0x0, .single⟩ -- CLK_SPOKE_CHANGES
  ]

def thmRegs : List RegSpec := [
  ⟨0x040, 0x0, 1, 0xFFFF, 0x0, 0x0, 0x0, 0x645C, .single⟩, -- THM_CTL
  ⟨0x044, 0x0, 1, 0x0, 0x0, 0x0, 0x0, 0x0, .single⟩, -- THM_MAX
  ⟨0x048, 0x0, 1, 0x0, 0x0, 0x0, 0x0, 0x0, .single⟩, -- THM_PEAK
  ⟨0x04C, 0x0, 1, 0x0, 0x0, 0x0, 0x0, 0x0, .single⟩, -- THM_WARN_TICKS
  ⟨0x050, 0x0, 1, 0x0, 0x0, 0x0, 0x3, 0x0, .single⟩, -- THM_CLR
  ⟨0x080, 0x4, 16, 0x0, 0x0, 0x0, 0x0, 0x0, .single⟩ -- THM_SENSOR
  ]

def hdrRegs : List RegSpec := [
  ⟨0x000, 0x0, 1, 0x0, 0x0, 0x0, 0x0, 0x10000, .single⟩, -- HDR_ID
  ⟨0x004, 0x0, 1, 0x0, 0x0, 0x0, 0x0, 0x0, .single⟩, -- HDR_CAP
  ⟨0x008, 0x0, 1, 0x3F, 0x0, 0x0, 0x0, 0x0, .single⟩, -- HDR_CTL
  ⟨0x00C, 0x0, 1, 0x0, 0x0, 0x0, 0x0, 0x0, .single⟩, -- HDR_STATUS
  ⟨0x010, 0x0, 1, 0x0, 0xE0FFFFFF, 0x0, 0x0, 0x0, .single⟩, -- HDR_INT_STATUS
  ⟨0x014, 0x0, 1, 0xFFFFFFFF, 0x0, 0x0, 0x0, 0x0, .single⟩, -- HDR_INT_ENABLE
  ⟨0x018, 0x0, 1, 0x0, 0x0, 0x0, 0xFFFFFFFF, 0x0, .single⟩, -- HDR_INT_SET
  ⟨0x01C, 0x0, 1, 0x0, 0x80000000, 0x0, 0x0, 0x0, .single⟩, -- HDR_ERR
  ⟨0x020, 0x0, 1, 0x0, 0x0, 0x0, 0x0, 0x0, .single⟩, -- HDR_ERR_ADDR
  ⟨0x024, 0x0, 1, 0x0, 0x0, 0x7, 0x0, 0x0, .single⟩, -- HDR_CLAIM
  ⟨0x028, 0x0, 1, 0x0, 0x0, 0x0, 0x0, 0xFF, .single⟩, -- HDR_CLAIM_OWNER
  ⟨0x02C, 0x0, 1, 0xFFFFFFFF, 0x0, 0x0, 0x0, 0x0, .single⟩ -- HDR_SCRATCH
  ]

def rstRegs : List RegSpec := [
  ⟨0x040, 0x0, 1, 0x0, 0x0, 0x1, 0x0, 0x0, .single⟩, -- RST_CTL
  ⟨0x044, 0x0, 1, 0x0, 0x0, 0x0, 0x0, 0x0, .single⟩, -- RST_CAUSE
  ⟨0x048, 0x0, 1, 0x0, 0x0, 0x0, 0x0, 0x0, .single⟩, -- RST_RESETN_COUNT
  ⟨0x04C, 0x0, 1, 0x0, 0x0, 0x0, 0x0, 0x0, .single⟩, -- RST_DEVICE_COUNT
  ⟨0x050, 0x0, 1, 0x0, 0x0, 0x0, 0x3, 0x0, .single⟩ -- RST_CLR
  ]

def hubRegs : List RegSpec := [
  ⟨0x040, 0x0, 1, 0x0, 0x0, 0x0, 0x0, 0x2, .single⟩, -- HUB_STATE
  ⟨0x044, 0x0, 1, 0x0, 0x0, 0x1, 0x0, 0x0, .single⟩, -- HUB_CTL
  ⟨0x048, 0x0, 1, 0x0, 0x0, 0x0, 0x0, 0x0, .single⟩, -- HUB_RESTARTS
  ⟨0x04C, 0x0, 1, 0x0, 0x0, 0x0, 0x0, 0x0, .single⟩, -- HUB_OVERLONG
  ⟨0x050, 0x0, 1, 0x0, 0x0, 0x0, 0x0, 0x0, .lo⟩, -- HUB_LAST_TICK_LO
  ⟨0x054, 0x0, 1, 0x0, 0x0, 0x0, 0x0, 0x0, .hi⟩, -- HUB_LAST_TICK_HI
  ⟨0x058, 0x0, 1, 0x0, 0x0, 0x0, 0x0, 0x0, .single⟩, -- HUB_LAST_DURATION
  ⟨0x05C, 0x0, 1, 0x0, 0x0, 0x0, 0x3, 0x0, .single⟩ -- HUB_STAT_CLR
  ]

def hub0Regs : List RegSpec := [
  ⟨0x100, 0x0, 1, 0x0, 0x0, 0x0, 0x0, 0x0, .single⟩, -- HUB_FW_STATE
  ⟨0x104, 0x0, 1, 0x0, 0x0, 0x0, 0x0, 0x0, .single⟩, -- HUB_FW_VERSION
  ⟨0x108, 0x0, 1, 0x0, 0x0, 0x0, 0x0, 0x0, .single⟩, -- HUB_IFACE_FW
  ⟨0x10C, 0x0, 1, 0xFFFFFFFF, 0x0, 0x0, 0x0, 0x0, .single⟩, -- HUB_IFACE_DRIVER
  ⟨0x110, 0x0, 1, 0x0, 0x0, 0x1, 0x0, 0x0, .single⟩, -- HUB_IFACE_CTL
  ⟨0x114, 0x0, 1, 0x0, 0x0, 0x0, 0x0, 0x0, .single⟩, -- HUB_BANK_STATUS
  ⟨0x118, 0x4, 2, 0x0, 0x0, 0x0, 0x0, 0x0, .single⟩, -- HUB_BANK_VERSION
  ⟨0x120, 0x0, 1, 0xFFFFFFFF, 0x0, 0x0, 0x0, 0x0, .lo⟩, -- HUB_FW_ADDR_LO
  ⟨0x124, 0x0, 1, 0xFFFFFFFF, 0x0, 0x0, 0x0, 0x0, .hi⟩, -- HUB_FW_ADDR_HI
  ⟨0x128, 0x0, 1, 0xFFFFFF, 0x0, 0x0, 0x0, 0x0, .single⟩, -- HUB_FW_LEN
  ⟨0x12C, 0x0, 1, 0x107, 0x0, 0x80000000, 0x0, 0x0, .single⟩, -- HUB_FW_CTL
  ⟨0x130, 0x0, 1, 0x0, 0x0, 0x0, 0x0, 0x0, .single⟩, -- HUB_FW_STATUS
  ⟨0x134, 0x0, 1, 0x0, 0x0, 0x0, 0x0, 0x0, .single⟩, -- HUB_BOOT_TIME
  ⟨0x138, 0x0, 1, 0x0, 0x0, 0x0, 0x0, 0x0, .single⟩, -- HUB_REPAIR
  ⟨0x13C, 0x0, 1, 0xF0F, 0x0, 0x0, 0x0, 0x802, .single⟩, -- HUB_RETRAIN_CTL
  ⟨0x140, 0x0, 1, 0x0, 0x0, 0x0, 0x0, 0x0, .single⟩, -- HUB_RETRAINS
  ⟨0x144, 0x0, 1, 0x0, 0x0, 0x0, 0x0, 0x0, .single⟩, -- HUB_RETRAIN_FAILS
  ⟨0x148, 0x0, 1, 0x0, 0x0, 0x0, 0x3, 0x0, .single⟩ -- HUB_FW_STAT_CLR
  ]

def lnkRegs : List RegSpec := [
  ⟨0x040, 0x0, 1, 0x0, 0x0, 0x0, 0x0, 0x0, .single⟩, -- LNK_STATUS
  ⟨0x044, 0x0, 1, 0xFF, 0x0, 0x0, 0x0, 0x10, .single⟩, -- LNK_CTL
  ⟨0x048, 0x0, 1, 0x1FFF1FFF, 0x0, 0x0, 0x0, 0xC5C0862, .single⟩, -- LNK_LTR
  ⟨0x04C, 0x0, 1, 0x3, 0x0, 0x0, 0x0, 0x0, .single⟩, -- LNK_WAKE_CTL
  ⟨0x050, 0x0, 1, 0x0, 0x0, 0x0, 0x0, 0x0, .single⟩, -- LNK_FLIGHT
  ⟨0x054, 0x0, 1, 0x0, 0x0, 0x0, 0x0, 0x0, .single⟩, -- LNK_CORR_ERRS
  ⟨0x058, 0x0, 1, 0x0, 0x0, 0x0, 0x0, 0x0, .single⟩, -- LNK_DMA_ERRS
  ⟨0x05C, 0x0, 1, 0x0, 0x0, 0x0, 0x0, 0x0, .single⟩, -- LNK_RETRAINS
  ⟨0x060, 0x0, 1, 0x0, 0x0, 0x0, 0x0, 0x0, .single⟩, -- LNK_HOST_RESETS
  ⟨0x064, 0x0, 1, 0x0, 0x0, 0x0, 0x0, 0x0, .single⟩, -- LNK_L1_EXITS
  ⟨0x068, 0x0, 1, 0x0, 0x0, 0x0, 0x1F, 0x0, .single⟩ -- LNK_STAT_CLR
  ]

def rdrRegs : List RegSpec := [
  ⟨0x040, 0x0, 1, 0x0, 0x0, 0x0, 0x0, 0x0, .single⟩, -- RDR_STATE
  ⟨0x044, 0x0, 1, 0x0, 0x0, 0x1, 0x0, 0x0, .single⟩, -- RDR_CTL
  ⟨0x048, 0x0, 1, 0x0, 0x0, 0x0, 0x0, 0x0, .single⟩, -- RDR_FLIGHT
  ⟨0x04C, 0x0, 1, 0x0, 0x0, 0x0, 0x0, 0x0, .single⟩, -- RDR_BACKLOG
  ⟨0x050, 0x0, 1, 0x0, 0x0, 0x0, 0x0, 0x0, .single⟩, -- RDR_CPL_DROPPED
  ⟨0x054, 0x0, 1, 0x0, 0x0, 0x0, 0x0, 0x0, .single⟩, -- RDR_DMA_ERRS
  ⟨0x058, 0x0, 1, 0x0, 0x0, 0x0, 0x0, 0x0, .single⟩, -- RDR_RESETS
  ⟨0x05C, 0x0, 1, 0x0, 0x0, 0x0, 0x7, 0x0, .single⟩, -- RDR_STAT_CLR
  ⟨0x100, 0x20, 4, 0xFFFFFFFF, 0x0, 0x0, 0x0, 0x0, .lo⟩, -- RDR_SQ_BASE_LO
  ⟨0x104, 0x20, 4, 0xFFFFFFFF, 0x0, 0x0, 0x0, 0x0, .hi⟩, -- RDR_SQ_BASE_HI
  ⟨0x108, 0x20, 4, 0x13F, 0x0, 0x0, 0x0, 0x0, .single⟩, -- RDR_SQ_CTL
  ⟨0x10C, 0x20, 4, 0x1FFFF, 0x0, 0x0, 0x0, 0x0, .single⟩, -- RDR_SQ_TAIL
  ⟨0x110, 0x20, 4, 0x0, 0x0, 0x0, 0x0, 0x0, .single⟩, -- RDR_SQ_HEAD
  ⟨0x200, 0x20, 4, 0xFFFFFFFF, 0x0, 0x0, 0x0, 0x0, .lo⟩, -- RDR_CQ_BASE_LO
  ⟨0x204, 0x20, 4, 0xFFFFFFFF, 0x0, 0x0, 0x0, 0x0, .hi⟩, -- RDR_CQ_BASE_HI
  ⟨0x208, 0x20, 4, 0x33F0F, 0x0, 0x0, 0x0, 0x0, .single⟩, -- RDR_CQ_CTL
  ⟨0x20C, 0x20, 4, 0x1FFFF, 0x0, 0x0, 0x0, 0x0, .single⟩, -- RDR_CQ_HEAD
  ⟨0x210, 0x20, 4, 0x0, 0x0, 0x0, 0x0, 0x0, .single⟩, -- RDR_CQ_TAIL
  ⟨0x400, 0x4, 64, 0x1FFFF, 0x0, 0x0, 0x0, 0x0, .single⟩, -- RDR_VEC_MOD
  ⟨0xF00, 0x4, 16, 0x0, 0x0, 0x0, 0x0, 0x0, .single⟩ -- RDR_INT_SUMMARY (R124)
  ]

def jnlRegs : List RegSpec := [
  ⟨0x040, 0x0, 1, 0x0, 0x0, 0x0, 0x0, 0x0, .single⟩, -- JNL_STATUS
  ⟨0x044, 0x0, 1, 0x0, 0x0, 0x0, 0x0, 0x0, .single⟩, -- JNL_PENDING
  ⟨0x048, 0x0, 1, 0x0, 0x0, 0x0, 0x0, 0x1, .lo⟩, -- JNL_NEXT_LO
  ⟨0x04C, 0x0, 1, 0x0, 0x0, 0x0, 0x0, 0x0, .hi⟩, -- JNL_NEXT_HI
  ⟨0x050, 0x0, 1, 0x1FFF, 0x0, 0x0, 0x0, 0x0, .single⟩, -- JNL_READ_IDX
  ⟨0x054, 0x0, 1, 0x0, 0x0, 0x0, 0x0, 0x0, .single⟩, -- JNL_READ_STATUS
  ⟨0x060, 0x4, 8, 0x0, 0x0, 0x0, 0x0, 0x0, .single⟩, -- JNL_DATA
  ⟨0x080, 0x0, 1, 0xFFFFFFFF, 0x0, 0x0, 0x0, 0x0, .lo⟩, -- JNL_DUMP_ADDR_LO
  ⟨0x084, 0x0, 1, 0xFFFFFFFF, 0x0, 0x0, 0x0, 0x0, .hi⟩, -- JNL_DUMP_ADDR_HI
  ⟨0x088, 0x0, 1, 0x0, 0x0, 0x1, 0x0, 0x0, .single⟩, -- JNL_DUMP_CTL
  ⟨0x08C, 0x0, 1, 0x0, 0x0, 0x0, 0x0, 0x0, .single⟩, -- JNL_CHECK_ERRS
  ⟨0x090, 0x0, 1, 0x0, 0x0, 0x0, 0x1, 0x0, .single⟩ -- JNL_STAT_CLR
  ]

def prsRegs : List RegSpec := [
  ⟨0x040, 0x0, 1, 0x0, 0x0, 0x0, 0x0, 0x0, .single⟩, -- PRS_STATUS
  ⟨0x044, 0x0, 1, 0x0, 0x0, 0x1, 0x0, 0x0, .single⟩, -- PRS_CTL
  ⟨0x048, 0x0, 1, 0x0, 0x0, 0x0, 0x0, 0x0, .single⟩, -- PRS_WINDOWS
  ⟨0x04C, 0x0, 1, 0x0, 0x0, 0x0, 0x0, 0x0, .single⟩, -- PRS_USED
  ⟨0x050, 0x0, 1, 0x0, 0x0, 0x0, 0x0, 0x0, .single⟩, -- PRS_REFUSED
  ⟨0x054, 0x0, 1, 0x0, 0x0, 0x0, 0x0, 0x0, .lo⟩, -- PRS_LAST_LO
  ⟨0x058, 0x0, 1, 0x0, 0x0, 0x0, 0x0, 0x0, .hi⟩, -- PRS_LAST_HI
  ⟨0x05C, 0x0, 1, 0x0, 0x0, 0x0, 0x7, 0x0, .single⟩ -- PRS_STAT_CLR
  ]

def stkRegs : List RegSpec := [
  ⟨0x040, 0x0, 1, 0x0, 0x0, 0x0, 0x0, 0x0, .single⟩, -- STK_STATUS
  ⟨0x044, 0x0, 1, 0x0, 0x0, 0x0, 0x0, 0x0, .single⟩, -- STK_FREE
  ⟨0x048, 0x0, 1, 0x0, 0x0, 0x0, 0x0, 0x0, .single⟩, -- STK_REFRESH_WINDOWS
  ⟨0x04C, 0x0, 1, 0x0, 0x0, 0x0, 0x1, 0x0, .single⟩ -- STK_CLR
  ]

def stk0Regs : List RegSpec := [
  ⟨0x100, 0x0, 1, 0x0, 0x0, 0x0, 0x0, 0x0, .single⟩, -- STK_PAN_STATUS
  ⟨0x104, 0x0, 1, 0x0, 0x0, 0x0, 0x0, 0x0, .lo⟩, -- STK_PAN_BYTES_LO
  ⟨0x108, 0x0, 1, 0x0, 0x0, 0x0, 0x0, 0x0, .hi⟩, -- STK_PAN_BYTES_HI
  ⟨0x10C, 0x0, 1, 0x0, 0x0, 0x0, 0x0, 0x0, .single⟩, -- STK_PAN_DIGEST_FAILS
  ⟨0x110, 0x0, 1, 0x0, 0x0, 0x0, 0x0, 0x0, .single⟩, -- STK_PAN_ABORTS
  ⟨0x140, 0x4, 8, 0x0, 0x0, 0x0, 0x0, 0x0, .single⟩, -- STK_STARVE
  ⟨0x160, 0x4, 8, 0x0, 0x0, 0x0, 0x0, 0x0, .single⟩, -- STK_STARVE_US
  ⟨0x180, 0x0, 1, 0x0, 0x0, 0x0, 0x1F, 0x0, .single⟩ -- STK_PAN_CLR
  ]

def chnRegs : List RegSpec := [
  ⟨0x040, 0x0, 1, 0x0, 0x0, 0x0, 0x0, 0x0, .single⟩, -- CHN_STATE
  ⟨0x044, 0x0, 1, 0x0, 0x0, 0x0, 0x0, 0x0, .single⟩, -- CHN_USE_A
  ⟨0x048, 0x0, 1, 0x0, 0x0, 0x0, 0x0, 0x0, .single⟩, -- CHN_USE_B
  ⟨0x04C, 0x0, 1, 0x0, 0x0, 0x0, 0x0, 0x0, .lo⟩, -- CHN_BYTES_LO
  ⟨0x050, 0x0, 1, 0x0, 0x0, 0x0, 0x0, 0x0, .hi⟩, -- CHN_BYTES_HI
  ⟨0x054, 0x0, 1, 0x0, 0x0, 0x0, 0x0, 0x0, .single⟩, -- CHN_ECC_CORR
  ⟨0x058, 0x0, 1, 0x0, 0x0, 0x0, 0x0, 0x0, .single⟩, -- CHN_ECC_UNCORR
  ⟨0x05C, 0x0, 1, 0x0, 0x0, 0x0, 0x0, 0x0, .lo⟩, -- CHN_ECC_ADDR_LO
  ⟨0x060, 0x0, 1, 0x0, 0x0, 0x0, 0x0, 0x0, .hi⟩, -- CHN_ECC_ADDR_HI
  ⟨0x064, 0x0, 1, 0x0, 0x0, 0x0, 0x7, 0x0, .single⟩ -- CHN_STAT_CLR
  ]

def casRegs : List RegSpec := [
  ⟨0x040, 0x0, 1, 0x0, 0x0, 0x0, 0x0, 0x0, .single⟩, -- CAS_STATE
  ⟨0x044, 0x0, 1, 0x0, 0x0, 0x0, 0x0, 0x0, .single⟩, -- CAS_MODEL_VERSION
  ⟨0x048, 0x0, 1, 0x0, 0x0, 0x0, 0x0, 0x0, .lo⟩, -- CAS_LAYOUT_LO
  ⟨0x04C, 0x0, 1, 0x0, 0x0, 0x0, 0x0, 0x0, .hi⟩, -- CAS_LAYOUT_HI
  ⟨0x050, 0x0, 1, 0x0, 0x0, 0x0, 0x0, 0x0, .single⟩, -- CAS_SHAPE
  ⟨0x054, 0x0, 1, 0x0, 0x0, 0x0, 0x0, 0x0, .single⟩, -- CAS_GRANULES
  ⟨0x058, 0x0, 1, 0x0, 0x0, 0x0, 0x0, 0x0, .lo⟩, -- CAS_ADP_LO
  ⟨0x05C, 0x0, 1, 0x0, 0x0, 0x0, 0x0, 0x0, .hi⟩, -- CAS_ADP_HI
  ⟨0x060, 0x0, 1, 0x0, 0x0, 0x0, 0x0, 0x0, .single⟩, -- CAS_ADP_GRANULES
  ⟨0x064, 0x0, 1, 0x0, 0x0, 0x0, 0x0, 0x0, .single⟩, -- CAS_USERS
  ⟨0x068, 0x0, 1, 0x0, 0x0, 0x0, 0x0, 0x0, .single⟩, -- CAS_LOAD_US
  ⟨0x06C, 0x0, 1, 0x0, 0x0, 0x0, 0x0, 0x0, .single⟩, -- CAS_REPLACES
  ⟨0x070, 0x0, 1, 0x0, 0x0, 0x0, 0x0, 0x0, .single⟩, -- CAS_LAST_RESULT
  ⟨0x074, 0x0, 1, 0x0, 0x0, 0x0, 0x1, 0x0, .single⟩ -- CAS_STAT_CLR
  ]

def cas0Regs : List RegSpec := [
  ⟨0x100, 0x0, 1, 0x0, 0x0, 0x0, 0x0, 0x0, .single⟩, -- CAS_SIG_POLICY
  ⟨0x104, 0x0, 1, 0x0, 0x0, 0x0, 0x0, 0x0, .single⟩, -- CAS_KEYS
  ⟨0x108, 0x0, 1, 0x0, 0x0, 0x0, 0x0, 0x0, .single⟩ -- CAS_SLOTS
  ]

def strRegs : List RegSpec := [
  ⟨0x040, 0x0, 1, 0x0, 0x0, 0x0, 0x0, 0x0, .single⟩, -- STR_STATUS
  ⟨0x044, 0x0, 1, 0x3FF, 0x0, 0x0, 0x0, 0x0, .single⟩, -- STR_READ_IDX
  ⟨0x048, 0x0, 1, 0x0, 0x0, 0x0, 0x0, 0x0, .single⟩, -- STR_STATE_UNITS
  ⟨0x060, 0x4, 8, 0x0, 0x0, 0x0, 0x0, 0x0, .single⟩, -- STR_ENTRY
  ⟨0x080, 0x0, 1, 0x0, 0x0, 0x0, 0x0, 0x0, .single⟩, -- STR_FAULTS
  ⟨0x084, 0x0, 1, 0x0, 0x0, 0x0, 0x0, 0x0, .single⟩, -- STR_ROLLBACKS
  ⟨0x088, 0x0, 1, 0x0, 0x0, 0x0, 0x0, 0x0, .single⟩, -- STR_AUTO_ZERO
  ⟨0x08C, 0x0, 1, 0x0, 0x0, 0x0, 0x0, 0x0, .single⟩, -- STR_IN_DROPPED
  ⟨0x090, 0x0, 1, 0x0, 0x0, 0x0, 0xF, 0x0, .single⟩ -- STR_STAT_CLR
  ]

def kvcRegs : List RegSpec := [
  ⟨0x040, 0x0, 1, 0x0, 0x0, 0x0, 0x0, 0x0, .single⟩, -- KVC_STATUS
  ⟨0x044, 0x0, 1, 0x3FF, 0x0, 0x0, 0x0, 0x0, .single⟩, -- KVC_SEQ_READ_IDX
  ⟨0x048, 0x0, 1, 0x0, 0x0, 0x0, 0x0, 0x0, .single⟩, -- KVC_PAGES_RESIDENT
  ⟨0x04C, 0x0, 1, 0x0, 0x0, 0x0, 0x0, 0x0, .single⟩, -- KVC_PAGES_SPILLED
  ⟨0x060, 0x4, 8, 0x0, 0x0, 0x0, 0x0, 0x0, .single⟩, -- KVC_SEQ_ENTRY
  ⟨0x080, 0x0, 1, 0x0, 0x0, 0x0, 0x0, 0x0, .lo⟩, -- KVC_VERIFY_ACCEPTED_LO
  ⟨0x084, 0x0, 1, 0x0, 0x0, 0x0, 0x0, 0x0, .hi⟩, -- KVC_VERIFY_ACCEPTED_HI
  ⟨0x088, 0x0, 1, 0x0, 0x0, 0x0, 0x0, 0x0, .lo⟩, -- KVC_VERIFY_REJECTED_LO
  ⟨0x08C, 0x0, 1, 0x0, 0x0, 0x0, 0x0, 0x0, .hi⟩, -- KVC_VERIFY_REJECTED_HI
  ⟨0x090, 0x0, 1, 0x0, 0x0, 0x0, 0x0, 0x0, .lo⟩, -- KVC_DESCRIPTORS_LO
  ⟨0x094, 0x0, 1, 0x0, 0x0, 0x0, 0x0, 0x0, .hi⟩, -- KVC_DESCRIPTORS_HI
  ⟨0x098, 0x0, 1, 0x0, 0x0, 0x0, 0x0, 0x0, .single⟩, -- KVC_PAGE_FAULTS
  ⟨0x09C, 0x0, 1, 0x0, 0x0, 0x0, 0x0, 0x0, .single⟩, -- KVC_SPILLS
  ⟨0x0A0, 0x0, 1, 0x0, 0x0, 0x0, 0x0, 0x0, .single⟩, -- KVC_PREFETCHES
  ⟨0x0A4, 0x0, 1, 0x0, 0x0, 0x0, 0x0, 0x0, .single⟩, -- KVC_SPILL_CHECK_FAILS
  ⟨0x0A8, 0x0, 1, 0x0, 0x0, 0x0, 0x0, 0x0, .single⟩, -- KVC_PREFETCH_WAIT_US
  ⟨0x0AC, 0x0, 1, 0x0, 0x0, 0x0, 0x0, 0x0, .single⟩, -- KVC_IN_DROPPED
  ⟨0x0B0, 0x0, 1, 0x0, 0x0, 0x0, 0xFF, 0x0, .single⟩ -- KVC_STAT_CLR
  ]

def prtRegs : List RegSpec := [
  ⟨0x040, 0x0, 1, 0x0, 0x0, 0x0, 0x0, 0x0, .single⟩, -- PRT_STATE
  ⟨0x044, 0x0, 1, 0x33F, 0x0, 0x0, 0x0, 0x1, .single⟩, -- PRT_CTL
  ⟨0x048, 0x0, 1, 0x0, 0x0, 0x0, 0x0, 0x0, .single⟩, -- PRT_PELOTON
  ⟨0x04C, 0x0, 1, 0x0, 0x0, 0x0, 0x0, 0x0, .single⟩, -- PRT_ADMIT
  ⟨0x050, 0x0, 1, 0x0, 0x0, 0x0, 0x0, 0x0, .single⟩, -- PRT_BUDGET_LAST
  ⟨0x054, 0x0, 1, 0x0, 0x0, 0x0, 0x0, 0x0, .single⟩, -- PRT_STROKES_LAST
  ⟨0x058, 0x0, 1, 0x0, 0x0, 0x0, 0x0, 0x0, .lo⟩, -- PRT_SPILL_LO
  ⟨0x05C, 0x0, 1, 0x0, 0x0, 0x0, 0x0, 0x0, .hi⟩, -- PRT_SPILL_HI
  ⟨0x060, 0x0, 1, 0x0, 0x0, 0x0, 0x0, 0x0, .single⟩, -- PRT_SPILL_LEN
  ⟨0x064, 0x0, 1, 0x0, 0x0, 0x0, 0x0, 0x0, .single⟩, -- PRT_LAST_FAULT
  ⟨0x068, 0x0, 1, 0x0, 0x0, 0x0, 0x0, 0x0, .single⟩, -- PRT_RESETS
  ⟨0x06C, 0x0, 1, 0x0, 0x0, 0x0, 0x0, 0x0, .single⟩, -- PRT_OVERRUNS
  ⟨0x070, 0x0, 1, 0x0, 0x0, 0x0, 0x0, 0x0, .single⟩, -- PRT_NO_FIT
  ⟨0x074, 0x0, 1, 0x0, 0x0, 0x0, 0x7, 0x0, .single⟩ -- PRT_STAT_CLR
  ]

def srvRegs : List RegSpec := [
  ⟨0x040, 0x0, 1, 0x3F, 0x0, 0x0, 0x0, 0x20, .single⟩, -- SRV_STROKE_CTL
  ⟨0x044, 0x0, 1, 0x0, 0x0, 0x0, 0x0, 0x0, .single⟩, -- SRV_STATUS
  ⟨0x048, 0x0, 1, 0x0, 0x0, 0x0, 0x0, 0x0, .single⟩, -- SRV_JOB_FAULTS
  ⟨0x04C, 0x0, 1, 0x0, 0x0, 0x0, 0x0, 0x0, .single⟩, -- SRV_NO_FIT
  ⟨0x050, 0x0, 1, 0x0, 0x0, 0x0, 0x0, 0x0, .single⟩, -- SRV_HANDOFF_SUPPRESSED
  ⟨0x054, 0x0, 1, 0x0, 0x0, 0x0, 0x7, 0x0, .single⟩ -- SRV_STAT_CLR
  ]

def drlRegs : List RegSpec := [
  ⟨0x040, 0x0, 1, 0x1FF, 0x0, 0x0, 0x0, 0x124, .single⟩, -- DRL_CTL
  ⟨0x044, 0x0, 1, 0x0, 0x0, 0x0, 0x0, 0x0, .single⟩, -- DRL_OVERRUN_COUNT
  ⟨0x048, 0x0, 1, 0x0, 0x0, 0x0, 0x0, 0x0, .single⟩, -- DRL_DEFERRED
  ⟨0x04C, 0x0, 1, 0x0, 0x0, 0x0, 0x0, 0x0, .single⟩, -- DRL_SHIFTS_DOWN
  ⟨0x050, 0x0, 1, 0x0, 0x0, 0x0, 0x0, 0x0, .single⟩, -- DRL_SHIFTS_UP
  ⟨0x054, 0x0, 1, 0x0, 0x0, 0x0, 0xF, 0x0, .single⟩, -- DRL_STAT_CLR
  ⟨0x080, 0x4, 8, 0x0, 0x0, 0x0, 0x0, 0x10000, .single⟩ -- DRL_LOOP
  ]

def tanRegs : List RegSpec := [
  ⟨0x040, 0x0, 1, 0x7, 0x0, 0x70, 0x0, 0x0, .single⟩, -- TAN_PORT_CTL
  ⟨0x044, 0x0, 1, 0x0, 0x0, 0x0, 0x0, 0x0, .single⟩, -- TAN_PORT_STATUS
  ⟨0x048, 0x0, 1, 0x0, 0x0, 0x0, 0x0, 0x0, .lo⟩, -- TAN_PEER_ID_LO
  ⟨0x04C, 0x0, 1, 0x0, 0x0, 0x0, 0x0, 0x0, .hi⟩, -- TAN_PEER_ID_HI
  ⟨0x050, 0x0, 1, 0x0, 0x0, 0x0, 0x0, 0x0, .single⟩, -- TAN_CRC_ERRS
  ⟨0x054, 0x0, 1, 0x0, 0x0, 0x0, 0x0, 0x0, .single⟩, -- TAN_REPLAYS
  ⟨0x058, 0x0, 1, 0x0, 0x0, 0x0, 0x0, 0x0, .single⟩, -- TAN_DEGRADES
  ⟨0x05C, 0x0, 1, 0x0, 0x0, 0x0, 0x0, 0x0, .lo⟩, -- TAN_TX_FLITS_LO
  ⟨0x060, 0x0, 1, 0x0, 0x0, 0x0, 0x0, 0x0, .hi⟩, -- TAN_TX_FLITS_HI
  ⟨0x064, 0x0, 1, 0x0, 0x0, 0x0, 0x0, 0x0, .lo⟩, -- TAN_RX_FLITS_LO
  ⟨0x068, 0x0, 1, 0x0, 0x0, 0x0, 0x0, 0x0, .hi⟩, -- TAN_RX_FLITS_HI
  ⟨0x06C, 0x0, 1, 0x0, 0x0, 0x0, 0x1F, 0x0, .single⟩ -- TAN_PORT_CLR
  ]

def tancRegs : List RegSpec := [
  ⟨0x040, 0x0, 1, 0x3, 0x0, 0x0, 0x0, 0x0, .single⟩, -- TAN_CHIP
  ⟨0x044, 0x0, 1, 0x3, 0x0, 0x0, 0x0, 0x0, .single⟩, -- TAN_TICK_CTL
  ⟨0x048, 0x0, 1, 0x0, 0x0, 0x0, 0x0, 0x2, .single⟩, -- TAN_TICK_STATUS
  ⟨0x04C, 0x0, 1, 0x0, 0x0, 0x0, 0x0, 0x0, .lo⟩, -- TAN_TICK_OFFSET_LO
  ⟨0x050, 0x0, 1, 0x0, 0x0, 0x0, 0x0, 0x0, .hi⟩, -- TAN_TICK_OFFSET_HI
  ⟨0x054, 0x0, 1, 0x0, 0x0, 0x0, 0x0, 0x0, .single⟩, -- TAN_TICK_TRIMS
  ⟨0x058, 0x0, 1, 0x0, 0x0, 0x0, 0x0, 0x0, .lo⟩, -- TAN_SELF_ID_LO
  ⟨0x05C, 0x0, 1, 0x0, 0x0, 0x0, 0x0, 0x0, .hi⟩, -- TAN_SELF_ID_HI
  ⟨0x060, 0x0, 1, 0x0, 0x0, 0x0, 0x0, 0x0, .single⟩, -- TAN_COLL_OPS
  ⟨0x064, 0x0, 1, 0x0, 0x0, 0x0, 0x0, 0x0, .single⟩, -- TAN_MIG_OUT
  ⟨0x068, 0x0, 1, 0x0, 0x0, 0x0, 0x0, 0x0, .single⟩, -- TAN_MIG_IN
  ⟨0x06C, 0x0, 1, 0x0, 0x0, 0x0, 0x0, 0x0, .single⟩, -- TAN_MIG_FAILS
  ⟨0x070, 0x0, 1, 0x0, 0x0, 0x0, 0x0, 0x0, .single⟩, -- TAN_GROUP_RESETS
  ⟨0x074, 0x0, 1, 0x0, 0x0, 0x0, 0x3F, 0x0, .single⟩, -- TAN_COLL_CLR
  ⟨0x080, 0x4, 16, 0x3FFFFFF7, 0x0, 0x0, 0x0, 0x0, .single⟩ -- TAN_GROUP
  ]

def audRegs : List RegSpec := [
  ⟨0x040, 0x0, 1, 0x1F1F, 0x0, 0x0, 0x0, 0x802, .single⟩, -- AUD_FADE
  ⟨0x044, 0x0, 1, 0x1, 0x0, 0x0, 0x0, 0x0, .single⟩, -- AUD_GATE
  ⟨0x048, 0x0, 1, 0x0, 0x0, 0x0, 0x0, 0x0, .single⟩, -- AUD_TICK_LOST
  ⟨0x04C, 0x0, 1, 0x0, 0x0, 0x0, 0xFF, 0x0, .single⟩, -- AUD_CLR
  ⟨0x100, 0x4, 16, 0x3FFF77F, 0x0, 0x0, 0x0, 0x0, .single⟩, -- AUD_SRC
  ⟨0x140, 0x4, 16, 0x1FF777, 0x0, 0x0, 0x0, 0x1F0000, .single⟩, -- AUD_SINK
  ⟨0x200, 0x4, 16, 0x0, 0x0, 0x0, 0x0, 0x0, .single⟩, -- AUD_UNDERRUN
  ⟨0x240, 0x4, 16, 0x0, 0x0, 0x0, 0x0, 0x0, .single⟩, -- AUD_OVERRUN
  ⟨0x280, 0x4, 16, 0x0, 0x0, 0x0, 0x0, 0x0, .single⟩, -- AUD_SLIP_DROP
  ⟨0x2C0, 0x4, 16, 0x0, 0x0, 0x0, 0x0, 0x0, .single⟩, -- AUD_SLIP_REPEAT
  ⟨0x300, 0x4, 16, 0x0, 0x0, 0x0, 0x0, 0x0, .single⟩, -- AUD_ROUTE_CHANGES
  ⟨0x340, 0x4, 16, 0x0, 0x0, 0x0, 0x0, 0x0, .single⟩, -- AUD_CLIP
  ⟨0x380, 0x4, 16, 0x0, 0x0, 0x0, 0x0, 0x0, .single⟩ -- AUD_SRC_REROUTES
  ]

def pdmRegs : List RegSpec := [
  ⟨0x040, 0x0, 1, 0x3F, 0x0, 0x0, 0x0, 0xA, .single⟩, -- PDM_CTL
  ⟨0x044, 0x0, 1, 0x1FFFF, 0x0, 0x0, 0x0, 0x3E80, .single⟩, -- PDM_RATE
  ⟨0x048, 0x0, 1, 0x0, 0x0, 0x0, 0x0, 0x0, .single⟩, -- PDM_STATUS
  ⟨0x04C, 0x0, 1, 0x0, 0x0, 0x0, 0x0, 0x0, .single⟩, -- PDM_SAT
  ⟨0x050, 0x0, 1, 0x0, 0x0, 0x0, 0x1, 0x0, .single⟩ -- PDM_CLR
  ]

def pcmRegs : List RegSpec := [
  ⟨0x040, 0x0, 1, 0xF77F, 0x0, 0x0, 0x0, 0x2120, .single⟩, -- PCM_TX_CTL
  ⟨0x060, 0x0, 1, 0xF77F, 0x0, 0x0, 0x0, 0x2120, .single⟩, -- PCM_RX_CTL
  ⟨0x044, 0x0, 1, 0x1FFFF, 0x0, 0x0, 0x0, 0xBB80, .single⟩, -- PCM_TX_RATE
  ⟨0x064, 0x0, 1, 0x1FFFF, 0x0, 0x0, 0x0, 0xBB80, .single⟩, -- PCM_RX_RATE
  ⟨0x048, 0x0, 1, 0x0, 0x0, 0x0, 0x0, 0x0, .single⟩, -- PCM_TX_STATUS
  ⟨0x068, 0x0, 1, 0x0, 0x0, 0x0, 0x0, 0x0, .single⟩, -- PCM_RX_STATUS
  ⟨0x04C, 0x0, 1, 0x0, 0x0, 0x0, 0x0, 0x0, .single⟩, -- PCM_TX_MEAS
  ⟨0x06C, 0x0, 1, 0x0, 0x0, 0x0, 0x0, 0x0, .single⟩, -- PCM_RX_MEAS
  ⟨0x050, 0x0, 1, 0x0, 0x0, 0x0, 0x0, 0x0, .single⟩, -- PCM_TX_REF
  ⟨0x070, 0x0, 1, 0x0, 0x0, 0x0, 0x0, 0x0, .single⟩, -- PCM_RX_REF
  ⟨0x080, 0x0, 1, 0xF, 0x0, 0x0, 0x0, 0x2, .single⟩, -- PCM_MCLK_CTL
  ⟨0x084, 0x0, 1, 0xFFFF, 0x0, 0x0, 0x0, 0x3E8, .single⟩, -- PCM_RATE_THR
  ⟨0x088, 0x0, 1, 0x0, 0x0, 0x0, 0x0, 0x0, .single⟩, -- PCM_FRAME_ERRS
  ⟨0x08C, 0x0, 1, 0x0, 0x0, 0x0, 0x0, 0x0, .single⟩, -- PCM_CLK_LOST
  ⟨0x090, 0x0, 1, 0x0, 0x0, 0x0, 0x3, 0x0, .single⟩ -- PCM_CLR
  ]

def safRegs : List RegSpec := [
  ⟨0x040, 0x0, 1, 0x0, 0x0, 0x0, 0x0, 0x1, .single⟩, -- SAF_STATUS
  ⟨0x044, 0x0, 1, 0x0, 0x0, 0x0, 0x0, 0x0, .single⟩, -- SAF_KICK
  ⟨0x048, 0x0, 1, 0x0, 0x0, 0x7, 0x0, 0x0, .single⟩, -- SAF_CTL
  ⟨0x04C, 0x0, 1, 0x0, 0x0, 0x0, 0x0, 0x0, .single⟩, -- SAF_TEMP
  ⟨0x050, 0x0, 1, 0x0, 0x0, 0x10000, 0x0, 0x0, .single⟩, -- SAF_PRIV
  ⟨0x054, 0x0, 1, 0x0, 0x0, 0x0, 0x0, 0x0, .single⟩, -- SAF_PRIV_POLICY
  ⟨0x058, 0x0, 1, 0x0, 0x0, 0x0, 0x0, 0x0, .single⟩, -- SAF_TAG_MISMATCHES
  ⟨0x05C, 0x0, 1, 0x0, 0x0, 0x0, 0x0, 0x0, .single⟩, -- SAF_TAG_LAST
  ⟨0x060, 0x0, 1, 0x0, 0x0, 0x0, 0x0, 0x0, .single⟩, -- SAF_TAG_LAST_HANDLE
  ⟨0x064, 0x0, 1, 0x0, 0x0, 0x0, 0x0, 0x0, .single⟩, -- SAF_SELFTEST
  ⟨0x068, 0x0, 1, 0x0, 0x0, 0x0, 0x0, 0x0, .single⟩, -- SAF_SELFTEST_RUNS
  ⟨0x06C, 0x0, 1, 0x0, 0x0, 0x3F, 0x0, 0x0, .single⟩, -- SAF_TEST
  ⟨0x070, 0x0, 1, 0x0, 0x0, 0x0, 0x7, 0x0, .single⟩, -- SAF_STAT_CLR
  ⟨0x080, 0x4, 4, 0xFFFFFFFF, 0x0, 0x0, 0x0, 0x0, .single⟩, -- SAF_CEIL_LIMIT
  ⟨0x090, 0x4, 4, 0xFFFFFFFF, 0x0, 0x0, 0x0, 0x0, .single⟩, -- SAF_CEIL_MAX
  ⟨0x0A0, 0x4, 4, 0x0, 0x0, 0x4, 0x0, 0x0, .single⟩, -- SAF_CEIL_STATE
  ⟨0x0B0, 0x4, 4, 0x0, 0x0, 0x0, 0x0, 0x0, .single⟩ -- SAF_CEIL_MUTES
  ]

def trcRegs : List RegSpec := [
  ⟨0x040, 0x0, 1, 0x3, 0x0, 0x0, 0x0, 0x0, .single⟩, -- TRC_CTL
  ⟨0x044, 0x0, 1, 0x7FFFFFE, 0x0, 0x0, 0x0, 0x0, .single⟩, -- TRC_ENABLE
  ⟨0x048, 0x0, 1, 0xFFFFFF, 0x0, 0x0, 0x0, 0xFFFFFF, .single⟩, -- TRC_FILTER
  ⟨0x04C, 0x0, 1, 0xFFFFFFFF, 0x0, 0x0, 0x0, 0x0, .lo⟩, -- TRC_BUF_ADDR_LO
  ⟨0x050, 0x0, 1, 0xFFFFFFFF, 0x0, 0x0, 0x0, 0x0, .hi⟩, -- TRC_BUF_ADDR_HI
  ⟨0x054, 0x0, 1, 0xFFFFFF, 0x0, 0x0, 0x0, 0x10, .single⟩, -- TRC_BUF_LEN
  ⟨0x058, 0x0, 1, 0xFFFFFFF, 0x0, 0x0, 0x0, 0x0, .lo⟩, -- TRC_BUF_POS_LO
  ⟨0x05C, 0x0, 1, 0xFFFFFFFF, 0x0, 0x0, 0x0, 0x0, .hi⟩, -- TRC_BUF_POS_HI
  ⟨0x060, 0x0, 1, 0x0, 0x0, 0x0, 0x0, 0x0, .single⟩, -- TRC_STATUS
  ⟨0x064, 0x0, 1, 0x0, 0x0, 0x0, 0x0, 0x0, .lo⟩, -- TRC_WRITTEN_LO
  ⟨0x068, 0x0, 1, 0x0, 0x0, 0x0, 0x0, 0x0, .hi⟩, -- TRC_WRITTEN_HI
  ⟨0x06C, 0x0, 1, 0x0, 0x0, 0x0, 0x0, 0x0, .single⟩, -- TRC_DROPPED
  ⟨0x070, 0x0, 1, 0x1FFF, 0x0, 0x0, 0x0, 0x0, .single⟩, -- TRC_LOG_READ
  ⟨0x074, 0x0, 1, 0x0, 0x0, 0x0, 0x0, 0x0, .single⟩, -- TRC_LOG_STATUS
  ⟨0x078, 0x0, 1, 0x0, 0x0, 0x0, 0x0, 0x0, .single⟩, -- TRC_LOG_CHECK_ERRS
  ⟨0x07C, 0x0, 1, 0x7FF, 0x0, 0x0, 0x0, 0x0, .single⟩, -- TRC_OBJ_READ
  ⟨0x080, 0x4, 8, 0x0, 0x0, 0x0, 0x0, 0x0, .single⟩, -- TRC_LOG_DATA
  ⟨0x0A0, 0x4, 8, 0x0, 0x0, 0x0, 0x0, 0x0, .single⟩, -- TRC_OBJ_DATA
  ⟨0x0C0, 0x4, 4, 0x0, 0x0, 0x0, 0x0, 0x0, .single⟩, -- TRC_LOG_STATE
  ⟨0x0D0, 0x0, 1, 0xFFFFFFFF, 0x0, 0x0, 0x0, 0x0, .lo⟩, -- TRC_SNAP_ADDR_LO
  ⟨0x0D4, 0x0, 1, 0xFFFFFFFF, 0x0, 0x0, 0x0, 0x0, .hi⟩, -- TRC_SNAP_ADDR_HI
  ⟨0x0D8, 0x0, 1, 0x0, 0x0, 0x1, 0x0, 0x0, .single⟩, -- TRC_SNAP_CTL
  ⟨0x0DC, 0x0, 1, 0x0, 0x0, 0x0, 0xF, 0x0, .single⟩ -- TRC_CLR
  ]

def spkRegs : List RegSpec := [
  ⟨0x040, 0x0, 1, 0x0, 0x0, 0x0, 0x0, 0x0, .single⟩, -- SPK_STATE
  ⟨0x044, 0x0, 1, 0x0, 0x0, 0x0, 0x0, 0x0, .single⟩, -- SPK_FAIL
  ⟨0x048, 0x0, 1, 0x0, 0x0, 0x0, 0x0, 0x0, .lo⟩, -- SPK_MACS_LO
  ⟨0x04C, 0x0, 1, 0x0, 0x0, 0x0, 0x0, 0x0, .hi⟩, -- SPK_MACS_HI
  ⟨0x050, 0x0, 1, 0x0, 0x0, 0x0, 0x0, 0x0, .lo⟩, -- SPK_BUSY_LO
  ⟨0x054, 0x0, 1, 0x0, 0x0, 0x0, 0x0, 0x0, .hi⟩, -- SPK_BUSY_HI
  ⟨0x058, 0x0, 1, 0x0, 0x0, 0x0, 0x0, 0x0, .lo⟩, -- SPK_WBYTES_LO
  ⟨0x05C, 0x0, 1, 0x0, 0x0, 0x0, 0x0, 0x0, .hi⟩, -- SPK_WBYTES_HI
  ⟨0x060, 0x0, 1, 0x0, 0x0, 0x0, 0x0, 0x0, .single⟩, -- SPK_SRAM_CORR
  ⟨0x064, 0x0, 1, 0x0, 0x0, 0x0, 0x0, 0x0, .single⟩, -- SPK_SRAM_UNCORR
  ⟨0x068, 0x0, 1, 0x0, 0x0, 0x0, 0x0, 0x0, .single⟩, -- SPK_SRAM_ADDR
  ⟨0x06C, 0x0, 1, 0x0, 0x0, 0x0, 0x0, 0x0, .single⟩, -- SPK_RESIDUE_ERRS
  ⟨0x070, 0x0, 1, 0x0, 0x0, 0x0, 0x0, 0x0, .single⟩, -- SPK_RIM_RETRIES
  ⟨0x074, 0x0, 1, 0x0, 0x0, 0x0, 0x0, 0x0, .single⟩, -- SPK_NAN_INT8
  ⟨0x078, 0x0, 1, 0x0, 0x0, 0x0, 0x0, 0x0, .single⟩, -- SPK_SAT_INT8
  ⟨0x07C, 0x0, 1, 0x0, 0x0, 0x0, 0xFF, 0x0, .single⟩ -- SPK_STAT_CLR
  ]

end Sys2Proof.Machine
end

