-- ==== Sys2Proof/Machine/State.lean ====
section
/-! DEFINITION. The state of the block, as plain data: everything the spec gives it, the queue of commands that wait,
and the model's own fields (the clock `now`, the counter `freeCtr` of the free values, the trace `out` of what the
block sends). The faults and refusals a command can end in, and the state right after reset. -/
namespace Sys2Proof.Machine
open Sys2Proof

/-! ### Output to the world -/

/-- What the block sends out, in order (newest first in `State.out`): DMA writes to host memory, DMA reads it asks
for, MSI-X messages, power-management messages and tandem messages. -/
inductive OutEvent where
  /-- A write of bytes to host memory at an address, with the requester function (R171, Table 6-4). -/
  | hostWrite (fn addr : Nat) (bytes : List Byte)
  /-- A read of host memory asked for, with the requester function. -/
  | hostRead (fn addr len : Nat)
  /-- The message of an MSI-X vector of a function (R123, R169), with the table entry's address and data. -/
  | msix (fn vec : Nat)
  /-- A PM_PME message (R183). -/
  | pmPme
  /-- An LTR message with the value of LNK_LTR it carries (R181). -/
  | ltr (value scale : Nat)
  /-- A request for ASPM L1 (R180). -/
  | l1Request
  /-- A 50 µs pulse on TICK_OUT (R50). -/
  | tickOut
  /-- A message or flit sent on a tandem port (R441 to R462). -/
  | tandem (port : Nat) (msg : TanMsg)
  /-- TANn_SB held low for 2 ms (R462). -/
  | sideband (port : Nat)
  /-- Samples an audio sink puts out in one router frame. -/
  | audio (sink : Nat) (samples : List Int)
  deriving DecidableEq, Repr

/-! ### The part: what no reset changes -/

/-- State of a firmware bank (Table 5-3). -/
inductive BankState where
  | empty | active | standby | trial | failed
  deriving DecidableEq, Repr

/-- One bank of the firmware store (R136): its state, its count of attempts and the image bytes. -/
structure Bank where
  st       : BankState
  attempts : Nat
  image    : List Byte
  deriving DecidableEq, Repr

/-- A pairing record (R444). -/
structure TanRecord where
  peerId   : Nat
  peerChip : Nat
  ownChip  : Nat
  deriving DecidableEq, Repr

/-- Fuses and the persistent store (R48, R133, R136, R138, R262, R445, R509, R510). -/
structure Part where
  variant     : Variant
  sealFuse    : Bool
  repairFuses : List Nat            -- spokes mapped out at the factory (R133)
  revoked     : Nat                 -- revocation fuses of the four boot keys (R138)
  dieId       : Nat                 -- TAN_SELF_ID
  bank0       : Bank
  bank1       : Bank
  sigPolicy   : Nat                 -- CAS_SIG_POLICY (R262)
  privPolicy  : Nat                 -- SAF_PRIV_POLICY (R510)
  ceilMax     : List (Nat × Word)   -- SAF_CEIL_MAX, by output (R509)
  tanRecords  : List (Nat × TanRecord) -- pairing record of each port (R445)
  bootKeys    : List (Nat × Nat)    -- boot ROM public keys (R138)
  deriving DecidableEq, Repr

/-! ### The tick generator -/

/-- The tick generator (R18, R19, R71, Table 3-27). Length and source are CLK_TICK_CTL's codes. -/
structure TickGen where
  number   : DWord                  -- CLK_TICK
  running  : Bool                   -- stopped in AON (R71) and before edge 0
  length   : Nat                    -- length code in force
  source   : Nat                    -- source code in force
  pend     : Option (Nat × Nat × Nat) -- written length and source waiting, and when written
  refused  : Bool                   -- CLK_TICK_STATUS.refused
  fallback : Bool                   -- CLK_TICK_STATUS.fallback
  lastEdge : Nat                    -- time of the last edge, µs
  lastUs   : Nat                    -- measured length of the last tick, µs
  trimNs   : Int                    -- trim of the next tick (R448)
  deriving DecidableEq, Repr

/-! ### Registers -/

/-- A register write waiting to be applied: who wrote it, where, and the word (both words for a whole pair). -/
structure RegWrite where
  agent : Nat
  off   : Nat
  val   : Word
  hi    : Option Word
  deriving DecidableEq, Repr

/-- A claim on a page (R111, R112): its owner, when it was granted, the shadowed RW values and the held triggers in
the order written. -/
structure Claim where
  owner   : Nat
  since   : Nat
  shadow  : List (Nat × Word)
  trigger : List RegWrite
  deriving DecidableEq, Repr

/-- A commit that waits for its application point (R113, R467): what to apply, and the writes held behind it. -/
structure Commit where
  owner   : Nat
  shadow  : List (Nat × Word)
  trigger : List RegWrite
  behind  : List RegWrite
  deriving DecidableEq, Repr

/-- The register file: every register's stored word by BAR0 offset (an unlisted register holds its reset value), held
_LO words by agent and offset (R107), claims and commits by page, audio writes waiting for the router frame (R467),
and the writes a restarting hub has still to act on (R103), by hub. -/
structure RegFile where
  vals    : List (Nat × Word)
  heldLo  : List ((Nat × Nat) × Word)
  claims  : List (Nat × Claim)
  commits : List (Nat × Commit)
  audio   : List RegWrite
  hubActs : List (Nat × RegWrite)
  deriving DecidableEq, Repr

/-! ### Power, clocks, heat -/

/-- Power states (Table 3-3), OFF among them. -/
inductive PowerState where
  | off | aon | listen | serve | kick
  deriving DecidableEq, Repr

/-- A power transition in progress (Table 3-5): from where to where, when it started, and whether its actions are
complete, so that the new state comes into force at the next edge. -/
structure Transition where
  src   : PowerState
  dst   : PowerState
  since : Nat
  done  : Bool
  deriving DecidableEq, Repr

/-- The power controller (R60 to R72). -/
structure Power where
  st       : PowerState
  trans    : Option Transition
  request  : Option (Nat × Nat)     -- target written, and when (R67)
  aonSince : Nat                    -- when the tick generator stopped (R71)
  wakeNext : Option Nat             -- wake target of a cause that came during AON entry
  held     : List RegWrite          -- host writes that arrived in AON (R184)
  vinArmed : Bool                   -- vin_low re-armed (R61)
  factory  : Bool                   -- factory test (R51)
  deriving DecidableEq, Repr

/-- The headwind governor (R82, R85, R86). `pAvg` is in nW. -/
structure Governor where
  pAvg      : Nat
  hPower    : Nat
  hThermal  : Nat
  lowEdges  : Nat    -- consecutive edges with P_avg at or below 0.9 of the limit
  coolEdges : Nat    -- consecutive edges with a lower thermal target
  hotEdges  : Nat    -- consecutive edges at full headwind under pressure
  easyEdges : Nat    -- consecutive edges that satisfy the raise rule
  cap       : Nat    -- DVFS cap
  overAllow : Bool   -- last edge was above the allowance
  over105   : Bool   -- last edge had Tmax at or above 105 °C
  warned    : Bool   -- last edge had Tmax at or above warn_c
  wasHot    : Bool   -- last edge had Tmax at or above hot_c
  tmax      : Int    -- hottest value over the tick so far, in quarter degrees
  tmaxIdx   : Nat
  seen      : Bool   -- a sample was taken in the tick
  lastTmax  : Int    -- Tmax of the tick just ended
  deriving DecidableEq, Repr

/-- One temperature sensor (R81, R88). -/
structure Sensor where
  temp    : Int      -- quarter degrees
  valid   : Bool
  flagged : Bool     -- sensor_invalid was raised
  deriving DecidableEq, Repr

/-! ### Hubs, boot and firmware -/

/-- State of a hub core (HUB_STATE.state). -/
inductive HubRun where
  | running | restarting | held
  deriving DecidableEq, Repr

/-- One hub core (R148 to R152). -/
structure Hub where
  run     : HubRun
  cause   : Nat          -- HUB_STATE.last_cause
  since   : Nat          -- start of the current restart
  sinceTick : DWord
  recent  : List Nat     -- starts of the latest restarts, for the third within 1,000 ms (R130)
  missed  : Bool         -- the restart covered an edge at which a loop would have committed (R151)
  deriving DecidableEq, Repr

/-- Firmware states (Table 5-7). -/
inductive FwState where
  | booting | recovery | waitDriver | running | refused
  deriving DecidableEq, Repr

/-- A firmware store operation in progress (R153, R154). -/
structure FwOp where
  op     : Nat
  target : Nat           -- bank being written
  image  : List Byte
  result : Nat           -- the result it will end with
  scratch : Option Nat   -- the scratch allocation that holds the staged image
  deriving DecidableEq, Repr

/-- Boot and firmware (R131 to R156). -/
structure Boot where
  fw        : FwState
  stage     : Nat            -- HUB_FW_STATE.boot_stage
  since     : Nat            -- release of cold reset or start of the device reset
  booted    : Nat            -- bank booted
  trial     : Bool
  fellBack  : Bool
  image     : List Byte      -- header and payload of the running image
  resetReq  : Option Nat     -- a device reset asked for, with its RST_CAUSE
  resetting : Bool           -- a device reset is running
  resetCause : Nat           -- RST_CAUSE
  refSel    : Bool
  testEn    : Bool
  refLocked : Bool
  offer     : Bool           -- an offer made in BOOTING is waiting
  refuseAt  : Option Nat     -- a refusal waiting for its tick edge: effective driver major (R144)
  admitHold : Bool           -- accepted again out of REFUSED: admission resumes at the next edge (R144)
  op        : Option FwOp
  presStuck : Bool           -- IDN_STRAPS.pres_stuck
  presLow   : Bool           -- PRES_N is low now
  highSince : Option Nat     -- since when PRES_N has been seen high
  resetnAt  : Option Nat     -- end of the last RESET_N pulse since VIN came up (R568)
  heldImage : Option (List Byte) -- image and outcome that a held firmware operation's write brought (R103)
  heldStored : Bool
  deriving DecidableEq, Repr

/-! ### The host link -/

/-- Configuration space of one function, the fields the block acts on (R165, R175, R176, R180 to R184). -/
structure FnCfg where
  d3hot      : Bool
  bme        : Bool
  msixEn     : Bool
  msixMask   : Bool
  pmeEn      : Bool
  mps        : Nat
  mrrs       : Nat
  cplTimeout : Nat           -- µs; 0: disabled
  deriving DecidableEq, Repr

/-- SR-IOV and link controls of the physical function. -/
structure PfCfg where
  vfEnable : Bool
  numVFs   : Nat
  ari      : Bool
  ltrEn    : Bool
  aspmL1   : Bool
  l1ss     : Nat             -- 0: L1, 1: L1.1, 2: L1.2 as the L1 PM Substates control permits
  deriving DecidableEq, Repr

/-- One MSI-X table entry (R169). -/
structure MsixEntry where
  addr   : DWord
  data   : Word
  masked : Bool
  deriving DecidableEq, Repr

/-- Moderation of one vector of one rider (R170): since when a message is due, whether it waits for a tick edge, the
edge it waits 40 µs after, when the last message was sent, and whether a message past moderation is held (R123). -/
structure VecState where
  due      : Option Nat
  needEdge : Bool
  edge     : Option Nat
  lastSent : Option Nat
  held     : Bool
  deriving DecidableEq, Repr

/-- A kind of completion entry (Table 7-4). -/
inductive CplKind where
  | final | output | event
  deriving DecidableEq, Repr

/-- A completion entry produced and not yet written (R198, R199). `order` is the acceptance order of its owner. -/
structure CplEntry where
  rider   : Nat
  sq      : Nat
  cq      : Nat
  order   : Nat
  tag     : Nat
  seq     : Nat
  epoch   : Nat
  code    : Nat
  kind    : CplKind
  status  : Nat
  result  : Nat
  payload : List Byte
  obj     : Nat                  -- handle of the object whose output buffer takes the payload
  region  : Option (Nat × Nat)   -- identity and host address of the payload's place once released
  tick    : Option DWord         -- edge that released it; none while it waits
  deriving DecidableEq, Repr

/-- An output region that a written OUTPUT entry reports, freed when the head doorbell passes its slot (R200). -/
structure Reported where
  rider  : Nat
  cq     : Nat
  pos    : Nat                   -- absolute ring position (slot and phase as a count)
  obj    : Nat
  region : Nat
  deriving DecidableEq, Repr

/-- A circular output buffer (R200). Regions are (identity, start, length). -/
structure OutBuf where
  addr    : Nat
  len     : Nat
  next    : Nat
  regions : List (Nat × Nat × Nat)
  nextId  : Nat
  deriving DecidableEq, Repr

/-- The identity a serving object reports under: its opening command (R198). -/
structure Owner where
  rider : Nat
  sq    : Nat
  cq    : Nat
  order : Nat
  tag   : Nat
  seq   : Nat
  epoch : Nat
  op    : Nat                    -- opcode that its OUTPUT entries carry
  deriving DecidableEq, Repr

/-- Where an accepted command stands. -/
inductive CmdStage where
  /-- Held until every earlier command of its ring is decided (R196). -/
  | fenced
  /-- Passed checks 1 to 10 and waits for check 11 at a tick edge (R203). -/
  | check11
  /-- Held because its slot is REPLACING or its partition parked (R66, R280). -/
  | held
  /-- Its effect runs. -/
  | running
  /-- Outcome decided: FINAL waits for release. -/
  | decided
  deriving DecidableEq, Repr

/-- An accepted command whose FINAL has not been written (R191, R199). -/
structure Cmd where
  own    : Owner
  pos    : Nat                   -- journal position of its COMMAND entry
  tick   : DWord                 -- tick number at acceptance
  at_    : Nat                   -- time of acceptance
  desc   : Desc
  stage  : CmdStage
  status : Nat
  result : Nat
  deriving DecidableEq, Repr

/-- The host link, rings and completions. -/
structure Link where
  fns      : List (Nat × FnCfg)
  pf       : PfCfg
  msix     : List ((Nat × Nat) × MsixEntry)
  vecs     : List ((Nat × Nat) × VecState)
  perstLow : Bool                -- PERST_N or ULNK_RST_N asserted
  wasReset : Bool                -- the host-link reset has acted since the link was last up (R179)
  idleSince : Nat
  wakePin  : Bool                -- WAKE_N or UWAKE_N asserted
  resetting : List (Nat × Nat)   -- riders being reset, with the start of the reset
  hostReset : List (Nat × Nat)   -- riders whose host-link state is being reset (R179)
  ltrActive : Option Bool        -- the value the last LTR message carried
  reads    : List (Nat × Nat)    -- issued reads outstanding, by rider
  fetchStop : List (Nat × Nat)   -- rings whose last fetch failed (R191)
  visit    : Nat                 -- ring visited last, rider * 4 + ring; 64 after a time with nothing to fetch
  cmds     : List Cmd
  entries  : List CplEntry       -- produced, not yet released or waiting
  backlog  : List (Nat × List CplEntry) -- held entries by rider (R176)
  reported : List Reported
  bufs     : List (Nat × OutBuf) -- output buffer by object handle
  accepted : Nat                 -- acceptance order counter
  discard  : Nat                 -- entries of commands accepted before this order are never written (R179)
  high     : List Nat            -- riders whose backlog reached 192 and has not been below 128 since (R543)
  paused   : Bool                -- acceptance paused at 1,024 (R191)
  deriving DecidableEq, Repr

/-! ### The journal and presence -/

/-- One journal entry (Table 7-8); the check is kept as stored. -/
structure JEntry where
  seq   : Nat
  epoch : Nat
  tick  : DWord
  type  : Nat
  agent : Nat
  code  : Nat
  tag   : Nat
  op    : Nat
  flags : Nat
  arg0  : Nat
  arg1  : Nat
  check : Nat
  deriving DecidableEq, Repr

/-- The journal controller (R205 to R210): used entries by position. -/
structure Journal where
  pos     : List (Nat × JEntry)
  write   : Nat                  -- next write position
  next    : Nat                  -- next sequence number
  epoch   : Nat
  latched : Option JEntry        -- entry latched by JNL_READ_IDX; none: unused
  dumping : Option Nat           -- dump in progress, with its address
  dumpRes : Nat
  deriving DecidableEq, Repr

/-- The presence window (R212): when it opened and how many privileged commands it has admitted. -/
structure Window where
  since : Nat
  used  : Nat
  deriving DecidableEq, Repr

/-! ### Tandem -/

/-- Port states (Table 15-1). -/
inductive PortState where
  | off | detect | train | linked | up | noPartner | degrading | failed
  deriving DecidableEq, Repr

/-- One tandem port (R436 to R446). -/
structure TanPort where
  st       : PortState
  since    : Nat                    -- when the state was entered
  width    : Nat
  lanes    : Nat                    -- mask of lanes in use
  locked   : Nat                    -- mask of lanes that hold bit lock
  peerId   : Nat
  peerChip : Nat
  peerPort : Nat
  root     : Nat                    -- root in its latest TICK flit, 0xFF none
  req      : Option (Nat × Nat)     -- a PAIR_REQ that waits for this chip's: its sender's chip, and the peer it expects
  rttNs    : Nat
  aligned  : Bool                   -- flit boundary fixed (R437)
  willUp   : Bool                   -- becomes UP at the next tick edge
  txSeq    : Nat                    -- next sequence number to send
  rxNext   : Nat                    -- next sequence number expected
  nakOpen  : Bool                   -- a flit was discarded since the last accepted one
  unacked  : List (Nat × TanMsg)    -- replay buffer, oldest first
  again    : List Nat               -- sequence numbers still to be sent again
  waiting  : List TanMsg            -- messages without a credit or a replay place
  ackAt    : Nat                    -- when ack last advanced
  replayAt : Option Nat             -- first flit of the latest replay
  replays  : Nat                    -- consecutive replays that began there
  credit0  : Nat
  credit1  : Nat
  sbUntil  : Nat                    -- sideband held low until
  deriving DecidableEq, Repr

/-- A pairing in progress (R445). -/
structure Pairing where
  port    : Nat
  chip    : Nat                     -- expected peer chip
  order   : Nat                     -- acceptance order of the TAN_PAIR
  since   : Nat
  agreed  : Bool                    -- both requests match; the record is written
  deriving DecidableEq, Repr

/-- A migration this chip is the source of (R457, R458). -/
structure MigOut where
  port    : Nat
  handle  : Nat
  order   : Nat                     -- acceptance order of the MIGRATE
  peer    : Option Nat              -- handle at the peer, once accepted
  started : Bool                    -- edge e has passed
  done    : Bool                    -- MIG_DONE sent
  code    : Option Nat              -- refused or abandoned, with the code
  deriving DecidableEq, Repr

/-- A migration this chip is the target of (R458, R459). -/
structure MigIn where
  port    : Nat
  source  : Nat                     -- source handle
  handle  : Nat                     -- handle given here
  part    : Nat
  adapter : Nat
  mask    : Nat                     -- permitted mask of the producer (R443)
  bytes   : Nat
  data    : List Byte
  done    : Bool
  tag     : Nat
  deriving DecidableEq, Repr

/-- Tandem state of the chip. -/
structure Tandem where
  ports    : List (Nat × TanPort)
  pairing  : List Pairing
  locked   : Bool
  good     : Nat                    -- consecutive edges within ±1 µs
  missing  : Nat                    -- consecutive TICK flits missing
  got      : Bool                   -- a TICK flit came since the last edge
  first    : Bool                   -- the first measurement has been taken
  skewNs   : Int
  offset   : DWord
  leaderRoot : Nat                  -- root in the leader's TICK flit, 0xFF none
  leaderLen  : Nat
  migOut   : List MigOut
  migIn    : List MigIn
  gotCommit : List (Nat × DWord)    -- COMMIT held for a slot's group, with its tick
  remote   : List (Nat × Nat)       -- E + D reported by peers, by port and handle (R459)
  peerHW   : List (Nat × (Nat × Nat)) -- h and W reported by the peer on a port
  xferNo   : Nat                    -- next transfer number
  lastIn   : List (Nat × Nat)       -- the object that arrived last on a port: its late input follows (R458)
  away     : List (Nat × Nat × Nat × Nat) -- consumers on a peer: local name, producer here, port, handle there (R459)
  deriving DecidableEq, Repr

/-! ### Weight stacks and spokes -/

/-- State of a weight-stack channel (CHN_STATE.state). -/
inductive ChanState where
  | active | selfRefresh | off | failed
  deriving DecidableEq, Repr

/-- One channel (R218, R145 to R147, R230, R231). -/
structure Channel where
  st        : ChanState
  trainedAt : Nat                  -- last training
  trainedT  : Option Int           -- stack temperature at that training, quarter degrees
  due       : Bool                 -- a retraining window is wanted
  window    : Bool                 -- a window runs in the current tick
  fails     : Nat                  -- consecutive failed windows
  uncorr    : List (Nat × Nat)     -- uncorrectable bursts: (time, device address)
  bad       : List Nat             -- granules with an uncorrectable cassette burst
  withdrawn : List Nat             -- granules withdrawn from allocation
  deriving DecidableEq, Repr

/-- Granule classes in descending priority (R224). -/
inductive GranClass where
  | cassette | state | kv | scratch
  deriving DecidableEq, Repr

/-- One allocated granule: where, for what, for whom (an owner number of its class), its place among those that the owner
took on the channel, and its age. -/
structure Alloc where
  chan  : Nat
  gran  : Nat
  cls   : GranClass
  owner : Nat
  idx   : Nat
  age   : Nat
  deriving DecidableEq, Repr

/-- State of a spoke (Table 11-7), with the cause of a failure. -/
inductive SpokeState where
  | good | spare | failed | fused
  deriving DecidableEq, Repr

/-- One physical spoke (R311, R312, R333). -/
structure Spoke where
  st      : SpokeState
  cause   : Nat                    -- SPK_FAIL.cause
  uncorr  : List (Nat × Nat)       -- uncorrectable SRAM words: (time, offset)
  residue : List Nat               -- times of residue mismatches
  deriving DecidableEq, Repr

/-- A request for granules that waits for pages to be spilled (R224, R388): class, owner, channels, and granules on each
channel; for a stream state, the share in 4 KiB units. -/
structure Want where
  cls   : GranClass
  owner : Nat
  chans : List Nat
  count : Nat
  deriving DecidableEq, Repr

/-- The weight stacks, the spokes and the rows. -/
structure Stacks where
  chans    : List (Nat × Channel)
  allocs   : List Alloc
  nextAge  : Nat
  wants    : List Want
  homes    : List (Nat × Nat)      -- rehomed spokes: row * 8 + logical column, and the channel
  rehome   : List (Nat × Nat)      -- channels that failed and wait for rehoming, with the time
  spokes   : List (Nat × Spoke)
  logical  : List (Nat × Nat)      -- renumbered columns: row * 8 + logical column, and the physical column
  rowLost  : Nat                   -- HUB_REPAIR.row_lost
  spareUsed : Nat                  -- HUB_REPAIR.spare_used
  renumber : List (Nat × Nat)      -- rows waiting for a rebuild (R334), with the partition or 8
  hot      : Nat                   -- stacks under hot refresh in this tick
  deriving DecidableEq, Repr

/-! ### Partitions and serving loops -/

/-- Partition states (Table 14-2). -/
inductive PrtState where
  | free | building | ready | parked | resetting | waitReload | halted | discarding
  deriving DecidableEq, Repr

/-- What a stroke is for (R407, R408): a kind 0 stroke or a main stroke, or a draft stroke at a gear. -/
inductive StrokeKind where
  | main | draft
  deriving DecidableEq, Repr

/-- What a member does in a stroke: a stream's unit, queued input tokens, one decoding position, the verification of a
round's drafts, or one draft (R348, R349, R373, R392). -/
inductive Role where
  | unit | input | decode | verify | draft
  deriving DecidableEq, Repr

/-- One member's part of a stroke: its handle, its role, the first sequence position it writes, the tokens it writes
with their rider tags, the positions it takes, padding included (R375, R376), and for queued input the tokens that its
turn still had to write. -/
structure StrokeItem where
  handle    : Nat
  role      : Role
  base      : Nat
  tokens    : List (Nat × Nat)
  positions : Nat
  turn      : Nat
  deriving DecidableEq, Repr

/-- A stroke in flight (R405, R409). Times in ps. -/
structure Stroke where
  kind    : StrokeKind
  gear    : Nat
  items   : List StrokeItem
  start   : Nat                  -- time it started, µs
  base    : Nat                  -- uncorrected prediction, ps
  crossed : Bool                 -- it was in flight at a tick edge
  waiting : Bool                 -- still waiting for pannier data
  number  : Nat                  -- stroke number in the tick
  deriving DecidableEq, Repr

/-- A drafting round in progress (R408): the draft strokes left, heaviest gear first, as (gear, members). -/
structure Round where
  drafts : List (Nat × List Nat)
  deriving DecidableEq, Repr

/-- One partition with its serving loop (R399 to R426). -/
structure Prt where
  st        : PrtState
  rows      : Nat
  slot      : Nat
  graph     : Nat
  maxPel    : Nat
  spillBase : Nat
  spillLen  : Nat
  order     : Nat                -- acceptance order of the PRT_BUILD or PRT_DISCARD in progress
  built     : Bool               -- the build's work is complete
  overAdm   : Bool               -- over_admitted
  admitEnd  : Nat                -- E + D of the last check, µs
  admitBud  : Nat                -- A of the last check, µs
  recheck   : Bool               -- R414: repeat the check at the next edge
  gear      : Nat
  hold      : Nat
  corr      : Nat                -- c_p in units of 2^-16
  budget    : Nat                -- µs, of the current tick
  wTick     : Nat                -- W of the current tick, µs
  stroke    : Option Stroke
  round     : Option Round
  strokes   : Nat                -- strokes started in the tick
  mains     : Nat                -- main strokes run in the tick
  usedPs    : Nat                -- measured stroke time in the tick, ps
  inLast    : Nat                -- members in the last stroke of the tick
  lastBud   : Nat
  lastUsed  : Nat
  lastStrokes : Nat
  lastIn    : Nat
  starved   : Bool               -- force a downshift at the next boundary (R418)
  overNow   : Bool                -- an overrun in this tick (R420)
  maxStrokes : Nat                -- SRV_STROKE_CTL.max_strokes in force (Table 14-10)
  overTick  : Bool               -- an overrun in the previous tick
  panUsed   : Bool               -- has cold layers
  panOk     : Bool               -- pannier check passes (R239)
  heldHub   : Option Nat         -- held by R150 since
  faultAt   : Option Nat         -- partition reset in progress: detection time
  faultCode : Nat                -- PRT_LAST_FAULT
  faultTick : Bool               -- the reset began in the current tick: commit nothing
  judged    : Bool                -- the obligation left at the tick's deadline has been judged (R420)
  cleared   : Option Nat         -- the 2 ms step completed at
  rebuild   : Bool               -- R334's rebuild replaces the 2 ms step
  linkWait  : Bool               -- a group waits for links and alignment (R455)
  resets    : List Nat           -- times of resets within the last 1,000 ms
  groupWait : Bool               -- a group partition waits for READY (R452)
  faultWait : Option Nat         -- a job fault found while the SERVE hub restarts, with its code
  deriving DecidableEq, Repr

/-! ### Stroke graphs -/

/-- A tensor entry (Table 10-2); `cls` 0 weight, 1 activation, 2 state, 3 key-value, 4 input, 5 output. -/
structure Tensor where
  cls    : Nat
  fmt    : Nat
  rank   : Nat
  flags  : Nat
  scaled : Nat
  zero5  : Nat
  layer  : Nat
  dims   : List Nat
  pass   : Nat
  scale  : Nat                     -- FP32 bit pattern
  zero18 : Nat
  deriving DecidableEq, Repr

/-- An attribute record (R297). -/
structure Attr where
  id   : Nat
  ty   : Nat
  zero : Nat
  val  : Nat
  deriving DecidableEq, Repr

/-- A node entry with its attribute records (Table 10-4). -/
structure Node where
  op    : Nat
  zero1 : Nat
  layer : Nat
  ins   : List Nat
  outs  : List Nat
  first : Nat
  count : Nat
  zero16 : Nat
  attrs : List Attr
  deriving DecidableEq, Repr

/-- A stroke graph (Table 10-1) with its tables. -/
structure Graph where
  magic     : Nat
  version   : Nat
  hdrLen    : Nat
  length    : Nat
  kind      : Nat
  mode      : Nat
  maxPel    : Nat
  verifyMax : Nat
  placement : Nat
  nTensors  : Nat
  nNodes    : Nat
  tensorOff : Nat
  nodeOff   : Nat
  attrOff   : Nat
  attrCount : Nat
  maxPos    : Nat
  frameUs   : Nat
  chunk     : Nat
  look      : Nat
  zero32    : Nat
  inRate    : Nat
  outRate   : Nat
  zero3C    : Nat
  tensors   : List Tensor
  nodes     : List Node
  deriving DecidableEq, Repr

/-! ### Cassettes -/

/-- Slot states (Table 9-1). -/
inductive SlotState where
  | empty | loading | resident | replacing | needsReload | evicting
  deriving DecidableEq, Repr

/-- One layer-table entry (Table 9-3); `lens` are len_g0 to len_g3. -/
structure LayerEntry where
  format : Nat
  flags  : Nat
  base   : Nat
  rank   : Nat
  offset : Nat
  lens   : List Nat
  deriving DecidableEq, Repr

/-- One resident or cold layer: its entry, its bytes (rings from the lightest gear, R259), and its four digests where it
is cold in the pannier (R237, R256). -/
structure Layer where
  entry   : LayerEntry
  bytes   : List Byte
  digests : List (List Byte)
  deriving DecidableEq, Repr

/-- One adapter of a slot (R273 to R275). -/
structure Adapter where
  owner   : Nat
  version : Nat
  layers  : List Layer
  deriving DecidableEq, Repr

/-- Where an image transfer stands (R265). -/
inductive LoadStage where
  | waiting    -- held in LISTEN before its data is read (R268)
  | header     -- reading the header
  | tables     -- reading tables and graphs
  | weights    -- reading the layers
  | ready      -- passed every check; takes effect at the next tick edge
  deriving DecidableEq, Repr

/-- A load, replacement or adapter load in progress (R263 to R279): the command's acceptance order, what of the image
has arrived and its parsed parts. -/
structure Load where
  order   : Nat
  op      : Nat                     -- 0x10 CAS_LOAD, 0x12 CAS_REPLACE, 0x13 ADP_LOAD
  rider   : Nat
  slot    : Nat
  adapter : Nat                     -- adapter index chosen
  pannier : Bool
  first   : Nat                     -- first_layer and layer_count of a CAS_REPLACE
  count   : Nat
  stage   : LoadStage
  bytes   : List Byte               -- image bytes that have arrived
  entries : List LayerEntry
  graphs  : List Graph
  rows    : Nat                     -- row set placement chose
  owner   : Nat                     -- owner number of its granules
  readyAt : Nat                     -- when lowering ends (R265)
  reload  : Bool
  staged  : Bool                    -- granules have been allocated
  cut     : Bool                    -- a host-link reset has discarded its reads (R179)
  deriving DecidableEq, Repr

/-- A residency slot (R251 to R285). -/
structure Slot where
  st       : SlotState
  owner    : Nat
  gears    : Nat
  upReset  : Bool
  rows     : Nat
  places   : List (Nat × Nat × Nat × Nat) -- each resident layer's owner number, start and end in its bytes (R281)
  pannier  : Bool
  isUnsigned : Bool
  version  : Nat
  layout   : Nat
  layers   : List Layer
  graphs   : List Graph
  adapters : List (Nat × Adapter)
  evictOrder : Nat
  unloads  : List (Nat × Nat)       -- adapters freed at the next edge, with the command's order
  lastOp   : Nat
  lastCode : Nat
  loadUs   : Nat
  deriving DecidableEq, Repr

/-! ### Outputs, streams and sequences -/

/-- One output of a stroke on its way to a commit (R352, R353, R374): the OUTPUT node, the tensor's format, the out_kind,
the rider tag (R515), the frame index or the value of `produced` at its start, the positions it covers, and its
instances, each as raw elements. -/
structure Emit where
  node  : Nat
  fmt   : Nat
  kind  : Nat
  tag   : Nat
  first : Nat
  pos   : Nat
  insts : List (List Nat)
  flags : Nat
  tick  : DWord                     -- the tick in which it was produced
  deriving DecidableEq, Repr

/-- One model frame of a stream's input: the INPUT tensor's instance, the gate-closed mark (R20) and the rider tag. -/
structure Frame where
  data : List Nat
  mark : Bool
  tag  : Nat
  deriving DecidableEq, Repr

/-- Stream states (Table 12-1); a FREE entry is not listed. -/
inductive StrState where
  | opening | running | fault | closing
  deriving DecidableEq, Repr

/-- One copy of a stream's state (R342, R348, R352): its state tensors at G0 extent and its pipeline carry as FP32 or raw
elements, the last token emitted, the frames consumed and the gear of the last stroke. -/
structure StrCopy where
  states  : List (Nat × List Nat)
  carry   : List (Nat × List Nat)
  lastTok : Nat
  frames  : Nat
  gear    : Nat
  deriving DecidableEq, Repr

/-- A STR_EXPORT in progress (R362): its command, the buffer, the blob once the snapshot is taken, and the outcome once
known. -/
structure Export where
  order : Nat
  rider : Nat
  addr  : Nat
  len   : Nat
  blob  : Option (List Byte)
  code  : Option Nat
  deriving DecidableEq, Repr

/-- The import of a state blob (R363): not started until the FINAL is released; then reading; then passed and to be
committed at the next tick edge, or failed with a code. -/
inductive Import where
  | waiting (addr len : Nat)
  | reading (addr len : Nat)
  | passed (copy : StrCopy) (carry : List Frame)
  | failed (code : Nat)
  deriving DecidableEq, Repr

/-- One stream (R338 to R367). -/
structure Stream where
  st        : StrState
  own       : Owner
  prt       : Nat
  adapter   : Nat
  source    : Nat
  policy    : Nat
  producer  : Nat
  ptr       : Option Nat            -- state_ptr, in 4 KiB units
  share     : Nat                   -- 4 KiB units of the area on each channel
  chans     : List Nat              -- the channels of the area
  written   : Bool
  wasReset  : Bool
  comTick   : DWord                 -- edge of its last commit
  check     : Nat
  com       : StrCopy               -- committed copy
  work      : Option StrCopy        -- working copy: the stream has run in the tick
  pend      : List Frame            -- closed input frames, oldest first
  taken     : Nat                   -- frames consumed in the working copy
  part      : List (Nat × Bool)     -- samples of a model frame not yet whole (R21), each with the gate-closed mark
  live      : Bool                  -- takes the samples or the items of its source (R339)
  inFlight  : Bool                  -- in the stroke in flight
  crossing  : Bool                  -- in a stroke that crossed the last edge (R409)
  admitted  : Bool                  -- joins at the first boundary of a tick (R406)
  perm      : Nat                   -- permitted mask of the island's owner table (R516)
  outs      : List Emit             -- outputs produced since the last commit, in order
  imp       : Option Import
  exports   : List Export
  closing   : Option Nat            -- the STR_CLOSE that ends it
  faultCode : Option Nat            -- enters FAULT at the next edge with this check code
  migrating : Bool
  dropNow   : Bool                  -- an input frame was dropped in this tick
  dropLast  : Bool
  rolled    : Bool                  -- its ROLLBACK is due at the next edge
  deriving DecidableEq, Repr

/-- Sequence states (Table 13-1); a FREE entry is not listed. -/
inductive SeqState where
  | idle | running | prefetch | ending
  deriving DecidableEq, Repr

/-- What of a sequence commits at tick edges (R384) and is shown in its table entry (Table 13-2). -/
structure SeqCopy where
  tail     : Nat
  produced : Nat
  next     : Option Nat
  turn     : Bool
  turnOut  : Nat                    -- turn_produced
  queued   : Nat
  gear     : Nat
  deriving DecidableEq, Repr

/-- Where a page of a sequence is (Table 13-4). -/
inductive PageWhere where
  | stack | pannier | spilling | prefetching
  deriving DecidableEq, Repr

/-- One page of a key-value tensor (R381 to R384): its place in the page set, its page-table entry, its marks with those
of the last commit, its rows' keys and values as raw elements, its stack place (channel, granule, page), its spill slot,
the CRC-32 recorded when it was spilled, and the tick of its last use. -/
structure KvPage where
  tensor   : Nat
  ring     : Nat                    -- ring entry; the global page is listed with `glob`
  glob     : Bool
  valid    : Bool
  loc      : PageWhere
  base     : Nat
  comBase  : Nat
  marks    : List (Nat × Nat)       -- row and mark byte; an unlisted row is unwritten
  comMarks : List (Nat × Nat)
  rows     : List (Nat × (List Nat × List Nat))
  chan     : Nat
  gran     : Nat
  idx      : Nat                    -- page within the granule
  held     : Bool                   -- it holds a stack page
  slot     : Option Nat
  crc      : Option Nat
  used     : Nat                    -- order of last use
  want     : Bool                   -- to be spilled after the next tick edge (R388)
  deriving DecidableEq, Repr

/-- One sequence (R369 to R396). -/
structure Seq where
  st        : SeqState
  own       : Owner
  prt       : Nat
  adapter   : Nat
  draftGear : Nat
  draftLen  : Nat
  spill     : Bool
  producer  : Nat
  maxNew    : Nat
  globals   : List Nat
  cur       : SeqCopy
  com       : SeqCopy
  queue     : List (Nat × Nat)      -- queued input tokens with their rider tags
  turnIn    : Nat                   -- tokens of the queue that the open turn has still to write
  drafts    : List Nat              -- drafts of the round so far
  pages     : List KvPage
  tag       : Nat                   -- rider tag of its pages and state
  perm      : Nat                   -- permitted mask of the island's owner table (R516)
  outs      : List Emit             -- tokens and instances emitted since the last commit
  inFlight  : Bool
  crossing  : Bool
  joined    : Bool                  -- joined a stroke in the tick
  admitted  : Bool
  ending    : Option Nat            -- status of its END
  cancel    : Option Nat            -- the SEQ_CANCEL that ends it
  invalid   : Bool                  -- met an invalid page: leaves at the end of the stroke (R395)
  waitFrom  : Option Nat            -- when its PREFETCH began
  migrating : Bool
  deriving DecidableEq, Repr

/-- A producer-to-consumer link (R425): items delivered since the producer's last commit, and items still to be withheld
after a rollback. -/
structure HandLink where
  delivered : Nat
  withhold  : Nat
  deriving DecidableEq, Repr

/-- A handoff on the rim on its way to a consumer (R27). -/
structure Flight where
  producer : Nat
  consumer : Nat
  items    : List Handoff
  deriving DecidableEq, Repr

/-! ### Audio -/

/-- A fade in progress (R484): the sample it falls from, the step reached, the steps in all, and the step at which the
gain stood when the fade began. -/
structure Fade where
  last : Nat
  step : Nat
  len  : Nat
  held : Bool                       -- by AUD_SRC.hold: it falls over the buffered samples (R487)
  deriving DecidableEq, Repr

/-- One router sink (R482 to R487). Samples are FP32 patterns with their rider tag. -/
structure Sink where
  buf      : List (Nat × Nat)
  started  : Bool                   -- takes samples
  startAt  : Option Nat             -- time of the first sample of a tick-fed start
  newest   : Nat                    -- samples of the newest block, at the end of `buf`
  fade     : Option Fade
  ramp     : Option (Nat × Nat)     -- step and length of a rising gain in progress
  rampNext : Bool                   -- the next start ramps
  under    : Bool                   -- in underrun or held: waits for a restart
  flooded  : Bool                   -- discards until drained to 0.5 ms (R485)
  last     : Nat                    -- last sample put out
  underNow : Bool
  overNow  : Bool
  slipNow  : Bool
  deriving DecidableEq, Repr

/-- One link-audio port (R489 to R492). -/
structure AudPort where
  owner    : Nat
  dir      : Nat
  format   : Nat
  channels : Nat
  rate     : Nat
  first    : Nat                    -- router_port
  addr     : Nat
  area     : Nat
  devOff   : Nat
  devLaps  : Nat
  hostOff  : Nat
  hostLaps : Nat
  starved  : Bool                   -- flags bit 0
  ahead    : List (List Nat)        -- frames read ahead (direction 1) or waiting to be written (direction 0)
  deriving DecidableEq, Repr

/-- One PCM direction's clock (R479, R480); `dir` of its key is 0 transmit, 1 receive. -/
structure PcmClock where
  lost      : Bool
  refSet    : Bool                  -- PCM_x_REF has latched a measurement
  deriving DecidableEq, Repr

/-- The audio section. -/
structure Audio where
  sinks    : List (Nat × Sink)
  ports    : List (Nat × AudPort)
  setting  : List (Nat × Option AudPort) -- LNK_AUD_SET waiting for the router frame
  clocks   : List (Nat × PcmClock)  -- by 2 * port + direction
  late     : List (Nat × List (Nat × Nat)) -- blocks committed while the AUDIO hub restarts, oldest first, by sink
  failed   : List Nat               -- page indices of failed ports (R527)
  lastFrame : Nat                   -- time of the last router-frame edge
  flags    : List (Nat × Bool)      -- "in this tick" marks of interrupt causes, by page * 32 + cause
  prev     : List (Nat × Bool)      -- the same for the tick before
  deriving DecidableEq, Repr

/-! ### The safety island -/

/-- The meters of one slot of a pin output (R505): squares of the most recent samples, newest first, in units of 2⁻²⁹⁸; the
sum of the squares since the last long evaluation, and the sums of the long window's 2 ms parts, newest first. -/
structure Meter where
  recent : List Nat
  part   : Nat
  long   : List Nat
  deriving DecidableEq, Repr

/-- One pin output (R505 to R508). -/
structure PinOut where
  meters  : List (Nat × Meter)
  hit     : Option (Nat × Int)      -- an exceedance the island has muted and not yet recorded: 0 short or 1 long, level
  muted   : Bool
  mutedAt : Nat
  clear   : Bool                    -- a clear waits for the router frame
  deriving DecidableEq, Repr

/-- The safety island (R498 to R523). -/
structure Island where
  started  : Bool
  outs     : List (Nat × PinOut)
  sink     : Bool                   -- the PRIV_LED sink is on

  gate     : Bool                   -- the gate is open in this router frame
  closing  : Bool                   -- the sink goes off at the next router frame
  sense    : Nat                    -- PRIV_SENSE above PRIV_LED at the last sense sample, in mV
  lit      : Nat                    -- consecutive lit samples
  dark     : Nat                    -- consecutive dark samples while the sink is on
  forceDark : Nat                   -- sense samples that SAF_TEST.lamp makes dark
  lampFault : Bool                  -- found since the last router frame
  hot      : Nat                    -- consecutive samples at or above 110 °C
  coolFrom : Option Nat             -- since when every sample is below 95 °C
  apart    : Nat                    -- consecutive comparisons above 10 °C
  policy   : Nat                    -- privacy policy in force (R510)
  polNext  : Option Nat             -- policy that applies from the next router frame
  kickRun  : Bool                   -- the kickstand is in force (R503)
  deriving DecidableEq, Repr

/-! ### Logs, trace and counters -/

/-- A hub log entry (Table 19-1). -/
structure LogEntry where
  seq   : Nat
  level : Nat
  code  : Nat
  tick  : DWord
  sub   : Nat
  arg0  : Nat
  arg1  : Nat
  arg2  : Nat
  whole : Bool                      -- the check has been written (R544)
  deriving DecidableEq, Repr

/-- One hub's log ring (R543). -/
structure LogRing where
  pos     : List (Nat × LogEntry)
  next    : Nat
  wrapped : Bool
  seq     : Nat
  deriving DecidableEq, Repr

/-- A trace record (Table 19-3). -/
structure TraceRec where
  point : Nat
  unit  : Nat
  a     : Nat
  tick  : DWord
  sub   : Nat
  b     : Nat
  deriving DecidableEq, Repr

/-- The trace unit (R542 to R556). -/
structure Trace where
  logs     : List (Nat × LogRing)
  latched  : Option LogEntry
  fired    : List (Nat × Nat × Nat × Nat) -- records on their way to the trace unit, oldest first: point, unit, args
  staged   : List TraceRec          -- oldest first
  running  : Bool
  full     : Bool
  enable   : Nat                    -- TRC_ENABLE in force
  filter   : Nat                    -- TRC_FILTER in force
  lost     : Nat                    -- records dropped since the last LOST
  dropNow  : Bool
  dropLast : Bool
  objs     : List (Nat × List Nat)  -- object counters: stream index, or 1,024 + sequence index
  objLast  : Option Nat             -- entry last latched
  snap     : Option (Option (List Byte)) -- a snapshot asked for, and its bytes once latched
  resume   : Bool                   -- tracing resumes at the next tick edge
  deriving DecidableEq, Repr

/-- Why a command stops. -/
inductive Fault where
  /-- Raised by a meaning of an event that the block cannot show in its state (a stroke ends where none is in flight, a
  hub that is not restarting finishes its restart). Safe: the model stops where the hardware has no such event. -/
  | noSuchEvent
  deriving DecidableEq, Repr

/-- Why a command is refused by the model. -/
inductive Refusal where
  /-- Raised only by an arm of `exec` whose command has no meaning yet. Safe: the model stops. -/
  | notModelled (mnemonic : String)
  deriving DecidableEq, Repr

/-- The whole state. -/
structure State where
  pending : List Instr           -- commands waiting, first in first out
  now     : Nat                  -- µs since the model's start (the model's clock)
  freeCtr : Nat                  -- uses of free values so far (the model's own)
  part    : Part
  tick    : TickGen
  regs    : RegFile
  pwr     : Power
  gov     : Governor
  sensors : List (Nat × Sensor)
  hubs    : List (Nat × Hub)
  boot    : Boot
  link    : Link
  jnl     : Journal
  window  : Option Window        -- presence window (R212)
  debug   : Bool                 -- the debug port was opened by DEBUG_UNLOCK (R215)
  mem     : Stacks
  slots   : List (Nat × Slot)    -- residency slots that are not EMPTY
  loads   : List Load            -- image transfers in progress, in acceptance order
  prts    : List (Nat × Prt)     -- partitions that are not FREE
  streams : List (Nat × Stream)  -- stream table, by index
  seqs    : List (Nat × Seq)     -- sequence table, by index
  links   : List ((Nat × Nat) × HandLink) -- producer-to-consumer links (R425)
  flights : List Flight          -- handoffs on the rim, oldest first
  aud     : Audio
  isl     : Island
  trc     : Trace
  tan     : Tandem
  out     : List OutEvent        -- what the block has sent, newest first
  deriving DecidableEq, Repr

/-! ### Reset -/

/-- A part as it is before its first power-up: the non-volatile store holds what R262, R509 and R510 say it arrives with,
no fuse is burnt, both firmware banks are EMPTY and no pairing is recorded (DESIGN CHOICE: the spec gives a new part's
banks, die identifier and variant no value; assumption 2). -/
def Part.fresh : Part :=
  { variant := .fl4HT, sealFuse := false, repairFuses := [], revoked := 0, dieId := 0,
    bank0 := { st := .empty, attempts := 0, image := [] }, bank1 := { st := .empty, attempts := 0, image := [] },
    sigPolicy := 0xFF, privPolicy := 0x3FF,
    ceilMax := (List.range 4).map fun o => (o, 0x000C_000C),
    tanRecords := [], bootKeys := (List.range 4).map Config.bootKey }

/-- SAF_CEIL_LIMIT and SAF_CEIL_MAX at cold reset: both take the stored values (R509). -/
def ceilWords (p : Part) : List (Nat × Word) :=
  (p.ceilMax.map fun x => (0x05080 + 4 * x.1, x.2)) ++ p.ceilMax.map fun x => (0x05090 + 4 * x.1, x.2)

/-- The block in cold reset, before its release: every register at its reset value (the working ceilings at the stored
ones, R509), boot stage 0, the hubs held, the tick generator not yet running and the tick number 0 (R131, Table 5-2). -/
def State.resetOf (p : Part) : State :=
  { pending := [], now := 0, freeCtr := 0, part := p,
    tick := { number := 0, running := false, length := 2, source := 0, pend := none, refused := false, fallback := false,
              lastEdge := 0, lastUs := 0, trimNs := 0 },
    regs := { vals := (ceilWords p).filter fun x => x.2 ≠ 0,
              heldLo := [], claims := [], commits := [], audio := [], hubActs := [] },
    pwr := { st := .serve, trans := none, request := none, aonSince := 0, wakeNext := none, held := [], vinArmed := true,
             factory := false },
    gov := { pAvg := 0, hPower := 0, hThermal := 0, lowEdges := 0, coolEdges := 0, hotEdges := 0, easyEdges := 0, cap := 3,
             overAllow := false, over105 := false, warned := false, wasHot := false, tmax := 0, tmaxIdx := 0, seen := false,
             lastTmax := 0 },
    sensors := [],
    hubs := [],
    boot := { fw := .booting, stage := 0, since := 0, booted := 0, trial := false, fellBack := false, image := [],
              resetReq := none, resetting := false, resetCause := 1, refSel := false, testEn := false, refLocked := false,
              offer := false, refuseAt := none, admitHold := false, op := none, presStuck := false, presLow := false, highSince := none,
              resetnAt := none, heldImage := none, heldStored := false },
    link := { fns := [], pf := { vfEnable := false, numVFs := 0, ari := false, ltrEn := false, aspmL1 := false, l1ss := 0 },
              msix := [], vecs := [], perstLow := true, wasReset := false, idleSince := 0, wakePin := false, resetting := [],
              hostReset := [], ltrActive := none, reads := [], fetchStop := [], visit := 64, cmds := [], entries := [],
              backlog := [], reported := [], bufs := [], accepted := 0, discard := 0, high := [], paused := false },
    jnl := { pos := [], write := 0, next := 1, epoch := 0, latched := none, dumping := none, dumpRes := 0 },
    window := none, debug := false,
    mem := { chans := [], allocs := [], nextAge := 0, wants := [], homes := [], rehome := [], spokes := [], logical := [],
             rowLost := 0, spareUsed := 0, renumber := [], hot := 0 },
    slots := [], loads := [], prts := [], streams := [], seqs := [], links := [], flights := [],
    aud := { sinks := [], ports := [], setting := [], clocks := [], late := [], failed := [], lastFrame := 0, flags := [],
             prev := [] },
    isl := { started := false, outs := [], sink := false, gate := false, closing := false, sense := 0, lit := 0,
             dark := 0, forceDark := 0, lampFault := false, hot := 0, coolFrom := none, apart := 0,
             policy := p.privPolicy, polNext := none, kickRun := true },
    trc := { logs := [], latched := none, fired := [], staged := [], running := false, full := false, enable := 0,
             filter := 0, lost := 0, dropNow := false, dropLast := false, objs := [], objLast := none, snap := none,
             resume := false },
    tan := { ports := [], pairing := [], locked := false, good := 0, missing := 0, got := false, first := false,
             skewNs := 0, offset := 0, leaderRoot := 0xFF, leaderLen := 0, migOut := [], migIn := [], gotCommit := [],
             remote := [], peerHW := [], xferNo := 0, lastIn := [], away := [] },
    out := [] }

/-- The machine right after reset: a fresh part in cold reset (R128). -/
def State.reset : State := State.resetOf Part.fresh

end Sys2Proof.Machine
end

