-- ==== Sys2Proof/Machine/Ops.lean ====
section
/-! DEFINITION. Shared operations: sparse tables, bit fields, byte order, the page map (R95 to R98), the stored words of
the register file, statistics counters (R117), page interrupts and MSI-X messages (R122, R123, R169, R170), the header
error record (R102), the journal controller (R205 to R208), and the forms in which a command answers. -/
namespace Sys2Proof.Machine

/-! ### Sparse tables -/

/-- The value listed under key `k`, if any. -/
def Tab.find {K A : Type} [DecidableEq K] : List (K × A) → K → Option A
  | [], _ => none
  | (j, a) :: t, k => if j = k then some a else Tab.find t k

/-- The value under key `k`, `d` where none is listed. -/
def Tab.get {K A : Type} [DecidableEq K] (d : A) (t : List (K × A)) (k : K) : A := (Tab.find t k).getD d

/-- The table without key `k`. -/
def Tab.erase {K A : Type} [DecidableEq K] (t : List (K × A)) (k : K) : List (K × A) :=
  t.filter fun p => decide (p.1 ≠ k)

/-- The table with `(k, a)` put in before the first larger key. -/
def Tab.insert {A : Type} (k : Nat) (a : A) : List (Nat × A) → List (Nat × A)
  | [] => [(k, a)]
  | (j, b) :: t => if j < k then (j, b) :: Tab.insert k a t else (k, a) :: (j, b) :: t

/-- The table with `k` holding `a`. -/
def Tab.put {A : Type} (t : List (Nat × A)) (k : Nat) (a : A) : List (Nat × A) :=
  Tab.insert k a (Tab.erase t k)

/-- As `Tab.put`, where the value `d` is never listed: writing it removes the entry. -/
def Tab.putD {A : Type} [DecidableEq A] (d : A) (t : List (Nat × A)) (k : Nat) (a : A) : List (Nat × A) :=
  if a = d then Tab.erase t k else Tab.insert k a (Tab.erase t k)

/-- As `Tab.put` for a key that is no number: the new pair stands first. -/
def Tab.set {K A : Type} [DecidableEq K] (t : List (K × A)) (k : K) (a : A) : List (K × A) :=
  (k, a) :: Tab.erase t k

/-! ### Bit fields and byte order -/

/-- Bits `[lo + n - 1 : lo]` of a number. -/
def bitsOf (v lo n : Nat) : Nat := v / 2 ^ lo % 2 ^ n

/-- Bits `[lo + n - 1 : lo]` of a word. -/
def Word.fld (w : Word) (lo n : Nat) : Nat := bitsOf w.toNat lo n

/-- Bit `i` of a word. -/
def Word.bit (w : Word) (i : Nat) : Bool := w.toNat.testBit i

/-- The word with bits `[lo + n - 1 : lo]` replaced by `v`. -/
def Word.setFld (w : Word) (lo n v : Nat) : Word :=
  BitVec.ofNat 32 (w.toNat - Word.fld w lo n * 2 ^ lo + v % 2 ^ n * 2 ^ lo)

/-- 1 for true. -/
def Bool.num (b : Bool) : Nat := if b then 1 else 0

/-- `n` bytes of a number, least significant first (R8). -/
def leBytes : Nat → Nat → List Byte
  | 0, _ => []
  | n + 1, v => BitVec.ofNat 8 v :: leBytes n (v / 256)

/-- The number that bytes spell, least significant first (R8). -/
def leNat : List Byte → Nat
  | [] => 0
  | b :: t => b.toNat + 256 * leNat t

/-- The number that bytes spell, most significant first. -/
def beNat (bs : List Byte) : Nat := bs.foldl (fun a b => a * 256 + b.toNat) 0

/-- `n` bytes at offset `o`, short at the end of the list. -/
def slice (bs : List Byte) (o n : Nat) : List Byte := (bs.drop o).take n

/-- The little-endian field of `n` bytes at offset `o` (R8). -/
def leAt (bs : List Byte) (o n : Nat) : Nat := leNat (slice bs o n)

/-- A number rounded up to a multiple of `m`. -/
def roundUp (v m : Nat) : Nat := (v + m - 1) / m * m

/-- The quotient rounded up. -/
def ceilDiv (a b : Nat) : Nat := (a + b - 1) / b

/-- The bits that are 1 in a mask of `n` bits, as a list. -/
def maskList (n mask : Nat) : List Nat := (List.range n).filter fun i => mask.testBit i

/-- The mask whose listed bits are 1. -/
def listMask (l : List Nat) : Nat := l.foldl (fun m i => if m.testBit i then m else m + 2 ^ i) 0

/-- The mask with bit `i` set. -/
def setBit (m i : Nat) : Nat := if m.testBit i then m else m + 2 ^ i

/-- The mask with bit `i` clear. -/
def clearBit (m i : Nat) : Nat := if m.testBit i then m - 2 ^ i else m

/-- CRC-16 of the journal: polynomial 0x1021, initial value 0xFFFF, no reflection, no final XOR (Table 7-8). -/
def crc16Bits : Nat → Nat → Nat
  | 0, c => c
  | n + 1, c => crc16Bits n (if c.testBit 15 then Nat.xor (c * 2 % 65536) 0x1021 else c * 2 % 65536)

/-- CRC-16 over bytes (Table 7-8). -/
def crc16 (bs : List Byte) : Nat :=
  bs.foldl (fun c b => crc16Bits 8 (Nat.xor c (b.toNat * 256))) 0xFFFF

/-! ### The page map -/

/-- The kind of page: the block of Table 4-1 (the collective engine's page apart from the port pages). -/
inductive Block where
  | idn | pwr | clk | thm | rst | saf | jnl | prs | hub | lnk | trc | srv | drl | str | kvc | aud
  | pcm | pdm | tan | tanc | prt | cas | rdr | stk | chn | spk
  deriving DecidableEq, Repr

/-- Access classes (R98). -/
inductive PageClass where
  | m | s | o
  deriving DecidableEq, Repr

/-- The block and the instance of a page index, if the page is not reserved (Table 4-1). -/
def pageOf (pg : Nat) : Option (Block × Nat) :=
  if pg = 0x000 then some (.idn, 0)
  else if pg = 0x001 then some (.pwr, 0)
  else if pg = 0x002 then some (.clk, 0)
  else if pg = 0x003 then some (.thm, 0)
  else if pg = 0x004 then some (.rst, 0)
  else if pg = 0x005 then some (.saf, 0)
  else if pg = 0x006 then some (.jnl, 0)
  else if pg = 0x007 then some (.prs, 0)
  else if pg ≤ 0x00B then some (.hub, pg - 0x008)
  else if pg = 0x00C then some (.lnk, 0)
  else if pg = 0x00D then some (.trc, 0)
  else if pg = 0x00E then some (.srv, 0)
  else if pg = 0x00F then some (.drl, 0)
  else if pg = 0x010 then some (.str, 0)
  else if pg = 0x011 then some (.kvc, 0)
  else if pg = 0x012 then some (.aud, 0)
  else if 0x016 ≤ pg ∧ pg ≤ 0x017 then some (.pcm, pg - 0x016)
  else if 0x018 ≤ pg ∧ pg ≤ 0x01D then some (.pdm, pg - 0x018)
  else if 0x020 ≤ pg ∧ pg ≤ 0x021 then some (.tan, pg - 0x020)
  else if pg = 0x022 then some (.tanc, 2)
  else if 0x028 ≤ pg ∧ pg ≤ 0x02F then some (.prt, pg - 0x028)
  else if 0x030 ≤ pg ∧ pg ≤ 0x03F then some (.cas, pg - 0x030)
  else if 0x040 ≤ pg ∧ pg ≤ 0x04F then some (.rdr, pg - 0x040)
  else if 0x050 ≤ pg ∧ pg ≤ 0x053 then some (.stk, pg - 0x050)
  else if 0x060 ≤ pg ∧ pg ≤ 0x07F then some (.chn, pg - 0x060)
  else if 0x080 ≤ pg ∧ pg ≤ 0x0C7 then some (.spk, pg - 0x080)
  else none

/-- Block codes (Table 4-1). -/
def Block.code : Block → Nat
  | .idn => 0x01 | .pwr => 0x02 | .clk => 0x03 | .thm => 0x04 | .rst => 0x05 | .saf => 0x18 | .jnl => 0x09
  | .prs => 0x0A | .hub => 0x06 | .lnk => 0x07 | .trc => 0x19 | .srv => 0x10 | .drl => 0x11 | .str => 0x12
  | .kvc => 0x13 | .aud => 0x15 | .pcm => 0x17 | .pdm => 0x16 | .tan | .tanc => 0x14 | .prt => 0x0F | .cas => 0x0B
  | .rdr => 0x08 | .stk => 0x0C | .chn => 0x0D | .spk => 0x0E

/-- Access class of a page (Table 4-1). -/
def Block.cls : Block → PageClass
  | .idn | .clk => .s
  | .rdr => .o
  | _ => .m

/-- Whether the page is claimable (Table 4-1). -/
def Block.claimable : Block → Bool
  | .pwr | .clk | .thm | .saf | .lnk | .trc | .srv | .drl | .str | .kvc | .aud | .pcm | .pdm | .tan | .tanc
  | .prt | .rdr => true
  | .idn | .rst | .jnl | .prs | .hub | .cas | .stk | .chn | .spk => false

/-- Whether the unit of a page exists on the variant (R97). -/
def Block.present (v : Variant) (b : Block) (inst : Nat) : Bool :=
  match b with
  | .stk => inst < v.stacks
  | .chn => inst < v.channels
  | .tan | .tanc => v.tandem
  | _ => true

/-- The hub that Table 4-7 assigns to the page: 0 BOOT, 1 SERVE, 2 PAGE, 3 AUDIO; none for the others. -/
def hubOf (b : Block) (inst : Nat) : Option Nat :=
  match b with
  | .hub => some inst
  | .rst | .stk | .chn => some 0
  | .pwr | .clk | .srv | .drl | .prt | .cas | .str | .spk | .tan | .tanc => some 1
  | .kvc => some 2
  | .aud | .pcm | .pdm => some 3
  | .idn | .thm | .saf | .jnl | .prs | .lnk | .rdr | .trc => none

/-- The register table of a block (header apart). HUB[0], STK[0] and CAS[0] carry further registers (R159, R249,
R285). -/
def Block.regs (b : Block) (inst : Nat) : List RegSpec :=
  match b with
  | .idn => idnRegs | .pwr => pwrRegs | .clk => clkRegs | .thm => thmRegs | .rst => rstRegs | .saf => safRegs
  | .jnl => jnlRegs | .prs => prsRegs
  | .hub => if inst = 0 then hubRegs ++ hub0Regs else hubRegs
  | .lnk => lnkRegs | .trc => trcRegs | .srv => srvRegs | .drl => drlRegs | .str => strRegs | .kvc => kvcRegs
  | .aud => audRegs | .pcm => pcmRegs | .pdm => pdmRegs | .tan => tanRegs | .tanc => tancRegs | .prt => prtRegs
  | .cas => if inst = 0 then casRegs ++ cas0Regs else casRegs
  | .rdr => rdrRegs
  | .stk => if inst = 0 then stkRegs ++ stk0Regs else stkRegs
  | .chn => chnRegs | .spk => spkRegs

/-- Whether a row of a register table describes offset `o`. -/
def RegSpec.covers (r : RegSpec) (o : Nat) : Bool :=
  if r.count = 1 then o = r.off
  else r.off ≤ o && o < r.off + r.stride * r.count && (o - r.off) % r.stride = 0

/-- The register at a BAR0 offset of a page that is not reserved; none at a reserved offset (R109). -/
def specAt (off : Nat) : Option RegSpec :=
  match pageOf (off / 0x1000) with
  | none => none
  | some (b, inst) =>
    let o := off % 0x1000
    if o < 0x40 then hdrRegs.find? fun r => r.covers o
    else (b.regs inst).find? fun r => r.covers o

/-- BAR0 offset of a header register of page `pg` (Table 4-2). -/
def hdrOff (pg o : Nat) : Nat := pg * 0x1000 + o

/-! ### Stored register words -/

/-- Reset value of a register (R9): the register tables' numbers, and PWR_LIMIT's per stack count (Table 3-21) and
PWR_WAKE_EN. -/
def resetWord (v : Variant) (off : Nat) : Word :=
  if off = Reg.PWR_LIMIT then BitVec.ofNat 32 (0x0064_0000 + v.maxMw)
  else match specAt off with
    | some r => BitVec.ofNat 32 r.reset
    | none => 0

/-- The stored word of a register. -/
def State.rd (s : State) (off : Nat) : Word := Tab.get (resetWord s.part.variant off) s.regs.vals off

/-- The state with a register's stored word replaced. -/
def State.wr (s : State) (off : Nat) (w : Word) : State :=
  { s with regs := { s.regs with vals := Tab.putD (resetWord s.part.variant off) s.regs.vals off w } }

/-- A field of a stored register. -/
def State.fld (s : State) (off lo n : Nat) : Nat := Word.fld (s.rd off) lo n

/-- A bit of a stored register. -/
def State.bit (s : State) (off i : Nat) : Bool := Word.bit (s.rd off) i

/-- The state with a field of a stored register replaced. -/
def State.setFld (s : State) (off lo n v : Nat) : State := s.wr off (Word.setFld (s.rd off) lo n v)

/-- The 64-bit value of a pair whose _LO lies at `off` (R106). -/
def State.rd64 (s : State) (off : Nat) : Nat := (s.rd off).toNat + 2 ^ 32 * (s.rd (off + 4)).toNat

/-- The state with a pair replaced (R106). -/
def State.wr64 (s : State) (off v : Nat) : State :=
  (s.wr off (BitVec.ofNat 32 v)).wr (off + 4) (BitVec.ofNat 32 (v / 2 ^ 32))

/-- Send something out of the block. -/
def State.emit (s : State) (e : OutEvent) : State := { s with out := e :: s.out }

/-- A fresh number for a free value. -/
def State.fresh (s : State) : Nat × State := (s.freeCtr, { s with freeCtr := s.freeCtr + 1 })

/-! ### The host link's view of a function -/

/-- Configuration space of a function at reset (R177, R179). -/
def FnCfg.zero : FnCfg :=
  { d3hot := false, bme := false, msixEn := false, msixMask := false, pmeEn := false, mps := 128, mrrs := 512,
    cplTimeout := 50000 }

/-- Configuration of function `n`. -/
def State.fn (s : State) (n : Nat) : FnCfg := Tab.get FnCfg.zero s.link.fns n

/-- The link is up (LNK_STATUS.up). -/
def State.linkUp (s : State) : Bool := s.bit Reg.LNK_STATUS 0

/-- Rider `n` exists (R165). -/
def State.riderExists (s : State) (n : Nat) : Bool :=
  n = 0 || (s.link.pf.vfEnable && n ≤ (if s.link.pf.ari then s.link.pf.numVFs else min 7 s.link.pf.numVFs) && n ≤ 15)

/-- An MSI-X table entry at reset: masked, as PCI Express Base 5.0 gives the Vector Control field. -/
def MsixEntry.zero : MsixEntry := { addr := 0, data := 0, masked := true }

/-- Moderation state of a vector at rest. -/
def VecState.zero : VecState := { due := none, needEdge := false, edge := none, lastSent := none, held := false }

/-- Moderation state of a rider's vector. -/
def State.vec (s : State) (n v : Nat) : VecState := Tab.get VecState.zero s.link.vecs (n, v)

/-- The state with a vector's moderation state replaced. -/
def State.setVec (s : State) (n v : Nat) (x : VecState) : State :=
  { s with link := { s.link with vecs :=
      if x = VecState.zero then Tab.erase s.link.vecs (n, v) else Tab.set s.link.vecs (n, v) x } }

/-! ### MSI-X messages -/

/-- A message past moderation cannot leave now: MSI-X is disabled or masked, the vector is masked, the function is in
D3hot or has Bus Master Enable at 0, or the link is down (R123). -/
def State.vecBlocked (s : State) (n v : Nat) : Bool :=
  !(s.fn n).msixEn || (s.fn n).msixMask || (s.fn n).d3hot || !(s.fn n).bme || !s.linkUp
    || (Tab.get MsixEntry.zero s.link.msix (n, v)).masked

/-- A message of a vector has passed moderation: it is sent, or held while it cannot leave (R123). -/
def State.passVec (s : State) (n v : Nat) : State :=
  let x := s.vec n v
  if s.vecBlocked n v then s.setVec n v { x with due := none, needEdge := false, edge := none, held := true }
  else (s.setVec n v { x with due := none, needEdge := false, edge := none, held := false,
                              lastSent := some s.now }).emit (.msix n v)

/-- The due message of a vector is sendable now (R170). -/
def State.vecSendable (s : State) (n v : Nat) : Bool :=
  let x := s.vec n v
  let hold := s.fld (Reg.RDR_VEC_MOD n v) 0 16 * 100
  match x.due with
  | none => false
  | some _ =>
    (match x.lastSent with
      | none => true
      | some t => t + hold ≤ s.now)
    && (!x.needEdge || (match x.edge with
      | none => false
      | some e => e + 40 ≤ s.now))

/-- A message of vector `v` of rider `n` becomes due (R169, R170): merged with one already waiting, sent at once where
nothing moderates it. -/
def State.dueVec (s : State) (n v : Nat) : State :=
  let x := s.vec n v
  let s' := match x.due with
    | some _ => s
    | none => s.setVec n v { x with due := some s.now, needEdge := s.bit (Reg.RDR_VEC_MOD n v) 16, edge := none }
  if s'.vecSendable n v then s'.passVec n v else s'

/-- Every held message of rider `n` that can leave now is sent (R123). -/
def State.flushHeld (s : State) (n : Nat) : State :=
  (List.range 64).foldl (fun s v => if (s.vec n v).held && !s.vecBlocked n v then s.passVec n v else s) s

/-! ### Page interrupts -/

/-- A page is pending: status AND enable is non-zero (R122). -/
def State.pagePending (s : State) (pg : Nat) : Bool :=
  Nat.land (s.rd (hdrOff pg 0x010)).toNat (s.rd (hdrOff pg 0x014)).toNat ≠ 0

/-- The rider that a page signals (R122). -/
def pageRider (pg : Nat) : Nat := if 0x040 ≤ pg ∧ pg ≤ 0x04F then pg - 0x040 else 0

/-- The vector of a page (R122). -/
def State.pageVector (s : State) (pg : Nat) : Nat := s.fld (hdrOff pg 0x008) 0 6

/-- The pages that have a non-zero interrupt status stored. -/
def State.raisedPages (s : State) : List Nat :=
  s.regs.vals.filterMap fun p => if p.1 % 0x1000 = 0x010 then some (p.1 / 0x1000) else none

/-- The line of vector `v` of rider `n` (R123). -/
def State.line (s : State) (n v : Nat) : Bool :=
  s.raisedPages.any fun pg => pageRider pg = n && s.pageVector pg = v && s.pagePending pg

/-- WAKE_N, UWAKE_N or PM_PME for an event that wakes the host (R183): the terminal while the link's reset is asserted
(L2 reaches the block as PERST_N, R182), the message while the link is up with the PF in D3hot and PME_En set. -/
def State.wakeHost (s : State) : State :=
  if s.link.perstLow then { s with link := { s.link with wakePin := true } }
  else if s.linkUp && (s.fn 0).d3hot && (s.fn 0).pmeEn then s.emit .pmPme
  else s

/-- Apply `f`, which changes registers of page `pg`, and send the message of its vector if the line rises (R123), and
wake the host if the page becomes pending towards rider 0 (R183). -/
def State.withLine (s : State) (pg : Nat) (f : State → State) : State :=
  let n := pageRider pg
  let t := f s
  let v := t.pageVector pg
  let t' := if t.line n v && !s.line n v then t.dueVec n v else t
  if n = 0 && t'.pagePending pg && !s.pagePending pg && t'.bit Reg.LNK_WAKE_CTL 1 then t'.wakeHost else t'

/-- Set bits of a page's interrupt status (R122, R123). -/
def State.raise (s : State) (pg mask : Nat) : State :=
  s.withLine pg fun s => s.wr (hdrOff pg 0x010) (s.rd (hdrOff pg 0x010) ||| BitVec.ofNat 32 mask)

/-- Raise one cause bit of a page. -/
def State.raiseBit (s : State) (pg i : Nat) : State := s.raise pg (2 ^ i)

/-! ### Statistics counters -/

/-- Count `n` events in a 32-bit statistics counter: it stops at its maximum and then sets the page's sat cause
(R117). -/
def State.count (s : State) (off n : Nat) : State :=
  let v := (s.rd off).toNat
  if v = 2 ^ 32 - 1 then s
  else if v + n ≥ 2 ^ 32 - 1 then (s.wr off (BitVec.ofNat 32 (2 ^ 32 - 1))).raiseBit (off / 0x1000) 30
  else s.wr off (BitVec.ofNat 32 (v + n))

/-- Count `n` in a 48-bit statistics counter, a pair (R117). -/
def State.count48 (s : State) (off n : Nat) : State :=
  let v := s.rd64 off % 2 ^ 48
  if v = 2 ^ 48 - 1 then s
  else if v + n ≥ 2 ^ 48 - 1 then (s.wr64 off (2 ^ 48 - 1)).raiseBit (off / 0x1000) 30
  else s.wr64 off (v + n)

/-! ### Time stamps, hub logs and trace points -/

/-- REF periods since the last tick edge, in 24 bits (R542): 10 ns at 100 MHz (REF_SEL high), 26.04 ns at 38.4 MHz. -/
def State.subtick (s : State) : Nat :=
  (if s.boot.refSel then (s.now - s.tick.lastEdge) * 100 else (s.now - s.tick.lastEdge) * 384 / 10) % 2 ^ 24

/-- An empty log ring (R543). -/
def LogRing.zero : LogRing := { pos := [], next := 0, wrapped := false, seq := 1 }

/-- State of hub `n`. -/
def Hub.zero : Hub := { run := .held, cause := 0, since := 0, sinceTick := 0, recent := [], missed := false }

/-- Hub `n`: 0 BOOT, 1 SERVE, 2 PAGE, 3 AUDIO. -/
def State.hub (s : State) (n : Nat) : Hub := Tab.get Hub.zero s.hubs n

/-- Hub `n` is restarting. -/
def State.restarting (s : State) (n : Nat) : Bool := (s.hub n).run = .restarting

/-- The ring with an entry written over its oldest position (R543). -/
def LogRing.add (r : LogRing) (e : LogEntry) : LogRing :=
  { pos := Tab.put r.pos r.next { e with seq := r.seq }, next := (r.next + 1) % 2048,
    wrapped := r.wrapped || (Tab.find r.pos r.next).isSome, seq := if r.seq = 2 ^ 32 - 1 then 1 else r.seq + 1 }

/-- Hub `h` writes a log entry (R543, Table 19-1), at the position that follows its latest; a restarting hub writes none
(R546). -/
def State.log (s : State) (h level code arg0 arg1 arg2 : Nat) : State :=
  if s.restarting h then s
  else
    let e : LogEntry :=
      { seq := 0, level := level, code := code, tick := s.tick.number, sub := s.subtick, arg0 := arg0 % 2 ^ 32,
        arg1 := arg1 % 2 ^ 32, arg2 := arg2 % 65536, whole := true }
    { s with trc := { s.trc with logs := Tab.put s.trc.logs h ((Tab.get LogRing.zero s.trc.logs h).add e) } }

/-- The hub whose work a trace point shows, if it is a hub's (Table 19-4, R549). -/
def pointHub (p : Nat) : Option Nat :=
  if p = 2 ∨ p = 3 ∨ p = 5 ∨ p = 6 ∨ p = 7 ∨ p = 8 ∨ p = 9 ∨ p = 25 then some 1
  else if p = 10 ∨ p = 11 ∨ p = 12 then some 2
  else if p = 16 then some 0
  else if p = 19 ∨ p = 20 ∨ p = 21 then some 3
  else none

/-- The trace points whose unit is a partition (Table 19-4). -/
def pointOfPrt (p : Nat) : Bool := (2 ≤ p && p ≤ 13)

/-- A trace point is enabled and passes the filter (R548, R549, R553). -/
def State.traced (s : State) (p unit : Nat) : Bool :=
  s.trc.running && s.trc.enable.testBit p
    && (!pointOfPrt p || s.trc.filter.testBit unit)
    && (!(p = 17 || p = 18) || s.trc.filter.testBit (8 + unit))
    && (match pointHub p with | some h => !s.restarting h | none => true)

/-- An event of a trace point: its record sets out for the trace unit (R547). -/
def State.trace (s : State) (p unit a b : Nat) : State :=
  if s.traced p unit then { s with trc := { s.trc with fired := s.trc.fired ++ [(p, unit, a, b)] } } else s

/-! ### The header error record -/

/-- Record an error on a page (R102): code, agent, BAR0 offset, whether a write, byte enables. A hub that drives the page
logs the error at level 0 (R543), which raises log_error (R557). -/
def State.recordErr (s : State) (pg code agent off : Nat) (write : Bool) (be : Nat) : State :=
  let e := s.rd (hdrOff pg 0x01C)
  let more := if Word.bit e 31 then min 127 (Word.fld e 24 7 + 1) else Word.fld e 24 7
  let s := s.wr (hdrOff pg 0x01C) (BitVec.ofNat 32 (code % 65536 + agent % 256 * 2 ^ 16 + more * 2 ^ 24 + 2 ^ 31))
  let s := s.wr (hdrOff pg 0x020) (BitVec.ofNat 32 (off % 2 ^ 21 + Bool.num write * 2 ^ 21 + be % 16 * 2 ^ 22))
  let s := s.raiseBit pg 31
  match pageOf pg with
  | none => s
  | some (b, inst) =>
    match hubOf b inst with
    | none => s
    | some h => if s.restarting h then s else (s.log h 0 code off agent 0).raiseBit 0x00D 3

/-- Record an error that no access caused: the address is that of the page's HDR_CLAIM (R102). -/
def State.recordErrAt (s : State) (pg code agent : Nat) : State :=
  s.recordErr pg code agent (hdrOff pg 0x024) false 0

/-- Record BADVAL for a word written (R109). -/
def State.badVal (s : State) (agent off : Nat) : State :=
  s.recordErr (off / 0x1000) 0x0107 agent off true 0xF

/-! ### The journal -/

/-- The bytes 0x00 to 0x1D of an entry (Table 7-8). -/
def JEntry.body (e : JEntry) : List Byte :=
  leBytes 6 e.seq ++ leBytes 2 e.epoch ++ leBytes 8 e.tick.toNat ++ leBytes 1 e.type ++ leBytes 1 e.agent
    ++ leBytes 2 e.code ++ leBytes 2 e.tag ++ leBytes 1 e.op ++ leBytes 1 e.flags ++ leBytes 4 e.arg0 ++ leBytes 2 e.arg1

/-- The entry with its check computed (Table 7-8). -/
def JEntry.sealed (e : JEntry) : JEntry := { e with check := crc16 e.body }

/-- The 32 bytes of an entry (Table 7-8). -/
def JEntry.bytes (e : JEntry) : List Byte := e.body ++ leBytes 2 e.check

/-- A COMMAND entry whose outcome is not decided (R207): type 0x01 with done, flag bit 2, at 0. -/
def JEntry.pending (e : JEntry) : Bool := e.type = 0x01 && !e.flags.testBit 2

/-- Positions of the journal (R205). -/
def Journal.size : Nat := 8192

/-- The first position from `w`, wrapping, that does not hold a pending COMMAND entry; `n` bounds the search (R208). -/
def Journal.slot (j : Journal) : Nat → Nat → Nat
  | 0, w => w
  | n + 1, w =>
    match Tab.find j.pos w with
    | none => w
    | some e => if e.pending then Journal.slot j n ((w + 1) % Journal.size) else w

/-- Store an entry: it gets the next sequence number and epoch, and the first position from the write position that
holds no pending COMMAND entry (R205, R208, Table 4-6). -/
def Journal.store (j : Journal) (e : JEntry) : Journal :=
  let p := j.slot Journal.size j.write
  let e' := JEntry.sealed { e with seq := j.next, epoch := j.epoch }
  let j' := { j with pos := Tab.put j.pos p e', write := (p + 1) % Journal.size }
  if j.next = 2 ^ 48 - 1 then { j' with next := 1, epoch := (j.epoch + 1) % 65536 }
  else { j' with next := j.next + 1 }

/-- Store an event entry with the tick number of now (R206). -/
def State.journal (s : State) (type agent code arg0 arg1 : Nat) : State :=
  let e : JEntry :=
    { seq := 0, epoch := 0, tick := s.tick.number, type := type, agent := agent, code := code, tag := 0, op := 0,
      flags := 0, arg0 := arg0 % 2 ^ 32, arg1 := arg1 % 65536, check := 0 }
  let s := { s with jnl := s.jnl.store e }
  if type = 0x14 then s.trace 26 0 code arg0 else s

/-! ### How a command answers -/

/-- The part is powered and not in factory test: it behaves as the spec describes. -/
def State.alive (s : State) : Bool := s.pwr.st ≠ .off && !s.pwr.factory

/-- The state `f` gives, with the layers that `f` may not touch taken from the state before: the command queue, the
clock of the model, the part's fuses and store, and the tick generator. -/
def State.keep (f : State → State) (s : State) : State :=
  { f s with pending := s.pending, now := s.now, part := s.part, tick := s.tick }

/-- As `State.keep`, for an effect that changes the part's store. -/
def State.keepTick (f : State → State) (s : State) : State :=
  { f s with pending := s.pending, now := s.now, tick := s.tick }

/-- As `State.keep`, for an effect that changes the tick generator but not the tick number. -/
def State.keepNumber (f : State → State) (s : State) : State :=
  let t := f s
  { t with pending := s.pending, now := s.now, part := s.part, tick := { t.tick with number := s.tick.number } }

/-- The outcome of a command. -/
abbrev Answer := Host.Outcome State Fault Refusal

/-- An effect on a part that behaves as described; in OFF and in factory test the command has none. -/
def run (f : State → State) (s : State) : Answer :=
  if s.alive then .next (State.keep f s) else .next s

/-- The model's clock is at `t` or later. -/
def State.waitTo (t : Nat) (s : State) : State := { s with now := max s.now t }

/-- As `run`, for an event that the block must be able to show: otherwise the fault `noSuchEvent`. -/
def runIf (p : State → Bool) (f : State → State) (s : State) : Answer :=
  if !s.alive then .next s else if p s then .next (State.keep f s) else .fault .noSuchEvent

/-- As `runIf`, for an event that cannot come before the time `t s`: an event that a queue holds earlier comes at that time
(assumption 1). -/
def runAt (t : State → Nat) (p : State → Bool) (f : State → State) (s : State) : Answer :=
  if !s.alive then .next s else runIf p f (s.waitTo (t s))

end Sys2Proof.Machine
end

