-- ==== Sys2Proof/Machine/Crypto.lean ====
section
/-! DEFINITION. The standard functions that the spec names: SHA-256 (FIPS 180-4; R138, R254, R256, R257), ECDSA on curve
P-256 (FIPS 186-5; R138, R261), and the CRC-32 of R360 and R441. -/
namespace Sys2Proof.Machine

/-! ### SHA-256 -/

/-- The 64 round constants of SHA-256. -/
def shaK : List Nat := [
  0x428a2f98, 0x71374491, 0xb5c0fbcf, 0xe9b5dba5, 0x3956c25b, 0x59f111f1, 0x923f82a4, 0xab1c5ed5,
  0xd807aa98, 0x12835b01, 0x243185be, 0x550c7dc3, 0x72be5d74, 0x80deb1fe, 0x9bdc06a7, 0xc19bf174,
  0xe49b69c1, 0xefbe4786, 0x0fc19dc6, 0x240ca1cc, 0x2de92c6f, 0x4a7484aa, 0x5cb0a9dc, 0x76f988da,
  0x983e5152, 0xa831c66d, 0xb00327c8, 0xbf597fc7, 0xc6e00bf3, 0xd5a79147, 0x06ca6351, 0x14292967,
  0x27b70a85, 0x2e1b2138, 0x4d2c6dfc, 0x53380d13, 0x650a7354, 0x766a0abb, 0x81c2c92e, 0x92722c85,
  0xa2bfe8a1, 0xa81a664b, 0xc24b8b70, 0xc76c51a3, 0xd192e819, 0xd6990624, 0xf40e3585, 0x106aa070,
  0x19a4c116, 0x1e376c08, 0x2748774c, 0x34b0bcb5, 0x391c0cb3, 0x4ed8aa4a, 0x5b9cca4f, 0x682e6ff3,
  0x748f82ee, 0x78a5636f, 0x84c87814, 0x8cc70208, 0x90befffa, 0xa4506ceb, 0xbef9a3f7, 0xc67178f2]

/-- The initial hash value. -/
def shaInit : List Word := [0x6a09e667#32, 0xbb67ae85#32, 0x3c6ef372#32, 0xa54ff53a#32, 0x510e527f#32, 0x9b05688c#32,
  0x1f83d9ab#32, 0x5be0cd19#32]

/-- Rotation right of a word. -/
def rotr (x : Word) (n : Nat) : Word := x.rotateRight n

/-- Extension of the message schedule by `n` words; `w` is newest first. -/
def shaExtend : Nat → List Word → List Word
  | 0, w => w
  | n + 1, w =>
    let x := w.getD 14 0
    let y := w.getD 1 0
    let s0 := rotr x 7 ^^^ rotr x 18 ^^^ (x >>> 3)
    let s1 := rotr y 17 ^^^ rotr y 19 ^^^ (y >>> 10)
    shaExtend n ((w.getD 15 0 + s0 + w.getD 6 0 + s1) :: w)

/-- One round. -/
def shaRound (h : List Word) (kw : Word) : List Word :=
  let a := h.getD 0 0
  let e := h.getD 4 0
  let s1 := rotr e 6 ^^^ rotr e 11 ^^^ rotr e 25
  let ch := (e &&& h.getD 5 0) ^^^ (~~~ e &&& h.getD 6 0)
  let t1 := h.getD 7 0 + s1 + ch + kw
  let s0 := rotr a 2 ^^^ rotr a 13 ^^^ rotr a 22
  let maj := (a &&& h.getD 1 0) ^^^ (a &&& h.getD 2 0) ^^^ (h.getD 1 0 &&& h.getD 2 0)
  [t1 + s0 + maj, a, h.getD 1 0, h.getD 2 0, h.getD 3 0 + t1, e, h.getD 5 0, h.getD 6 0]

/-- The compression of one 64-byte block. -/
def shaBlock (h : List Word) (b : List Byte) : List Word :=
  let w0 := (List.range 16).map fun i => BitVec.ofNat 32 (beNat (slice b (4 * i) 4))
  let w := (shaExtend 48 w0.reverse).reverse
  let r := (List.zipWith (fun k x => BitVec.ofNat 32 k + x) shaK w).foldl shaRound h
  List.zipWith (· + ·) h r

/-- The compression of `n` blocks. -/
def shaBlocks : Nat → List Word → List Byte → List Word
  | 0, h, _ => h
  | n + 1, h, b => shaBlocks n (shaBlock h (b.take 64)) (b.drop 64)

/-- `n` bytes of a number, most significant first. -/
def beBytes (n v : Nat) : List Byte := (leBytes n v).reverse

/-- SHA-256. -/
def sha256 (m : List Byte) : List Byte :=
  let l := m.length
  let z := (119 - l % 64) % 64
  let p := m ++ [0x80#8] ++ List.replicate z 0#8 ++ beBytes 8 (8 * l)
  (shaBlocks (p.length / 64) shaInit p).flatMap fun w => beBytes 4 w.toNat

/-! ### ECDSA on P-256 -/

/-- The prime, the order and the coefficient b of P-256, and its base point. -/
def ecP : Nat := 0xffffffff00000001000000000000000000000000ffffffffffffffffffffffff
def ecN : Nat := 0xffffffff00000000ffffffffffffffffbce6faada7179e84f3b9cac2fc632551
def ecB : Nat := 0x5ac635d8aa3a93e7b3ebbd55769886bc651d06b0cc53b0f63bce3c3e27d2604b
def ecG : Nat × Nat :=
  (0x6b17d1f2e12c4247f8bce6e563a440f277037d812deb33a0f4a13945d898c296,
   0x4fe342e2fe1a7f9b8ee7eb4a7c0f9e162bce33576b315ececbb6406837bf51f5)

/-- `b^e` modulo `m`, the exponent read from its `n` low bits. -/
def powMod (m : Nat) : Nat → Nat → Nat → Nat
  | 0, _, _ => 1
  | n + 1, b, e =>
    let r := powMod m n (b * b % m) (e / 2)
    if e % 2 = 1 then r * b % m else r

/-- The inverse modulo a prime. -/
def invMod (m a : Nat) : Nat := powMod m 256 (a % m) (m - 2)

/-- Sum of two points of the curve; `none` is the point at infinity. -/
def ecAdd : Option (Nat × Nat) → Option (Nat × Nat) → Option (Nat × Nat)
  | none, q => q
  | p, none => p
  | some (x1, y1), some (x2, y2) =>
    if x1 = x2 && (y1 + y2) % ecP = 0 then none
    else
      let l := if x1 = x2 && y1 = y2 then (3 * x1 * x1 + (ecP - 3)) * invMod ecP (2 * y1) % ecP
        else (y2 + ecP - y1) * invMod ecP (x2 + ecP - x1) % ecP
      let x3 := (l * l + 2 * ecP - x1 - x2) % ecP
      some (x3, (l * (x1 + ecP - x3) + ecP - y1) % ecP)

/-- `k` times a point, `k` read from its `n` low bits. -/
def ecMul : Nat → Nat → Option (Nat × Nat) → Option (Nat × Nat)
  | 0, _, _ => none
  | n + 1, k, p => let r := ecMul n (k / 2) (ecAdd p p)
                   if k % 2 = 1 then ecAdd p r else r

/-- A point lies on the curve. -/
def ecOn (q : Nat × Nat) : Bool :=
  q.1 < ecP && q.2 < ecP && q.2 * q.2 % ecP = (q.1 * q.1 * q.1 + (ecP - 3) * q.1 + ecB) % ecP

/-- Verification of an ECDSA signature (r, s) over the SHA-256 digest of a message (R138, R261). -/
def ecdsaOk (key : Nat × Nat) (msg : List Byte) (r s : Nat) : Bool :=
  let e := beNat (sha256 msg)
  let w := invMod ecN s
  ecOn key && 1 ≤ r && r < ecN && 1 ≤ s && s < ecN
    && (match ecAdd (ecMul 256 (e * w % ecN) (some ecG)) (ecMul 256 (r * w % ecN) (some key)) with
      | none => false
      | some (x, _) => x % ecN = r)

/-! ### CRC-32 -/

/-- Eight steps of the reflected CRC-32 with polynomial 0x04C1_1DB7 (R360). -/
def crc32Bits : Nat → Nat → Nat
  | 0, c => c
  | n + 1, c => crc32Bits n (if c.testBit 0 then Nat.xor (c / 2) 0xEDB8_8320 else c / 2)

/-- CRC-32: reflected, initial value and final XOR 0xFFFF_FFFF (R360). -/
def crc32 (bs : List Byte) : Nat :=
  Nat.xor (bs.foldl (fun c b => crc32Bits 8 (Nat.xor c b.toNat)) 0xFFFF_FFFF) 0xFFFF_FFFF

end Sys2Proof.Machine
end

