-- ==== Sys2Proof/Machine/Formats.lean ====
section
/-! DEFINITION. Number formats and arithmetic (R316 to R326, R469): binary32, binary16 and BF16 patterns, rounding to
nearest with ties to even, the operations on binary32, the gate-pipe functions (R313), the conversions of Table 11-5, and
conversions of audio samples. A real value is a quotient of naturals times a power of two, so every result is exact
before its one rounding. -/
namespace Sys2Proof.Machine

/-! ### Floating-point formats -/

/-- A binary format: precision with the hidden bit, least and greatest exponent, width of the fraction's complement. -/
structure FloatFmt where
  prec : Nat
  emin : Int
  emax : Int
  deriving DecidableEq, Repr

/-- binary32 (Table 11-3). -/
def f32 : FloatFmt := { prec := 24, emin := -126, emax := 127 }

/-- binary16 (Table 11-3). -/
def f16 : FloatFmt := { prec := 11, emin := -14, emax := 15 }

/-- BF16 (Table 11-3). -/
def bf16 : FloatFmt := { prec := 8, emin := -126, emax := 127 }

/-- Number of exponent values, special ones included. -/
def FloatFmt.expCount (f : FloatFmt) : Nat := (f.emax - f.emin + 3).toNat

/-- Pattern of +∞. -/
def FloatFmt.inf (f : FloatFmt) : Nat := (f.expCount - 1) * 2 ^ (f.prec - 1)

/-- The sign bit. -/
def FloatFmt.sign (f : FloatFmt) : Nat := f.expCount * 2 ^ (f.prec - 1)

/-- The canonical quiet NaN (R321). -/
def FloatFmt.nan (f : FloatFmt) : Nat := f.inf + 2 ^ (f.prec - 2)

/-- A value: NaN, an infinity, or (−1)^neg × num / den × 2^exp. -/
inductive Val where
  | nan
  | inf (neg : Bool)
  | fin (neg : Bool) (num den : Nat) (exp : Int)
  deriving DecidableEq, Repr

/-- The value of a pattern (Table 11-3). -/
def FloatFmt.val (f : FloatFmt) (p : Nat) : Val :=
  let neg := f.sign ≤ p
  let a := p % f.sign
  let fr := a % 2 ^ (f.prec - 1)
  let ex := a / 2 ^ (f.prec - 1)
  if ex = f.expCount - 1 then (if fr = 0 then .inf neg else .nan)
  else if ex = 0 then .fin neg fr 1 (f.emin - (f.prec - 1 : Nat))
  else .fin neg (fr + 2 ^ (f.prec - 1)) 1 (f.emin - (f.prec - 1 : Nat) + (ex - 1 : Nat))

/-- `n / d` to the nearest natural, ties to even. -/
def roundDiv (n d : Nat) : Nat :=
  let q := n / d
  let r := n % d
  if 2 * r < d then q else if d < 2 * r then q + 1 else if q % 2 = 0 then q else q + 1

/-- `n / d × 2^e` to the nearest natural, ties to even. -/
def roundScaled (n d : Nat) (e : Int) : Nat :=
  if 0 ≤ e then roundDiv (n * 2 ^ e.toNat) d else roundDiv n (d * 2 ^ (-e).toNat)

/-- The floor of log2 of `n / d` for positive `n` and `d`. -/
def logDiv (n d : Nat) : Int :=
  let k : Int := (Nat.log2 n : Int) - (Nat.log2 d : Int)
  if 0 ≤ k then (if d * 2 ^ k.toNat ≤ n then k else k - 1)
  else (if d ≤ n * 2 ^ (-k).toNat then k else k - 1)

/-- The pattern nearest to a value, ties to even; overflow gives ±∞ (R321, Table 11-5). -/
def FloatFmt.round (f : FloatFmt) : Val → Nat
  | .nan => f.nan
  | .inf neg => f.inf + (if neg then f.sign else 0)
  | .fin neg n d e =>
    let s := if neg then f.sign else 0
    if n = 0 then s
    else
      let ex := max (logDiv n d + e) f.emin
      let k := roundScaled n d (e - (ex - (f.prec - 1 : Nat)))
      let p := (ex - f.emin).toNat * 2 ^ (f.prec - 1) + k
      (if f.inf ≤ p then f.inf else p) + s

/-- The value of a binary32 pattern. -/
def v32 (p : Nat) : Val := f32.val p

/-- Rounding to a binary32 pattern. -/
def r32 (v : Val) : Nat := f32.round v

/-! ### Exact operations on values -/

/-- Sign flipped. -/
def Val.neg : Val → Val
  | .nan => .nan
  | .inf s => .inf (!s)
  | .fin s n d e => .fin (!s) n d e

/-- Exact product (R321). -/
def Val.mul : Val → Val → Val
  | .nan, _ => .nan
  | _, .nan => .nan
  | .inf s, .inf t => .inf (s != t)
  | .inf s, .fin t n _ _ => if n = 0 then .nan else .inf (s != t)
  | .fin s n _ _, .inf t => if n = 0 then .nan else .inf (s != t)
  | .fin s n d e, .fin t m c g => .fin (s != t) (n * m) (d * c) (e + g)

/-- Exact quotient (R321). -/
def Val.div : Val → Val → Val
  | .nan, _ => .nan
  | _, .nan => .nan
  | .inf _, .inf _ => .nan
  | .inf s, .fin t _ _ _ => .inf (s != t)
  | .fin s _ _ _, .inf t => .fin (s != t) 0 1 0
  | .fin s n d e, .fin t m c g =>
    if m = 0 then (if n = 0 then .nan else .inf (s != t)) else .fin (s != t) (n * c) (d * m) (e - g)

/-- A finite value's signed numerator over the denominator `d` at the exponent `g`. -/
def scaledNum (neg : Bool) (n d : Nat) (e : Int) (dAll : Nat) (g : Int) : Int :=
  let a : Int := (n * (dAll / d) * 2 ^ (e - g).toNat : Nat)
  if neg then -a else a

/-- Exact sum; a sum of two zeros of unlike sign, or of opposite values, is +0 (R321). -/
def Val.add : Val → Val → Val
  | .nan, _ => .nan
  | _, .nan => .nan
  | .inf s, .inf t => if s = t then .inf s else .nan
  | .inf s, .fin _ _ _ _ => .inf s
  | .fin _ _ _ _, .inf t => .inf t
  | .fin s n d e, .fin t m c g =>
    let k := min e g
    let x := scaledNum s n d e (d * c) k + scaledNum t m c g (d * c) k
    if x = 0 then .fin (s && t && n = 0 && m = 0) 0 1 0
    else .fin (decide (x < 0)) x.natAbs (d * c) k

/-- Exact sum of a list from +0. -/
def Val.sum (l : List Val) : Val := l.foldl Val.add (.fin false 0 1 0)

/-- An integer as a value. -/
def Val.ofInt (i : Int) : Val := .fin (decide (i < 0)) i.natAbs 1 0

/-- An integer times a power of two. -/
def Val.ofScaled (i : Int) (e : Int) : Val := .fin (decide (i < 0)) i.natAbs 1 e

/-! ### binary32 operations -/

/-- Addition (R321). -/
def fadd (a b : Nat) : Nat := r32 ((v32 a).add (v32 b))

/-- Subtraction (R321). -/
def fsub (a b : Nat) : Nat := r32 ((v32 a).add (v32 b).neg)

/-- Multiplication (R321). -/
def fmul (a b : Nat) : Nat := r32 ((v32 a).mul (v32 b))

/-- Division (R321). -/
def fdiv (a b : Nat) : Nat := r32 ((v32 a).div (v32 b))

/-- Fused multiply-add with one rounding (R314). -/
def ffma (a b c : Nat) : Nat := r32 (((v32 a).mul (v32 b)).add (v32 c))

/-- +0, 1.0, −∞ and +∞ in binary32. -/
def fzero : Nat := 0
def fone : Nat := 0x3F80_0000
def fninf : Nat := 0xFF80_0000
def finf : Nat := 0x7F80_0000

/-- A binary32 pattern is NaN. -/
def isNan (p : Nat) : Bool := decide (v32 p = .nan)

/-- An order key of a pattern that is no NaN: +0 and −0 agree. -/
def orderKey (p : Nat) : Int := if p < 2 ^ 31 then (p : Int) else -((p - 2 ^ 31 : Nat) : Int)

/-- `a < b` (R321). -/
def flt (a b : Nat) : Bool := !isNan a && !isNan b && decide (orderKey a < orderKey b)

/-- The larger of two patterns; a NaN gives NaN. -/
def fmax (a b : Nat) : Nat := if isNan a || isNan b then f32.nan else if flt a b then b else a

/-! ### Gate-pipe functions (R313)

Each function is enclosed between two rationals at a precision; the result is the pattern both ends round to. -/

/-- An enclosure: lower and upper numerators over 2^prec. -/
structure Encl where
  lo : Int
  hi : Int
  deriving DecidableEq, Repr

/-- Floor and ceiling of an integer quotient by a positive natural. -/
def divLo (a : Int) (d : Nat) : Int := a.fdiv d
def divHi (a : Int) (d : Nat) : Int := -((-a).fdiv d)

/-- Sum of `x^k / k!` for `k < n`, at precision `p`, lower ends rounded down; `x` is at precision `p` and not
negative. -/
def expTerms (p x : Nat) : Nat → Nat → Nat → Nat → Nat
  | 0, _, _, acc => acc
  | n + 1, k, term, acc => expTerms p x n (k + 1) (term * x / 2 ^ p / (k + 1)) (acc + term)

/-- Repeated squaring of an enclosure with non-negative ends. -/
def squareTimes (p : Nat) : Nat → Nat × Nat → Nat × Nat
  | 0, e => e
  | n + 1, (lo, hi) => squareTimes p n (lo * lo / 2 ^ p, hi * hi / 2 ^ p + 1)

/-- e^x for `x = n / d × 2^e` not negative and at most 128, at precision `p`: the argument is halved eight times. -/
def expPos (p n d : Nat) (e : Int) : Nat × Nat :=
  let q := p + 512
  let x := if 0 ≤ e + q - 8 then n * 2 ^ (e + q - 8).toNat / d else n / (d * 2 ^ (-(e + q - 8)).toNat)
  let t := expTerms q x q 0 (2 ^ q) 0
  let (lo, hi) := squareTimes q 8 (t, t + 2 * q + 4)
  (lo / 2 ^ (q - p), hi / 2 ^ (q - p) + 1)

/-- e^(±x) for `x = n / d × 2^e`, at most 128. -/
def expEncl (p : Nat) (neg : Bool) (n d : Nat) (e : Int) : Encl :=
  let (lo, hi) := expPos p n d e
  if neg then { lo := (2 ^ (2 * p) / hi : Nat), hi := (2 ^ (2 * p) / lo + 1 : Nat) } else { lo := lo, hi := hi }

/-- 2 × atanh(a / b) at precision `p` for `a < b / 2`, as lower end; the upper end is `2 n + 4` above it. -/
def atanhTerms (p a b : Nat) : Nat → Nat → Nat → Nat → Nat
  | 0, _, _, acc => acc
  | n + 1, k, pw, acc => atanhTerms p a b n (k + 2) (pw * a * a / (b * b)) (acc + pw / k)

/-- An enclosure of 2 × atanh(a / b). -/
def atanh2 (p a b : Nat) : Nat × Nat :=
  let t := 2 * atanhTerms p a b p 1 (2 ^ p * a / b) 0
  (t, t + 4 * p + 8)

/-- ln x for a positive `n × 2^e` with `n` of any size. -/
def logEncl (p n : Nat) (e : Int) : Encl :=
  let k := Nat.log2 n
  let (l, h) := atanh2 p (n - 2 ^ k) (n + 2 ^ k)
  let (l2, h2) := atanh2 p 1 3
  let x : Int := e + k
  if 0 ≤ x then { lo := (l : Int) + x * l2, hi := (h : Int) + x * h2 }
  else { lo := (l : Int) + x * h2, hi := (h : Int) + x * l2 }

/-- An enclosure of 1 / (1 + t) for an enclosure of a positive t. -/
def recip1 (p : Nat) (t : Encl) : Encl :=
  let one : Int := (2 ^ p : Nat)
  { lo := divLo ((2 ^ (2 * p) : Nat) : Int) (one + t.hi).toNat,
    hi := divHi ((2 ^ (2 * p) : Nat) : Int) (one + t.lo).toNat }

/-- The sum x + x³/3 + x⁵/15 + … that Φ(x) − 1/2 is the density times, at precision `p` for `x` at precision `p`. -/
def phiTerms (p x : Nat) : Nat → Nat → Nat → Nat → Nat
  | 0, _, _, acc => acc
  | n + 1, k, term, acc => phiTerms p x n (k + 2) (term * x / 2 ^ p * x / 2 ^ p / k) (acc + term)

/-- π at precision `p` by Machin's formula, lower end; arctan of 1/m as an alternating sum. -/
def arctanInv (p m : Nat) : Nat → Nat → Bool → Nat → Int → Int
  | 0, _, _, _, acc => acc
  | n + 1, k, neg, pw, acc =>
    arctanInv p m n (k + 2) (!neg) (pw / (m * m)) (if neg then acc - (pw / k : Nat) else acc + (pw / k : Nat))

/-- π at precision `p`, to within `64 p` units. -/
def piAt (p : Nat) : Nat :=
  (16 * arctanInv p 5 p 1 false (2 ^ p / 5) 0 - 4 * arctanInv p 239 p 1 false (2 ^ p / 239) 0).toNat

/-- Φ(x) − 1/2 for `x = n × 2^e` not negative and at most 16, at precision `p`, as an enclosure. -/
def phiEncl (p n : Nat) (e : Int) : Encl :=
  let q := p + 512
  let x := if 0 ≤ e + q then n * 2 ^ (e + q).toNat else n / 2 ^ (-(e + q)).toNat
  let t := phiTerms q x q 3 x 0
  let dens := expEncl q true (n * n) 2 (2 * e)
  let root := Nat.sqrt (2 * piAt q * 2 ^ q)
  let slack := 2 ^ (q / 4)
  let lo := (t : Int) * dens.lo / (root + slack : Nat)
  let hi := ((t + slack : Nat) : Int) * dens.hi / (root - slack : Nat) + 1
  { lo := divLo lo (2 ^ (q - p)), hi := divHi hi (2 ^ (q - p)) }

/-- An enclosure times `n × 2^e`, rounded as a pattern at both ends: the common pattern, if there is one. -/
def enclRound (p : Nat) (t : Encl) (n : Nat) (e : Int) : Option Nat :=
  let a := r32 (.fin (decide (t.lo < 0)) (t.lo.natAbs * n) 1 (e - p))
  let b := r32 (.fin (decide (t.hi < 0)) (t.hi.natAbs * n) 1 (e - p))
  if a = b then some a else none

/-- The first precision at which the ends agree; the last precision's lower end where none does. -/
def settle (f : Nat → Encl) (n : Nat) (e : Int) : List Nat → Nat
  | [] => r32 (.fin (decide ((f 4096).lo < 0)) ((f 4096).lo.natAbs * n) 1 (e - 4096))
  | p :: t => match enclRound p (f p) n e with
    | some r => r
    | none => settle f n e t

/-- The precisions tried. -/
def precisions : List Nat := [256, 512, 1024, 2048]

/-- Whether a finite magnitude `n × 2^e` exceeds `k`. -/
def exceeds (n : Nat) (e : Int) (k : Nat) : Bool :=
  if 0 ≤ e then k < n * 2 ^ e.toNat else k * 2 ^ (-e).toNat < n

/-- The exponential (func 2). -/
def gateExp (p : Nat) : Nat :=
  match v32 p with
  | .nan => f32.nan
  | .inf neg => if neg then fzero else finf
  | .fin neg n d e =>
    if exceeds n e 127 then (if neg then fzero else finf)
    else settle (fun q => expEncl q neg n d e) 1 0 precisions

/-- The natural logarithm (func 3). -/
def gateLog (p : Nat) : Nat :=
  match v32 p with
  | .nan => f32.nan
  | .inf neg => if neg then f32.nan else finf
  | .fin neg n _ e =>
    if n = 0 then fninf else if neg then f32.nan
    else if p = fone then fzero else settle (fun q => logEncl q n e) 1 0 precisions

/-- 1 ÷ (1 + e^(−x)) (func 0), times `m × 2^k`: with `m = 1` the sigmoid, with x's own magnitude the SiLU. -/
def sigmoidTimes (neg : Bool) (n d : Nat) (e : Int) (m : Nat) (k : Int) : Nat :=
  if exceeds n e 127 then (if neg then fzero else r32 (.fin false m 1 k))
  else settle (fun q => recip1 q (expEncl q (!neg) n d e)) m k precisions

/-- The sigmoid (func 0). -/
def gateSigmoid (p : Nat) : Nat :=
  match v32 p with
  | .nan => f32.nan
  | .inf neg => if neg then fzero else fone
  | .fin neg n d e => sigmoidTimes neg n d e 1 0

/-- SiLU (func 5). At −∞ the definition is −∞ ÷ ∞. -/
def gateSilu (p : Nat) : Nat :=
  match v32 p with
  | .nan => f32.nan
  | .inf neg => if neg then f32.nan else finf
  | .fin neg n d e => sigmoidTimes neg n d e n e % 2 ^ 31 + (if neg then 2 ^ 31 else 0)

/-- The hyperbolic tangent (func 1): (1 − e^(−2x)) ÷ (1 + e^(−2x)), odd in x. -/
def gateTanh (p : Nat) : Nat :=
  match v32 p with
  | .nan => f32.nan
  | .inf neg => fone + (if neg then 2 ^ 31 else 0)
  | .fin neg n d e =>
    let s := if neg then 2 ^ 31 else 0
    if n = 0 then s
    else if exceeds n e 60 then fone + s
    else
      let f (q : Nat) : Encl :=
        let t := expEncl q true n d (e + 1)
        let one : Int := (2 ^ q : Nat)
        { lo := divLo ((one - t.hi) * one) (one + t.hi).toNat, hi := divHi ((one - t.lo) * one) (one + t.lo).toNat }
      settle f 1 0 precisions % 2 ^ 31 + s

/-- GELU (func 4): x × Φ(x). At −∞ the definition is −∞ × 0. -/
def gateGelu (p : Nat) : Nat :=
  match v32 p with
  | .nan => f32.nan
  | .inf neg => if neg then f32.nan else finf
  | .fin neg n _ e =>
    let s := if neg then 2 ^ 31 else 0
    if n = 0 then s
    else if exceeds n e 15 then (if neg then s else p)
    else
      let f (q : Nat) : Encl :=
        let t := phiEncl q n e
        let half : Int := (2 ^ (q - 1) : Nat)
        if neg then { lo := half - t.hi, hi := half - t.lo } else { lo := half + t.lo, hi := half + t.hi }
      settle f n e precisions % 2 ^ 31 + s

/-- ReLU (func 6). -/
def gateRelu (p : Nat) : Nat :=
  if isNan p then f32.nan else if p < 2 ^ 31 then p else fzero

/-- 1 ÷ √x (func 7). -/
def gateRsqrt (p : Nat) : Nat :=
  match v32 p with
  | .nan => f32.nan
  | .inf neg => if neg then f32.nan else fzero
  | .fin neg n _ e =>
    if n = 0 then finf else if neg then f32.nan
    else
      let odd := e % 2 ≠ 0
      let m := if odd then 2 * n else n
      let h := (if odd then e - 1 else e) / 2
      let f (q : Nat) : Encl :=
        let y := Nat.sqrt (2 ^ (2 * q) / m)
        if y * y * m = 2 ^ (2 * q) then { lo := y, hi := y } else { lo := y, hi := (y + 1 : Nat) }
      settle f 1 (-h) precisions

/-- The gate-pipe functions by their code (Table 11-2). -/
def gate (func p : Nat) : Nat :=
  match func with
  | 0 => gateSigmoid p
  | 1 => gateTanh p
  | 2 => gateExp p
  | 3 => gateLog p
  | 4 => gateGelu p
  | 5 => gateSilu p
  | 6 => gateRelu p
  | _ => gateRsqrt p

/-! ### Conversions (Table 11-5) -/

/-- The signed value of an INT8 code; 0x80 reads as −128 (R316). -/
def int8 (b : Nat) : Int := if b < 128 then (b : Int) else (b : Int) - 256

/-- The code of an INT8 value. -/
def int8Code (i : Int) : Nat := (i % 256).toNat

/-- An element to binary32: FP16 and BF16 exactly, INT8 as q × scale rounded once, FP32 and TOKEN unchanged. -/
def toF32 (fmt scale raw : Nat) : Nat :=
  match fmt with
  | 1 => r32 ((Val.ofInt (int8 raw)).mul (v32 scale))
  | 2 => r32 (f16.val raw)
  | 3 => r32 (bf16.val raw)
  | _ => raw

/-- Counts of special cases of INT8 conversion (R323): NaN, and infinities or values that saturate. -/
structure Cnt where
  nan : Nat
  sat : Nat
  deriving DecidableEq, Repr

/-- Sum of counts. -/
def Cnt.add (a b : Cnt) : Cnt := { nan := a.nan + b.nan, sat := a.sat + b.sat }

/-- No counts. -/
def Cnt.zero : Cnt := { nan := 0, sat := 0 }

/-- The integer nearest to a value with ties to even, saturated to ±127, with the counts of R323. -/
def satInt8 : Val → Nat × Cnt
  | .nan => (0, { nan := 1, sat := 0 })
  | .inf neg => (int8Code (if neg then -127 else 127), { nan := 0, sat := 1 })
  | .fin neg n d e =>
    let m := roundScaled n d e
    let c := min m 127
    (int8Code (if neg then -(c : Int) else (c : Int)), { nan := 0, sat := if 127 < m then 1 else 0 })

/-- binary32 to a format, with the scale of an INT8 destination. -/
def fromF32 (fmt scale p : Nat) : Nat × Cnt :=
  match fmt with
  | 1 => satInt8 ((v32 p).div (v32 scale))
  | 2 => (f16.round (v32 p), Cnt.zero)
  | 3 => (bf16.round (v32 p), Cnt.zero)
  | _ => (if isNan p then f32.nan else p, Cnt.zero)

/-- Conversion between activation formats; INT8 to INT8 is exact before its rounding (Table 11-5), and TOKEN is not
converted. -/
def convert (f1 s1 f2 s2 raw : Nat) : Nat × Cnt :=
  if f2 = 5 then (raw, Cnt.zero)
  else if f1 = 1 && f2 = 1 then satInt8 (((Val.ofInt (int8 raw)).mul (v32 s1)).div (v32 s2))
  else fromF32 f2 s2 (toF32 f1 s1 raw)

/-- A list converted, with the counts added up. -/
def convertAll (f1 s1 f2 s2 : Nat) (l : List Nat) : List Nat × Cnt :=
  let r := l.map (convert f1 s1 f2 s2)
  (r.map Prod.fst, r.foldl (fun c x => c.add x.2) Cnt.zero)

/-! ### Audio samples (R469) -/

/-- An N-bit integer sample as binary32: q ÷ 2^(N−1). -/
def sampleToF32 (bits : Nat) (q : Int) : Nat := r32 (Val.ofScaled q (-((bits : Int) - 1)))

/-- binary32 to an N-bit sample: the nearest integer, ties to even, saturated; whether it saturated or was NaN. -/
def f32ToSample (bits p : Nat) : Int × Bool :=
  match v32 p with
  | .nan => (0, true)
  | .inf neg => (if neg then -((2 ^ (bits - 1) : Nat) : Int) else ((2 ^ (bits - 1) - 1 : Nat) : Int), true)
  | .fin neg n d e =>
    let m := roundScaled n d (e + (bits : Int) - 1)
    let top := 2 ^ (bits - 1)
    if neg then (if top < m then (-(top : Int), true) else (-(m : Int), false))
    else (if top - 1 < m then (((top - 1 : Nat) : Int), true) else ((m : Int), false))

end Sys2Proof.Machine
end

