-- ==== Sys2Proof/Machine/Graph.lean ====
section
/-! DEFINITION. Stroke graphs (chapter 10): reading a graph's bytes (R286, R287, R290, R296, R297), gear scaling (R258,
R293), ring sizes (R294), the bytes and multiply-accumulates of a layer (R305), the working set (R306), and lowering's
checks in their order with the diagnostic word (R307, R308). -/
namespace Sys2Proof.Machine

/-! ### Reading -/

/-- The tensor entry at an offset (Table 10-2). -/
def readTensor (b : List Byte) (o : Nat) : Tensor :=
  let e := slice b o 32
  { cls := leAt e 0 1, fmt := leAt e 1 1, rank := leAt e 2 1, flags := leAt e 3 1, scaled := leAt e 4 1,
    zero5 := leAt e 5 1, layer := leAt e 6 2, dims := [leAt e 8 2, leAt e 10 2, leAt e 12 2, leAt e 14 2],
    pass := leAt e 16 4, scale := leAt e 20 4, zero18 := leAt e 24 8 }

/-- The attribute record at an offset (R297). -/
def readAttr (b : List Byte) (o : Nat) : Attr :=
  let e := slice b o 8
  { id := leAt e 0 1, ty := leAt e 1 1, zero := leAt e 2 2, val := leAt e 4 4 }

/-- The node entry at an offset, with its attribute records (Table 10-4). -/
def readNode (b : List Byte) (attrOff o : Nat) : Node :=
  let e := slice b o 32
  let first := leAt e 16 4
  let count := leAt e 20 2
  { op := leAt e 0 1, zero1 := leAt e 1 1, layer := leAt e 2 2,
    ins := [leAt e 4 2, leAt e 6 2, leAt e 8 2, leAt e 10 2], outs := [leAt e 12 2, leAt e 14 2],
    first := first, count := count, zero16 := leAt e 22 10,
    attrs := (List.range (min count 16)).map fun i => readAttr b (attrOff + 8 * (first + i)) }

/-- A graph from its bytes (Table 10-1). -/
def readGraph (b : List Byte) : Graph :=
  let nT := leAt b 0x14 2
  let nN := leAt b 0x16 2
  let tO := leAt b 0x18 4
  let nO := leAt b 0x1C 4
  let aO := leAt b 0x20 4
  { magic := leAt b 0 4, version := leAt b 4 2, hdrLen := leAt b 6 2, length := leAt b 8 4, kind := leAt b 0xC 1,
    mode := leAt b 0xD 1, maxPel := leAt b 0xE 1, verifyMax := leAt b 0xF 1, placement := leAt b 0x10 4,
    nTensors := nT, nNodes := nN, tensorOff := tO, nodeOff := nO, attrOff := aO, attrCount := leAt b 0x24 4,
    maxPos := leAt b 0x28 4, frameUs := leAt b 0x2C 2, chunk := leAt b 0x2E 2, look := leAt b 0x30 2,
    zero32 := leAt b 0x32 2, inRate := leAt b 0x34 4, outRate := leAt b 0x38 4, zero3C := leAt b 0x3C 4,
    tensors := (List.range nT).map fun i => readTensor b (tO + 32 * i),
    nodes := (List.range nN).map fun i => readNode b aO (nO + 32 * i) }

/-! ### Gears and extents -/

/-- A scaled extent at a gear, in quarters: E × f with f 4/4, 3/4, 2/4, 1/4 (R258). -/
def gearQuarters (g : Nat) : Nat := 4 - g

/-- The extent of dimension `d` of a tensor at gear `g` (R258). -/
def Tensor.ext (t : Tensor) (g d : Nat) : Nat :=
  let e := t.dims.getD d 0
  if t.scaled.testBit d then e * gearQuarters g / 4 else e

/-- The shape of a tensor at a gear. -/
def Tensor.shape (t : Tensor) (g : Nat) : List Nat := (List.range t.rank).map (t.ext g)

/-- A tensor without a value. -/
def Tensor.nil : Tensor :=
  { cls := 0, fmt := 0, rank := 0, flags := 0, scaled := 0, zero5 := 0, layer := 0xFFFF, dims := [], pass := 0, scale := 0,
    zero18 := 0 }

/-- Tensor `i` of a graph. -/
def Graph.tensor (g : Graph) (i : Nat) : Tensor := g.tensors.getD i Tensor.nil

/-- Product of a list. -/
def prod (l : List Nat) : Nat := l.foldl (· * ·) 1

/-- A weight tensor of rank 2 or more is a matrix (R292). -/
def Tensor.isMatrix (t : Tensor) : Bool := t.cls = 0 && 2 ≤ t.rank

/-- The reduction extent of a matrix at a gear (R292). -/
def Tensor.red (t : Tensor) (g : Nat) : Nat := t.ext g (t.rank - 1)

/-- The output count of a matrix at a gear (R292). -/
def Tensor.outs (t : Tensor) (g : Nat) : Nat := prod ((t.shape g).dropLast)

/-- The first scaled dimension of a matrix's outputs, if any. -/
def Tensor.firstScaled (t : Tensor) : Option Nat := (List.range (t.rank - 1)).find? fun d => t.scaled.testBit d

/-- The scaled part of the output extent of a matrix at a gear (R293): the extents from its outermost scaled output
dimension inwards; none where no output dimension is scaled. -/
def Tensor.scaledOut (t : Tensor) (g : Nat) : Option Nat :=
  match t.firstScaled with
  | none => none
  | some d => some (prod (((t.shape g).dropLast).drop d))

/-- Elements of a tensor at a gear. -/
def Tensor.size (t : Tensor) (g : Nat) : Nat := prod (t.shape g)

/-- Bytes of one element of a format other than W4B (Table 10-2). -/
def fmtBytes : Nat → Nat
  | 1 => 1 | 2 => 2 | 3 => 2 | 4 => 4 | 5 => 4 | _ => 1

/-- Tiles of 32 by 32 of a matrix at a gear (R259); a fixed output extent that is no multiple of 32 fills its last tile
with padding. -/
def Tensor.tiles (t : Tensor) (g : Nat) : Nat := ceilDiv (t.outs g) 32 * ceilDiv (t.red g) 32

/-- Bytes of a weight tensor used at a gear, before the padding of its rings: tiles of 544, 1,024 or 2,048 bytes and 2
bytes an output for INT8's scales (R294); a vector's elements, a W4B vector in blocks of 17 bytes for 32 elements. -/
def Tensor.gearBytes (t : Tensor) (g : Nat) : Nat :=
  if t.isMatrix then
    match t.fmt with
    | 0 => t.tiles g * 544
    | 1 => t.tiles g * 1024 + 2 * t.outs g
    | _ => t.tiles g * 2048
  else
    match t.fmt with
    | 0 => ceilDiv (t.size g) 32 * 17
    | f => t.size g * fmtBytes f

/-- Bytes of ring `g` of a weight tensor on a cassette of `gears` gears, padded to 64 (R259, R294). -/
def Tensor.ringBytes (t : Tensor) (gears g : Nat) : Nat :=
  roundUp (if g + 1 = gears then t.gearBytes g else t.gearBytes g - t.gearBytes (g + 1)) 64

/-- The weight tensors of a layer, in ascending tensor index (R294). -/
def Graph.layerWeights (g : Graph) (l : Nat) : List (Nat × Tensor) :=
  ((List.range g.tensors.length).map fun i => (i, g.tensor i)).filter fun p => p.2.cls = 0 && p.2.layer = l

/-- Bytes of a layer used at gear `g` by the ring sizes of its tensors (R294). -/
def Graph.layerBytes (gr : Graph) (gears l g : Nat) : Nat :=
  ((List.range gears).filter fun r => g ≤ r).foldl
    (fun a r => (gr.layerWeights l).foldl (fun a p => a + p.2.ringBytes gears r) a) 0

/-! ### Operators -/

/-- The value of an attribute of a node, or its default (Table 10-5). -/
def Node.attr (n : Node) (id dflt : Nat) : Nat :=
  match n.attrs.find? fun a => a.id = id with
  | some a => a.val
  | none => dflt

/-- The attributes of an operator: (id, required) (Table 10-7). -/
def opAttrs : Nat → List (Nat × Bool)
  | 0x03 => [(9, true), (10, false), (11, false), (5, false)]
  | 0x04 => [(16, true), (17, false)]
  | 0x10 => [(1, true)]
  | 0x12 => [(15, false), (2, false)]
  | 0x13 => [(6, false)]
  | 0x15 => [(12, true), (13, true), (14, true)]
  | 0x16 => [(12, true)]
  | 0x20 => [(7, true), (8, false)]
  | 0x31 => [(3, true), (4, false), (5, false), (6, false)]
  | 0x32 => [(20, false)]
  | 0x41 => [(18, false)]
  | 0x42 => [(19, true)]
  | _ => []

/-- The operators of Table 10-7. -/
def knownOps : List Nat :=
  [0x01, 0x02, 0x03, 0x04, 0x10, 0x11, 0x12, 0x13, 0x14, 0x15, 0x16, 0x20, 0x30, 0x31, 0x32, 0x40, 0x41, 0x42]

/-- How a slot of an operator may be used: required, optional, or none (Table 10-7). -/
inductive SlotUse where
  | req | opt | no
  deriving DecidableEq, Repr

/-- Use of slot `s` (0 to 3 inputs, 4 and 5 outputs) of an operator (Table 10-7). -/
def slotUse (op s : Nat) : SlotUse :=
  let req : List Nat := match op with
    | 0x01 => [0, 1, 4] | 0x02 => [0, 1, 4] | 0x03 => [0, 1, 4] | 0x04 => [0, 4] | 0x10 => [0, 4] | 0x11 => [0, 4]
    | 0x12 => [0, 4] | 0x13 => [0, 4] | 0x14 => [0, 4] | 0x15 => [0, 4] | 0x16 => [0, 1, 4] | 0x20 => [0, 1, 2, 4]
    | 0x30 => [0, 1, 2] | 0x31 => [0, 1, 4] | 0x32 => [0, 4] | 0x40 => [4] | 0x41 => [0, 4] | 0x42 => [0] | _ => []
  let opt : List Nat := match op with
    | 0x01 => [2, 3] | 0x11 => [1, 2] | 0x12 => [1, 2] | _ => []
  if req.contains s then .req else if opt.contains s then .opt else .no

/-- Whether slot `s` takes a weight tensor, a state tensor, a key-value tensor or an activation (Table 10-7): 0, 2, 3
or 1. -/
def slotClass (op s : Nat) : Nat :=
  match op, s with
  | 0x01, 1 | 0x01, 2 | 0x02, 1 | 0x03, 1 | 0x12, 1 | 0x12, 2 | 0x20, 1 => 0
  | 0x20, 2 => 2
  | 0x30, 2 | 0x31, 1 => 3
  | _, _ => 1

/-- Whether a tensor of a class may stand in a slot: "act" is activation, input or output (R298); INPUT writes an input
tensor, OUTPUT reads an output tensor, SPECTRUM's frame is an input. -/
def classFits (op s cls : Nat) : Bool :=
  match op, s with
  | 0x40, _ => cls = 4
  | 0x42, _ => cls = 5
  | 0x04, 0 => cls = 4
  | 0x41, 4 => cls = 1 || cls = 5
  | _, _ => match slotClass op s with
    | 1 => if s < 4 then cls = 1 || cls = 4 || cls = 5 else cls = 1 || cls = 5
    | c => cls = c

/-- A tensor index of a slot, if one is given. -/
def Node.slot (n : Node) (s : Nat) : Option Nat :=
  let i := if s < 4 then n.ins.getD s 0xFFFF else n.outs.getD (s - 4) 0xFFFF
  if i = 0xFFFF then none else some i

/-- The tensors a node reads (not the state it updates, nor the key-value tensor it writes). -/
def Node.reads (n : Node) : List Nat := (List.range 4).filterMap n.slot

/-- The tensors a node writes. -/
def Node.writes (n : Node) : List Nat := [4, 5].filterMap n.slot

/-- Activation formats: INT8, FP16, BF16, FP32. -/
def actFmt (f : Nat) : Bool := f = 1 || f = 2 || f = 3 || f = 4

/-- FP16 or BF16. -/
def halfFmt (f : Nat) : Bool := f = 2 || f = 3

/-- Whether slot `s` of a node accepts its tensor's format (Table 10-7). -/
def formatFits (gr : Graph) (n : Node) (s : Nat) : Bool :=
  match n.slot s with
  | none => true
  | some i =>
    let f := (gr.tensor i).fmt
    match n.op, s with
    | 0x01, 0 => match n.slot 1 with
      | none => actFmt f
      | some w => match (gr.tensor w).fmt with
        | 0 | 1 => f = 1
        | wf => f = wf
    | 0x01, 1 => f ≤ 3
    | 0x01, 2 => halfFmt f
    | 0x02, 0 => f = 5
    | 0x02, 1 => f ≤ 3
    | 0x03, 1 => halfFmt f
    | 0x04, _ => f = 4
    | 0x12, 1 | 0x12, 2 => halfFmt f
    | 0x20, 0 => f = 4
    | 0x20, 1 => f ≤ 3
    | 0x20, 2 => f = 4
    | 0x30, 2 | 0x31, 1 => f = 1 || f = 2 || f = 3
    | 0x30, _ => actFmt f && (match n.slot 2 with
      | some k => (gr.tensor k).fmt ≠ 1 || f = 1
      | none => true)
    | 0x40, _ => f = 4 || f = 5
    | 0x41, 0 => f = 4
    | 0x41, 4 => f = 5
    | 0x42, 0 => match n.attr 19 0 with
      | 1 => f = 4
      | 3 => true
      | _ => f = 5 || actFmt f
    | _, _ => actFmt f

/-- Gates of a cell (R298). -/
def cellGates : Nat → Nat
  | 0 => 4 | 1 => 3 | _ => 2

/-- Shape of the tensor in a slot at a gear. -/
def Node.shapeAt (gr : Graph) (n : Node) (s g : Nat) : Option (List Nat) := (n.slot s).map fun i => (gr.tensor i).shape g

/-- A scaled coordinate of a SLICE on a gear-scaled dimension (Table 10-5). -/
def sliceScaled (t : Tensor) (axis v g : Nat) : Nat := if t.scaled.testBit axis then v * gearQuarters g / 4 else v

/-- Whether the shape in slot `s` agrees with the other operands at gear `g` (Table 10-7). -/
def shapeFits (gr : Graph) (n : Node) (s g : Nat) : Bool :=
  let sh := n.shapeAt gr
  let same (a b : Nat) : Bool := sh a g = sh b g
  let last (l : List Nat) : Nat := l.getLastD 0
  match n.slot s with
  | none => true
  | some i =>
    let t := gr.tensor i
    let me := t.shape g
    match n.op, s with
    | 0x01, 0 => match n.slot 1 with
      | some w => prod me = (gr.tensor w).red g
      | none => true
    | 0x01, 1 => t.isMatrix
    | 0x01, 2 => match n.slot 1 with
      | some w => t.rank = 1 && prod me = (gr.tensor w).outs g
      | none => true
    | 0x01, 3 | 0x01, 4 => match n.slot 1 with
      | some w => me = ((gr.tensor w).shape g).dropLast
      | none => true
    | 0x02, 1 => t.rank = 2
    | 0x02, 4 => match n.slot 1 with
      | some w => me = [(gr.tensor w).ext g 1]
      | none => true
    | 0x03, 0 => me.length = 1
    | 0x03, 1 => t.rank = 2 && (match sh 0 g with
        | some x => x = [t.ext g 0]
        | none => true) && n.attr 9 1 ≤ t.ext g 1
    | 0x03, 4 => same 4 0
    | 0x04, 4 => me = [n.attr 16 256 / 2 + 1]
    | 0x10, 4 | 0x12, 4 | 0x13, 4 | 0x14, 4 | 0x11, 4 | 0x32, 4 => same 4 0
    | 0x11, 1 | 0x11, 2 => match sh 0 g with
      | some a => me = a || me = [last a]
      | none => true
    | 0x12, 1 | 0x12, 2 => match sh 0 g with
      | some a => t.rank = 1 && me = [last a]
      | none => true
    | 0x15, 4 => match n.slot 0 with
      | some x =>
        let tx := gr.tensor x
        me = (tx.shape g).set (n.attr 12 0) (sliceScaled tx (n.attr 12 0) (n.attr 14 0) g)
      | none => true
    | 0x16, 1 => match sh 0 g with
      | some a => a.length = me.length && a.eraseIdx (n.attr 12 0) = me.eraseIdx (n.attr 12 0)
      | none => true
    | 0x16, 4 => match sh 0 g, sh 1 g with
      | some a, some b => me = a.set (n.attr 12 0) (a.getD (n.attr 12 0) 0 + b.getD (n.attr 12 0) 0)
      | _, _ => true
    | 0x20, 0 => me.length = 2 && me.getD 0 0 = cellGates (n.attr 7 0)
    | 0x20, 1 => match sh 0 g with
      | some a => me = [a.getD 0 0, a.getD 1 0, a.getD 1 0]
      | none => true
    | 0x20, 2 => match sh 0 g with
      | some a => me = (if n.attr 7 0 = 0 then [2, a.getD 1 0] else [a.getD 1 0])
      | none => true
    | 0x20, 4 => match sh 0 g with
      | some a => me = [a.getD 1 0]
      | none => true
    | 0x30, 0 | 0x30, 1 => match sh 2 g with
      | some a => me = a
      | none => true
    | 0x31, 0 => match sh 1 g with
      | some a => me.length = 2 && me.getD 1 0 = a.getD 1 0 && 0 < a.getD 0 0 && me.getD 0 0 % a.getD 0 0 = 0
      | none => true
    | 0x31, 4 => same 4 0
    | 0x32, 0 => me.length = 2
    | 0x41, 0 => me.length = 1
    | 0x41, 4 => prod me = 1
    | _, _ => true

/-! ### Diagnostics (Tables 10-8, 10-9) -/

/-- The diagnostic word. -/
def diag (reason graph object index detail : Nat) : Nat :=
  reason + graph * 2 ^ 8 + object * 2 ^ 11 + index % 4096 * 2 ^ 12 + detail % 256 * 2 ^ 24

/-- The first failing entry of a list of (passes, word) checks. -/
def firstFail : List (Bool × Nat) → Option Nat
  | [] => none
  | (ok, w) :: t => if ok then firstFail t else some w

/-- A placement word has one of the forms of Table 10-6. -/
def placementOk (w : Nat) : Bool :=
  if w.testBit 31 then bitsOf w 8 23 = 0 && bitsOf w 0 8 ≠ 0
  else bitsOf w 8 23 = 0 && 1 ≤ w && w ≤ 8

/-- Step 1: the header (Table 10-1); the detail is the field's byte offset. -/
def checkHeader (gi imgVersion tableLen : Nat) (g : Graph) : Option Nat :=
  let d (o : Nat) := diag 0x01 gi 0 0 o
  let chunked := g.kind = 0 && g.mode = 2
  firstFail [
    (g.magic = 0x4753_4C46, d 0x00),
    (g.version = 1 && g.version = imgVersion, d 0x04),
    (g.hdrLen = 0x40, d 0x06),
    (g.length % 8 = 0 && g.length = tableLen, d 0x08),
    (g.kind ≤ 1, d 0x0C),
    (if g.kind = 0 then g.mode = 1 || g.mode = 2 else g.mode = 0, d 0x0D),
    (1 ≤ g.maxPel && g.maxPel ≤ 64, d 0x0E),
    (if g.kind = 0 then g.verifyMax = 1 else 1 ≤ g.verifyMax && g.verifyMax ≤ 8, d 0x0F),
    (placementOk g.placement, d 0x10),
    (1 ≤ g.nTensors && g.nTensors ≤ 4096, d 0x14),
    (1 ≤ g.nNodes && g.nNodes ≤ 4096, d 0x16),
    (g.tensorOff % 32 = 0 && 0x40 ≤ g.tensorOff, d 0x18),
    (g.nodeOff % 32 = 0, d 0x1C),
    (g.attrOff % 8 = 0, d 0x20),
    (1 ≤ g.maxPos && g.maxPos ≤ 4096, d 0x28),
    (if g.kind = 0 then 500 ≤ g.frameUs && g.frameUs ≤ 20000 && g.frameUs % 500 = 0 else g.frameUs = 0, d 0x2C),
    (if chunked then 1 ≤ g.chunk && g.chunk ≤ 64 else g.chunk = 0, d 0x2E),
    (if chunked then g.look ≤ 16 else g.look = 0, d 0x30),
    (g.zero32 = 0, d 0x32),
    (if g.kind = 0 then 8000 ≤ g.inRate && g.inRate ≤ 96000 else g.inRate = 0, d 0x34),
    (g.outRate = 0 || (8000 ≤ g.outRate && g.outRate ≤ 96000), d 0x38),
    (g.zero3C = 0, d 0x3C)]

/-- Two byte ranges do not overlap. -/
def apart (a la b lb : Nat) : Bool := a + la ≤ b || b + lb ≤ a || la = 0 || lb = 0

/-- Step 2: the tables lie in the graph and do not overlap (R286). -/
def checkBounds (gi : Nat) (g : Graph) : Option Nat :=
  let lt := 32 * g.nTensors
  let ln := 32 * g.nNodes
  let la := 8 * g.attrCount
  let d (k : Nat) := diag 0x02 gi 0 0 k
  firstFail [
    (g.tensorOff + lt ≤ g.length && apart 0 0x40 g.tensorOff lt, d 0),
    (g.nodeOff + ln ≤ g.length && apart 0 0x40 g.nodeOff ln && apart g.tensorOff lt g.nodeOff ln, d 1),
    (g.attrOff + la ≤ g.length && apart 0 0x40 g.attrOff la && apart g.tensorOff lt g.attrOff la
      && apart g.nodeOff ln g.attrOff la, d 2)]

/-- The lowest gear at which a condition fails. -/
def failGear (gears : Nat) (ok : Nat → Bool) : Option Nat := (List.range gears).find? fun g => !ok g

/-- A finite FP32 pattern greater than 0. -/
def posFinite (w : Nat) : Bool := 0 < w && w < 0x7F80_0000

/-- Formats a class permits (Table 10-3). -/
def classFormat (cls f : Nat) : Bool :=
  match cls with
  | 0 => f ≤ 3
  | 1 => actFmt f
  | 2 => f = 4
  | 3 => f = 1 || f = 2 || f = 3
  | 4 => f = 4 || f = 5
  | _ => f = 4 || f = 5 || actFmt f

/-- Step 3 for one tensor: Tables 10-2 and 10-3, R293, the page limit of R381, R295; a failing gear as detail where a gear fails. -/
def checkTensor (gi gears : Nat) (entries : List LayerEntry) (g : Graph) (i : Nat) (t : Tensor) : Option Nat :=
  let d (o : Nat) := diag 0x03 gi 0 i o
  let w := t.cls = 0
  let lflags := match entries[t.layer]? with
    | some e => e.flags
    | none => 0
  let cold := t.flags.testBit 1
  let fields := firstFail [
    (t.cls ≤ 5, d 0x00),
    (t.fmt ≤ 5 && classFormat t.cls t.fmt, d 0x01),
    (1 ≤ t.rank && t.rank ≤ 4 && (t.cls ≠ 3 || t.rank = 2), d 0x02),
    (t.flags < 8 && (w || t.flags = 0), d 0x03),
    (t.scaled < 2 ^ t.rank, d 0x04),
    (t.zero5 = 0, d 0x05),
    (if w then t.layer < entries.length else t.layer = 0xFFFF, d 0x06),
    ((List.range 4).all fun k => if k < t.rank then 1 ≤ t.dims.getD k 0 else t.dims.getD k 0 = 0, d 0x08),
    ((w && cold) || t.pass = 0, d 0x10),
    (if t.fmt = 1 && (t.cls = 1 || t.cls = 4 || t.cls = 5) then posFinite t.scale else t.scale = 0, d 0x14),
    (t.zero18 = 0, d 0x18)]
  match fields with
  | some e => some e
  | none =>
    match failGear gears fun r => (List.range t.rank).all fun k =>
        !t.scaled.testBit k || ((t.dims.getD k 0 * gearQuarters r) % 4 = 0 && 0 < t.dims.getD k 0 * gearQuarters r / 4) with
    | some r => some (diag 0x04 gi 0 i r)
    | none =>
      let align (r : Nat) : Bool :=
        (!t.isMatrix || (t.red r % 32 = 0 && (match t.scaledOut r with
          | some e => e % 32 = 0
          | none => true)))
        && (t.cls ≠ 3 || (!t.scaled.testBit 1 && t.dims.getD 1 0 % 32 = 0 && t.dims.getD 1 0 ≤ 256))
      match failGear gears align with
      | some r => some (diag 0x05 gi 0 i r)
      | none => firstFail [
          (t.cls ≠ 3 || t.dims.getD 0 0 * t.dims.getD 1 0 * fmtBytes t.fmt ≤ 4096, diag 0x03 gi 0 i 8),
          (!w || cold = lflags.testBit 0, diag 0x0C gi 0 i 0),
          (!(w && cold) || (1 ≤ t.pass && t.pass ≤ g.maxPos), diag 0x0C gi 0 i 0),
          (!t.flags.testBit 0 || lflags.testBit 1, diag 0x0D gi 0 i 0)]

/-- The value of an attribute is in its range (Table 10-5); `t` is the node's first input. -/
def attrRange (g : Graph) (n : Node) (a : Attr) : Bool :=
  let t := match n.slot 0 with
    | some i => g.tensor i
    | none => Tensor.nil
  let axis := n.attr 12 0
  match a.id with
  | 1 => a.val ≤ 7
  | 2 => posFinite a.val
  | 3 => 1 ≤ a.val && a.val ≤ 2048
  | 4 => a.val ≤ 16
  | 5 => a.val ≤ 1
  | 6 => a.val % 2 ^ 31 < 0x7F80_0000 && a.val % 2 ^ 31 ≠ 0
  | 7 => a.val ≤ 2
  | 8 => a.val = 0 || (a.val = 1 && g.mode = 2)
  | 9 => 1 ≤ a.val && a.val ≤ 31
  | 10 => 1 ≤ a.val && a.val ≤ 8
  | 11 => 1 ≤ a.val && a.val ≤ 16
  | 12 => a.val < t.rank
  | 13 => a.val < t.dims.getD axis 0
  | 14 => 1 ≤ a.val && a.val + n.attr 13 0 ≤ t.dims.getD axis 0
  | 15 => a.val ≤ 1
  | 16 => a.val = 256 || a.val = 512
  | 17 => a.val ≤ 1
  | 18 => a.val = 0xFFFF_FFFF || a.val < t.dims.getD 0 0
  | 19 => a.val ≤ 3 && (a.val ≠ 1 || g.outRate ≠ 0)
  | 20 => posFinite a.val
  | _ => false

/-- Attributes of type FP32 (Table 10-5). -/
def attrType (id : Nat) : Nat := if id = 2 || id = 6 || id = 20 then 1 else 0

/-- The attribute checks of a node: record structure in record order, then the required ones, then the ranges. -/
def checkAttrs (gi ni : Nat) (g : Graph) (n : Node) : Option Nat :=
  let d (id : Nat) := diag 0x0A gi 1 ni id
  let known := opAttrs n.op
  let struct := (List.range n.attrs.length).map fun k =>
    match n.attrs[k]? with
    | some a => (a.zero = 0 && known.any (fun p => p.1 = a.id) && a.ty = attrType a.id
        && !((n.attrs.take k).any fun b => b.id = a.id), d a.id)
    | none => (true, 0)
  let req := known.map fun p => (!p.2 || n.attrs.any (fun a => a.id = p.1), d p.1)
  let rng := (known.mergeSort (fun a b => a.1 ≤ b.1)).filterMap fun p =>
    (n.attrs.find? fun a => a.id = p.1).map fun a => (attrRange g n a, d a.id)
  match firstFail struct with
  | some e => some e
  | none => match firstFail req with
    | some e => some e
    | none => firstFail rng

/-- Single-instance operators: INPUT and SELECT (R298). -/
def singleOp (op : Nat) : Bool := op = 0x40 || op = 0x41

/-- Step 4 for one node: operator, operands, attributes, formats, shapes (R296 to R299). `written` are the tensors
earlier nodes wrote. -/
def checkNode (gi gears : Nat) (entries : List LayerEntry) (g : Graph) (ni : Nat) (n : Node) (before : List Node)
    (written : List Nat) : Option Nat :=
  let slots := [0, 1, 2, 3, 4, 5]
  let opOk := knownOps.contains n.op && n.zero1 = 0 && n.zero16 = 0
    && !(n.op = 0x20 && g.kind = 1) && !(n.op = 0x41 && g.kind = 0)
    && !(singleOp n.op && before.any (fun m => m.op = n.op))
  let operandOk (s : Nat) : Bool :=
    match slotUse n.op s, n.slot s with
    | .no, none => true
    | .no, some _ => false
    | .req, none => false
    | .opt, none => true
    | _, some i =>
      i < g.tensors.length && classFits n.op s (g.tensor i).cls
        && (if s < 4 then
              (let c := (g.tensor i).cls
               c = 0 || c = 2 || c = 3 || written.contains i)
            else !written.contains i && !(n.slot 4 = n.slot 5))
        && !((g.tensor i).cls = 0 && (g.tensor i).flags.testBit 0 && !(n.op = 0x01 && s = 1))
        && !(n.op = 0x20 && s = 2 && before.any (fun m => m.op = 0x20 && m.slot 2 = some i))
  if !opOk then some (diag 0x06 gi 1 ni 0)
  else match slots.find? (fun s => !operandOk s) with
  | some s => some (diag 0x07 gi 1 ni s)
  | none =>
    if n.count > 16 then some (diag 0x0A gi 1 ni 0)
    else if g.attrCount < n.first + n.count then some (diag 0x02 gi 0 0 2)
    else match checkAttrs gi ni g n with
    | some e => some e
    | none => match slots.find? (fun s => !formatFits g n s) with
      | some s => some (diag 0x08 gi 1 ni s)
      | none =>
        match (if n.op = 0x31 then n.slot 0 else none) with
        | some q =>
          if (g.tensor q).scaled.testBit 1 then some (diag 0x05 gi 0 q 0)
          else match slots.find? (fun s => !(List.range gears).all (fun r => shapeFits g n s r)) with
            | some s => some (diag 0x09 gi 1 ni s)
            | none => none
        | none => match slots.find? (fun s => !(List.range gears).all (fun r => shapeFits g n s r)) with
          | some s => some (diag 0x09 gi 1 ni s)
          | none =>
            let ws := (n.reads.filter fun i => (g.tensor i).cls = 0)
            if n.layer ≠ 0xFFFF && entries.length ≤ n.layer then some (diag 0x0B gi 0 n.layer 0xFF)
            else match ws.find? (fun i => (g.tensor i).layer ≠ n.layer) with
            | some i => some (diag 0x0B gi 0 (g.tensor i).layer 0xFF)
            | none => none

/-- Step 4 over all nodes. -/
def checkNodes (gi gears : Nat) (entries : List LayerEntry) (g : Graph) :
    Nat → List Node → List Node → List Nat → Option Nat
  | _, _, [], _ => none
  | ni, before, n :: t, written =>
    match checkNode gi gears entries g ni n before written with
    | some e => some e
    | none => checkNodes gi gears entries g (ni + 1) (before ++ [n]) t (written ++ n.writes)

/-- The graph lacks an operator it must hold (Table 10-9, KIND). -/
def checkKind (gi : Nat) (g : Graph) : Option Nat :=
  let has (op : Nat) : Bool := g.nodes.any fun n => n.op = op
  let d (op : Nat) := diag 0x0E gi 0 0 op
  firstFail [(has 0x40, d 0x40), (has 0x42, d 0x42), (g.kind = 0 || has 0x41, d 0x41)]

/-- The weight tensors of a layer, apart from their indices, as R294 compares them. -/
def Graph.layerList (g : Graph) (l : Nat) : List Tensor := (g.layerWeights l).map fun p => p.2

/-- Step 5 for one layer of a graph: ring sizes against len_g, and agreement with the earlier graphs (R294). -/
def checkLayer (gi gears : Nat) (entries : List LayerEntry) (earlier : List Graph) (g : Graph) (lastGraph : Bool)
    (l : Nat) : Option Nat :=
  let mine := g.layerList l
  let used := mine ≠ [] || earlier.any (fun h => h.layerList l ≠ [])
  if mine = [] then (if lastGraph && !used then some (diag 0x0B gi 0 l 0xFF) else none)
  else
    let lens := match entries[l]? with
      | some e => e.lens
      | none => []
    match failGear gears (fun r => g.layerBytes gears l r = lens.getD r 0) with
    | some r => some (diag 0x0B gi 0 l r)
    | none =>
      if earlier.any (fun h => h.layerList l ≠ [] && h.layerList l ≠ mine) then some (diag 0x0B gi 0 l 0xFF) else none

/-- The working set at node `ni` in bytes (R306). -/
def workingSet (g : Graph) (ni : Nat) : Nat :=
  let now := g.nodes.getD ni
    { op := 0, zero1 := 0, layer := 0, ins := [], outs := [], first := 0, count := 0, zero16 := 0, attrs := [] }
  let act (i : Nat) : Bool := let c := (g.tensor i).cls; c = 1 || c = 4 || c = 5
  let earlier := (g.nodes.take ni).flatMap Node.writes
  let later := (g.nodes.drop ni).flatMap Node.reads
  let live := ((earlier.filter fun i => later.contains i) ++ now.writes).filter act
  let bytes (i : Nat) : Nat := (g.tensor i).size 0 * fmtBytes (g.tensor i).fmt
  let states := (now.reads.filter fun i => (g.tensor i).cls = 2).eraseDups
  live.eraseDups.foldl (fun a i => a + bytes i * g.maxPos) 0 + states.foldl (fun a i => a + bytes i * g.maxPel) 0

/-- Bytes of W_h that a spoke must hold for a GATED_CELL (R346), the share of a matrix on `spokes` spokes rounded up to
whole tiles along its split dimension. -/
def cellShare (g : Graph) (spokes : Nat) (n : Node) : Nat :=
  match n.slot 1 with
  | none => 0
  | some i =>
    let t := g.tensor i
    let tile := match t.fmt with
      | 0 => 544
      | 1 => 1024
      | _ => 2048
    let o := ceilDiv (t.outs 0) 32
    let r := ceilDiv (t.red 0) 32
    if t.flags.testBit 2 then ceilDiv r spokes * o * tile + (if t.fmt = 1 then 2 * t.outs 0 else 0)
    else ceilDiv o spokes * r * tile + (if t.fmt = 1 then 2 * 32 * ceilDiv o spokes else 0)

/-- The node with the largest working set, and that set. -/
def largestSet (g : Graph) : Nat × Nat :=
  (List.range g.nodes.length).foldl (fun a i => let w := workingSet g i; if a.2 < w then (i, w) else a) (0, 0)

/-- Step 6: the working set on the row set's spokes (R306), with a cell's share of W_h within a weight buffer (R346). -/
def checkSram (gi spokes : Nat) (g : Graph) : Option Nat :=
  let cells := (List.range g.nodes.length).filter fun i => match g.nodes[i]? with
    | some n => n.op = 0x20 && 192 * 1024 < cellShare g spokes n
    | none => false
  match cells with
  | i :: _ => some (diag 0x0F gi 1 i 0)
  | [] =>
    let big := largestSet g
    if 640 * 1024 < roundUp (ceilDiv big.2 spokes) 64 then some (diag 0x0F gi 1 big.1 0) else none

/-- The first failure over tensors, in index order. -/
def checkTensors (gi gears : Nat) (entries : List LayerEntry) (g : Graph) : Option Nat :=
  (List.range g.tensors.length).findSome? fun i => checkTensor gi gears entries g i (g.tensor i)

/-- Lowering of one graph (R307). -/
def lowerGraph (gi gears imgVersion spokes tableLen nGraphs : Nat) (entries : List LayerEntry) (earlier : List Graph)
    (g : Graph) : Option Nat :=
  match checkHeader gi imgVersion tableLen g with
  | some e => some e
  | none => match checkBounds gi g with
    | some e => some e
    | none => match checkTensors gi gears entries g with
      | some e => some e
      | none => match checkNodes gi gears entries g 0 [] g.nodes [] with
        | some e => some e
        | none => match checkKind gi g with
          | some e => some e
          | none => match (List.range entries.length).findSome? fun l =>
              checkLayer gi gears entries earlier g (gi + 1 = nGraphs) l with
            | some e => some e
            | none => checkSram gi spokes g

/-- Lowering of every graph in graph-index order (R307): the diagnostic word of the first failure. `graphs` pairs each
graph with its graph-table length. -/
def lowerAll (gears imgVersion spokes nGraphs : Nat) (entries : List LayerEntry) :
    Nat → List Graph → List (Graph × Nat) → Option Nat
  | _, _, [] => none
  | gi, earlier, (g, len) :: t =>
    match lowerGraph gi gears imgVersion spokes len nGraphs entries earlier g with
    | some e => some e
    | none => lowerAll gears imgVersion spokes nGraphs entries (gi + 1) (earlier ++ [g]) t

/-! ### What a stroke costs -/

/-- Layers that a graph's weights belong to, in the order of their first reading node (R300). -/
def Graph.passOrder (g : Graph) : List Nat :=
  ((g.nodes.flatMap Node.reads).filterMap fun i =>
    if (g.tensor i).cls = 0 then some (g.tensor i).layer else none).eraseDups

/-- Multiply-accumulates per position of a node at a gear (R305). -/
def nodeMacs (g : Graph) (gear : Nat) (n : Node) : Nat :=
  match n.op, n.slot 1 with
  | 0x01, some w | 0x20, some w => (g.tensor w).outs gear * (g.tensor w).red gear
  | 0x03, some _ => (match n.slot 4 with
      | some y => (g.tensor y).size gear
      | none => 0) * n.attr 9 1
  | _, _ => 0

/-- Multiply-accumulates per position of a layer at a gear (R305). -/
def Graph.layerMacs (g : Graph) (l gear : Nat) : Nat :=
  (g.nodes.filter fun n => n.layer = l).foldl (fun a n => a + nodeMacs g gear n) 0

/-- The tensor of the lowest-indexed OUTPUT node of out_kind 1 (R464). -/
def Graph.audioTensor (g : Graph) : Option Tensor :=
  (g.nodes.find? fun n => n.op = 0x42 && n.attr 19 0 = 1).map fun n => g.tensor ((n.slot 0).getD 0)

/-- Elements of an audio instance that a STREAM source's slot chooses among: the rows of an instance of rank 2 or more; an
instance of rank 1 is one element's samples in time (assumption 44). -/
def Tensor.channels (t : Tensor) : Nat := if t.rank ≤ 1 then 1 else max 1 (t.ext 0 0)

/-- Samples a stroke of an audio graph emits per stream (R412, R464): those of one element of each instance it emits; none
for a graph without an audio OUTPUT. -/
def Graph.audioOut (g : Graph) : Option Nat :=
  g.audioTensor.map fun t => (if g.mode = 2 then g.chunk else 1) * (t.size 0 / t.channels)

end Sys2Proof.Machine
end

