-- ==== Sys2Proof/Machine/Evaluate.lean ====
section
/-! DEFINITION. What one stroke computes (R299): where a weight's bytes lie (R258, R259, R292, R318, R319), the operators
of Table 10-7 in the arithmetic of R313 to R326, the gated cells (R344 to R347), attention over the pages of a sequence
(R377 to R385), and a pass of a PIPE stage, of a chunk, and of a sequence's positions (R348 to R350, R375). Results do
not depend on the other members of the peloton (R303), so each member's part is evaluated by itself. -/
namespace Sys2Proof.Machine

/-! ### Weights -/

/-- A weight tensor with the bytes of its layer and the byte offset of each of its rings, by gear. -/
structure Weight where
  t     : Tensor
  gears : Nat
  offs  : List Nat
  bytes : List Byte
  deriving DecidableEq, Repr

/-- Offsets of the rings of tensor `i` among the weight tensors `ws` of a layer (R259): rings from the lightest gear,
tensors in ascending index within a ring. -/
def ringOffsets (ws : List (Nat × Tensor)) (gears i : Nat) : List Nat :=
  (List.range gears).map fun r =>
    let before := ((List.range gears).filter fun q => r < q).foldl
      (fun a q => ws.foldl (fun a p => a + p.2.ringBytes gears q) a) 0
    (ws.filter fun p => p.1 < i).foldl (fun a p => a + p.2.ringBytes gears r) before

/-- The weight tensor `i` of a graph over resident layers. -/
def weightOf (gr : Graph) (gears : Nat) (layers : List Layer) (i : Nat) : Weight :=
  let t := gr.tensor i
  { t := t, gears := gears, offs := ringOffsets (gr.layerWeights t.layer) gears i,
    bytes := match layers[t.layer]? with
      | some l => l.bytes
      | none => [] }

/-- Flat G0 indices of the elements that a shape cut to `exts` uses, in ascending order; `dims` is the G0 shape. -/
def usedIndices : List Nat → List Nat → List Nat
  | [], _ => [0]
  | _, [] => [0]
  | d :: ds, e :: es =>
    let inner := prod ds
    let rest := usedIndices ds es
    (List.range (min d e)).flatMap fun i => rest.map fun j => i * inner + j

/-- Outputs of a matrix in use at a gear, as flat G0 output indices (R258, R292). -/
def Tensor.outIndices (t : Tensor) (g : Nat) : List Nat :=
  usedIndices ((t.dims.take t.rank).dropLast) ((t.shape g).dropLast)

/-- The outputs in use one gear lighter; none at the lightest gear. -/
def Weight.inner (w : Weight) (g : Nat) : List Nat := if g + 1 < w.gears then w.t.outIndices (g + 1) else []

/-- The reduction extent one gear lighter; 0 at the lightest gear. -/
def Weight.innerRed (w : Weight) (g : Nat) : Nat := if g + 1 < w.gears then w.t.red (g + 1) else 0

/-- First reduction tile of ring `g` for the output tile that begins with output `o`. -/
def Weight.firstTile (w : Weight) (g o : Nat) : Nat := if (w.inner g).contains o then w.innerRed g / 32 else 0

/-- Tiles of ring `g` in the first `c` output tiles of `outs`. -/
def Weight.tilesBefore (w : Weight) (g : Nat) (outs : List Nat) (c : Nat) : Nat :=
  (List.range c).foldl (fun a k => a + (ceilDiv (w.t.red g) 32 - w.firstTile g (outs.getD (32 * k) 0))) 0

/-- The ring an element lies in: the lightest gear that uses it (R258). -/
def Weight.ringOf (w : Weight) (o r : Nat) : Nat :=
  match ((List.range w.gears).reverse).find? fun g => (w.t.outIndices g).contains o && r < w.t.red g with
  | some g => g
  | none => 0

/-- Offset of the tile of element (o, r) in the layer, with the output's place j and the reduction element i in it, for
tiles of `size` bytes (R259, R318). -/
def Weight.tileAt (w : Weight) (size o r : Nat) : Nat × Nat × Nat :=
  let g := w.ringOf o r
  let outs := w.t.outIndices g
  let k := outs.findIdx fun x => x = o
  let tile := w.tilesBefore g outs (k / 32) + (r / 32 - w.firstTile g (outs.getD (k / 32 * 32) 0))
  (w.offs.getD g 0 + tile * size, k % 32, r % 32)

/-- A W4B element: its signed mantissa and its block's exponent code (Table 11-3, Table 11-4). -/
def Weight.w4b (w : Weight) (o r : Nat) : Int × Nat :=
  let (p, j, i) := w.tileAt 544 o r
  let b := leAt w.bytes (p + 16 * j + i / 2) 1
  let m := if i % 2 = 0 then b % 16 else b / 16
  ((if m < 8 then (m : Int) else (m : Int) - 16), leAt w.bytes (p + 512 + j) 1)

/-- An INT8 element (Table 11-4). -/
def Weight.i8 (w : Weight) (o r : Nat) : Int :=
  let (p, j, i) := w.tileAt 1024 o r
  int8 (leAt w.bytes (p + 32 * j + i) 1)

/-- The FP16 scale of output `o` of an INT8 matrix: after the tiles of the ring that first holds the output (R292,
R318). -/
def Weight.scale (w : Weight) (o : Nat) : Nat :=
  let g := w.ringOf o 0
  let outs := w.t.outIndices g
  let new := outs.filter fun x => !(w.inner g).contains x
  let tiles := w.tilesBefore g outs (ceilDiv outs.length 32)
  leAt w.bytes (w.offs.getD g 0 + 1024 * tiles + 2 * new.findIdx (fun x => x = o)) 2

/-- An FP16 or BF16 element of a matrix (Table 11-4). -/
def Weight.half (w : Weight) (o r : Nat) : Nat :=
  let (p, j, i) := w.tileAt 2048 o r
  leAt w.bytes (p + 64 * j + 2 * i) 2

/-- Element `j` of a vector, two bytes an element, by rings (R259, R319). -/
def Weight.vec (w : Weight) (j : Nat) : Nat :=
  let g := match ((List.range w.gears).reverse).find? fun g => j < w.t.ext g 0 with
    | some g => g
    | none => 0
  let first := if g + 1 < w.gears then w.t.ext (g + 1) 0 else 0
  leAt w.bytes (w.offs.getD g 0 + 2 * (j - first)) 2

/-- Element (o, r) of a matrix as an exact value (Table 11-3). -/
def Weight.val (w : Weight) (o r : Nat) : Val :=
  match w.t.fmt with
  | 0 => let (m, e) := w.w4b o r
         if e = 0 then .fin false 0 1 0 else .ofScaled m ((e : Int) - 127)
  | 1 => (Val.ofInt (w.i8 o r)).mul (f16.val (w.scale o))
  | 2 => f16.val (w.half o r)
  | _ => bf16.val (w.half o r)

/-! ### Products (R324, R325) -/

/-- Chunks of 32 elements: for each tile index the reduction elements in use. -/
def tileSpan (red t : Nat) : List Nat := (List.range 32).filterMap fun i => if 32 * t + i < red then some (32 * t + i) else none

/-- Accumulation of tile terms, each addition rounded (R324). -/
def accumulate (l : List Nat) : Nat := l.foldl fadd fzero

/-- The dot product of two lists of values under the FP16 row of Table 11-6. -/
def dotHalf (w x : List Val) : Nat :=
  let p := List.zipWith Val.mul w x
  accumulate ((List.range (ceilDiv p.length 32)).map fun t => r32 (Val.sum ((p.drop (32 * t)).take 32)))

/-- The value of a raw element of an activation (Table 11-3). -/
def actVal (fmt scale raw : Nat) : Val :=
  match fmt with
  | 1 => (Val.ofInt (int8 raw)).mul (v32 scale)
  | 2 => f16.val raw
  | 3 => bf16.val raw
  | _ => v32 raw

/-- y₀ of output `o` (Table 11-6) for an input of raw elements with format `xf` and scale `xs`. -/
def product (w : Weight) (g o xf xs : Nat) (x : List Nat) : Nat :=
  let red := w.t.red g
  let tiles := List.range (ceilDiv red 32)
  match w.t.fmt with
  | 0 =>
    let term (t : Nat) : Nat :=
      let s : Int := (tileSpan red t).foldl (fun a r => a + (w.w4b o r).1 * int8 (x.getD r 0)) 0
      let e := (w.w4b o (32 * t)).2
      if e = 0 then fzero else r32 (Val.ofScaled s ((e : Int) - 127))
    fmul (accumulate (tiles.map term)) xs
  | 1 =>
    let a : Int := (List.range red).foldl (fun a r => a + w.i8 o r * int8 (x.getD r 0)) 0
    fmul (fmul (r32 (Val.ofInt a)) (r32 (f16.val (w.scale o)))) xs
  | _ =>
    let xv := x.map (actVal xf xs)
    accumulate (tiles.map fun t =>
      r32 (Val.sum ((tileSpan red t).map fun r => (w.val o r).mul (xv.getD r (.fin false 0 1 0)))))

/-- The tensors A and B of an adapter for an adaptable matrix (R273). -/
def adapterTensors (base : Tensor) (fmt rank : Nat) : Tensor × Tensor :=
  let last := base.rank - 1
  ({ base with fmt := fmt, dims := (base.dims.take last) ++ [rank], scaled := base.scaled % 2 ^ last },
   { base with fmt := fmt, rank := 2, dims := [rank, base.dims.getD last 0],
               scaled := if base.scaled.testBit last then 2 else 0 })

/-- The adapter tensors of a layer in order: A then B of each adaptable matrix, numbered 2k and 2k + 1. -/
def adapterWeights (gr : Graph) (layer fmt rank : Nat) : List (Nat × Tensor) :=
  ((gr.layerWeights layer).filter fun p => p.2.flags.testBit 0).flatMap fun p =>
    let (a, b) := adapterTensors p.2 fmt rank
    [(2 * p.1, a), (2 * p.1 + 1, b)]

/-- A and B of an adapter for tensor `i`, if it adapts the tensor's layer. -/
def adapterOf (gr : Graph) (gears : Nat) (ad : Option Adapter) (i : Nat) : Option (Weight × Weight) :=
  let t := gr.tensor i
  if !t.flags.testBit 0 then none
  else match ad with
    | none => none
    | some a => match a.layers.find? fun l => l.entry.base = t.layer with
      | none => none
      | some l =>
        let ws := adapterWeights gr t.layer l.entry.format l.entry.rank
        let mk (k : Nat) : Option Weight := (Tab.find ws k).map fun wt =>
          { t := wt, gears := gears, offs := ringOffsets ws gears k, bytes := l.bytes }
        match mk (2 * i), mk (2 * i + 1) with
        | some wa, some wb => some (wa, wb)
        | _, _ => none

/-- A value rounded once to FP16 (R325). -/
def toHalf (v : Val) : Val := f16.val (f16.round v)

/-- The adapter term A·(B·x) of output `o` (R325); `u` is B·x, as FP16 values. -/
def adapterDown (wb : Weight) (g : Nat) (x : List Val) : List Val :=
  let xh := x.map toHalf
  (wb.t.outIndices g).map fun k =>
    toHalf (v32 (dotHalf ((List.range (wb.t.red g)).map fun r => toHalf (wb.val k r)) xh))

/-- The second product of the adapter term. -/
def adapterUp (wa : Weight) (g o : Nat) (u : List Val) : Nat :=
  dotHalf ((List.range (wa.t.red g)).map fun r => toHalf (wa.val o r)) u

/-! ### A member's pass -/

/-- What a member's pass computes with: the graph, the gear in force and the gears of the cassette, the layers, and the
member's adapter. -/
structure Ctx where
  gr     : Graph
  gear   : Nat
  gears  : Nat
  layers : List Layer
  ad     : Option Adapter
  deriving DecidableEq, Repr

/-- What a pass has computed: instances of tensors by position, state tensors at G0 extent, the member's pages, counts of
R323, descriptors by layer (R385), key-value bytes, and whether an invalid page was met (R395). -/
structure Pass where
  env    : List (Nat × List (List Nat))
  states : List (Nat × List Nat)
  pages  : List KvPage
  cnt    : Cnt
  desc   : List (Nat × Nat)
  kvBytes : Nat
  bad    : Bool
  deriving DecidableEq, Repr

/-- The instance of tensor `i` at place `p` of the pass. -/
def Pass.at_ (r : Pass) (i p : Nat) : List Nat := (Tab.get [] r.env i).getD p []

/-- The pass with the instances of tensor `i` written, and counts added. -/
def Pass.put (r : Pass) (i : Nat) (l : List (List Nat)) (c : Cnt) : Pass :=
  { r with env := Tab.put r.env i l, cnt := r.cnt.add c }

/-- Elements of a slot's instance as binary32. -/
def Ctx.f32At (c : Ctx) (r : Pass) (i p : Nat) : List Nat :=
  let t := c.gr.tensor i
  (r.at_ i p).map (toF32 t.fmt t.scale)

/-- binary32 elements converted to the format of tensor `i`. -/
def Ctx.store (c : Ctx) (i : Nat) (l : List Nat) : List Nat × Cnt :=
  let t := c.gr.tensor i
  convertAll 4 0 t.fmt t.scale l

/-- Write a tensor by a function of the place in the pass that gives binary32 elements. -/
def Ctx.emit (c : Ctx) (r : Pass) (n : Nat) (i : Nat) (f : Nat → List Nat) : Pass :=
  let l := (List.range n).map fun p => c.store i (f p)
  r.put i (l.map Prod.fst) (l.foldl (fun a x => a.add x.2) Cnt.zero)

/-- Rows of `n` elements. -/
def rowsOf (n : Nat) (l : List Nat) : List (List Nat) := (List.range (l.length / max n 1)).map fun k => (l.drop (k * n)).take n

/-- MATMUL of one instance (R324, R325). -/
def Ctx.matmul (c : Ctx) (r : Pass) (n : Node) (x w y p : Nat) : List Nat :=
  let wt := weightOf c.gr c.gears c.layers w
  let tx := c.gr.tensor x
  let xs := r.at_ x p
  let ad := adapterOf c.gr c.gears c.ad w
  let u := match ad with
    | some (_, wb) => adapterDown wb c.gear (xs.map (actVal tx.fmt tx.scale))
    | none => []
  let bias := (n.slot 2).map fun b => weightOf c.gr c.gears c.layers b
  let addend := match n.slot 3 with
    | some a => c.f32At r a p
    | none => []
  let outs := wt.t.outIndices c.gear
  let _ := y
  (List.range outs.length).map fun k =>
    let o := outs.getD k 0
    let y0 := product wt c.gear o tx.fmt tx.scale xs
    let y1 := match ad with
      | some (wa, _) => fadd y0 (adapterUp wa c.gear o u)
      | none => y0
    let y2 := match bias with
      | some b => fadd y1 (toF32 b.t.fmt 0 (b.vec k))
      | none => y1
    if (n.slot 3).isSome then fadd y2 (addend.getD k 0) else y2

/-- EMBED of a token (R320): the row, and whether the token is out of range. -/
def Ctx.embed (c : Ctx) (table tok : Nat) : List Nat × Bool :=
  let w := weightOf c.gr c.gears c.layers table
  let width := w.t.ext c.gear 1
  if w.t.ext c.gear 0 ≤ tok then (List.replicate width fzero, true)
  else ((List.range width).map fun i => r32 (w.val tok i), false)

/-- NORM of one row (R315). -/
def normRow (kind eps : Nat) (gain bias : List Nat) (x : List Nat) : List Nat :=
  let n := r32 (Val.ofInt x.length)
  let d := if kind = 0 then
      let mean := fdiv (x.foldl fadd fzero) n
      x.map fun a => fsub a mean
    else x
  let var := fdiv (d.foldl (fun s a => ffma a a s) fzero) n
  let r := gateRsqrt (fadd var eps)
  (List.range x.length).map fun i => ffma (fmul (d.getD i 0) r) (gain.getD i fone) (bias.getD i fzero)

/-- SOFTMAX of one row (R315). -/
def softmaxRow (scale : Nat) (x : List Nat) : List Nat :=
  let z := x.map fun a => fmul a scale
  if z.any isNan then z.map fun _ => f32.nan
  else
    let m := z.foldl fmax fninf
    let e := z.map fun a => gateExp (fsub a m)
    let s := e.foldl fadd fzero
    e.map fun a => fdiv a s

/-- The part of a flat instance that SLICE keeps along an axis. -/
def sliceAxis (shape : List Nat) (axis start count : Nat) (l : List Nat) : List Nat :=
  let inner := prod (shape.drop (axis + 1))
  let ext := shape.getD axis 1
  (rowsOf (ext * inner) l).flatMap fun b => (b.drop (start * inner)).take (count * inner)

/-- Two flat instances joined along an axis. -/
def concatAxis (sa sb : List Nat) (axis : Nat) (a b : List Nat) : List Nat :=
  let na := prod (sa.drop axis)
  let nb := prod (sb.drop axis)
  (List.zipWith (· ++ ·) (rowsOf na a) (rowsOf nb b)).flatten

/-! ### Gated cells (R344 to R347) -/

/-- Scale 2⁻⁷ as binary32 (R345). -/
def scale7 : Nat := 0x3C00_0000

/-- The recurrent product of gate `k`, unit `j` (R344, R345). -/
def cellProduct (w : Weight) (g k j : Nat) (h : List Nat) : Nat :=
  let o := k * w.t.dims.getD 1 0 + j
  match w.t.fmt with
  | 0 | 1 => product w g o 1 scale7 (h.map fun a => (satInt8 ((v32 a).div (v32 scale7))).1)
  | 2 => product w g o 2 0 (h.map fun a => f16.round (v32 a))
  | _ => product w g o 3 0 (h.map fun a => bf16.round (v32 a))

/-- One step of a cell (Table 12-3): the states c and h of the units in use, and the input `pre` by gates. -/
def cellStep (w : Weight) (g cell hn : Nat) (pre : List Nat) (c h : List Nat) : List Nat × List Nat :=
  let y (k j : Nat) : Nat := cellProduct w g k j h
  let a (k j : Nat) : Nat := fadd (y k j) (pre.getD (k * hn + j) 0)
  let unit (j : Nat) : Nat × Nat :=
    let hj := h.getD j 0
    match cell with
    | 0 =>
      let i := gateSigmoid (a 0 j)
      let f := gateSigmoid (a 1 j)
      let gg := gateTanh (a 2 j)
      let o := gateSigmoid (a 3 j)
      let c' := ffma f (c.getD j 0) (fmul i gg)
      (c', fmul o (gateTanh c'))
    | 1 =>
      let z := gateSigmoid (a 0 j)
      let r := gateSigmoid (a 1 j)
      let n := gateTanh (ffma r (y 2 j) (pre.getD (2 * hn + j) 0))
      (0, ffma z (fsub hj n) n)
    | _ =>
      let f := gateSigmoid (a 0 j)
      let n := gateTanh (a 1 j)
      (0, ffma f (fsub hj n) n)
  let l := (List.range hn).map unit
  (l.map Prod.fst, l.map Prod.snd)

/-- Steps of a cell over the inputs in order: the outputs h′, and the state after the step numbered `keep` (or the last
state). -/
def cellRun (w : Weight) (g cell hn keep : Nat) : Nat → List (List Nat) → List Nat × List Nat → List Nat × List Nat →
    List (List Nat) × (List Nat × List Nat)
  | _, [], _, kept => ([], kept)
  | k, pre :: rest, (c, h), kept =>
    let s := cellStep w g cell hn pre c h
    let (outs, fin) := cellRun w g cell hn keep (k + 1) rest s (if k ≤ keep then s else kept)
    (s.2 :: outs, fin)

/-- The first `n` elements of a list replaced. -/
def putPrefix (new old : List Nat) : List Nat := new ++ old.drop new.length

/-- GATED_CELL over a pass of `n` positions, of which the state after position `keep` is carried forward. -/
def Ctx.cell (c : Ctx) (r : Pass) (nd : Node) (pre w st y n keep : Nat) : Pass :=
  let wt := weightOf c.gr c.gears c.layers w
  let t := c.gr.tensor st
  let kind := nd.attr 7 0
  let h0 := t.dims.getD (t.rank - 1) 0
  let hn := t.ext c.gear (t.rank - 1)
  let old := Tab.get (List.replicate (t.size 0) 0) r.states st
  let row (k : Nat) : List Nat := (old.drop (k * h0)).take h0
  let zero := List.replicate hn 0
  let back := nd.attr 8 0 = 1
  let start := if back then (zero, zero)
    else if kind = 0 then ((row 0).take hn, (row 1).take hn) else (zero, (row 0).take hn)
  let ins := (List.range n).map fun p => c.f32At r pre p
  let (outs, fin) := cellRun wt c.gear kind hn keep 0 (if back then ins.reverse else ins) start start
  let outs := if back then outs.reverse else outs
  let new := if kind = 0 then putPrefix fin.1 (row 0) ++ putPrefix fin.2 (row 1) else putPrefix fin.2 (row 0)
  let r' := c.emit r n y fun p => outs.getD p []
  if back then r' else { r' with states := Tab.put r'.states st new }

/-! ### Attention (R377 to R385) -/

/-- Largest window of the ATTEND nodes that read a key-value tensor; none where no node reads it (R382). -/
def Graph.maxWindow (g : Graph) (kv : Nat) : Option Nat :=
  (g.nodes.filter fun n => n.op = 0x31 && n.slot 1 = some kv).foldl
    (fun a n => some (max (a.getD 0) (n.attr 3 1))) none

/-- Positions a member takes at most in a pass: m of R375. -/
def Graph.memberMax (g : Graph) : Nat := min g.maxPos 1024

/-- Ring pages of a key-value tensor (R382). -/
def Graph.ringPages (g : Graph) (kv : Nat) : Nat :=
  match g.maxWindow kv with
  | none => 0
  | some w => ceilDiv (w + g.memberMax - 1) 256 + 1

/-- The ring page that holds a position, if the page set has it. -/
def ringPage (g : Graph) (pages : List KvPage) (kv pos : Nat) : Option KvPage :=
  pages.find? fun q => q.tensor = kv && !q.glob && q.ring = pos / 256 % max (g.ringPages kv) 1

/-- The global page of a tensor. -/
def globalPage (pages : List KvPage) (kv : Nat) : Option KvPage := pages.find? fun q => q.tensor = kv && q.glob

/-- The page set with one page replaced. -/
def putPage (pages : List KvPage) (q : KvPage) : List KvPage :=
  pages.map fun x => if x.tensor = q.tensor && x.glob = q.glob && (q.glob || x.ring = q.ring) then q else x

/-- A row of a page is complete at head `h` (R380). -/
def KvPage.complete (q : KvPage) (t : Tensor) (row h : Nat) : Bool :=
  let m := Tab.get 0 q.marks row
  m.testBit 7 && (!t.scaled.testBit 0 || h < t.ext (m % 4) 0)

/-- The page with one row written at a gear (R379, R380): the heads in use are replaced, the mark names the gear. -/
def KvPage.write (q : KvPage) (row gear : Nat) (k v : List Nat) : KvPage :=
  let old := Tab.get ([], []) q.rows row
  { q with marks := Tab.put q.marks row (128 + gear), rows := Tab.put q.rows row (putPrefix k old.1, putPrefix v old.2) }

/-- Before a stroke, the ring page that a position first reaches takes its page_base and loses its marks (R383). -/
def preparePage (g : Graph) (pos : Nat) (pages : List KvPage) (kv : Nat) : List KvPage :=
  match ringPage g pages kv pos with
  | none => pages
  | some q => if q.base = pos / 256 then pages else putPage pages { q with base := pos / 256, marks := [] }

/-- Key-value tensors of a graph. -/
def Graph.kvTensors (g : Graph) : List Nat := (List.range g.tensors.length).filter fun i => (g.tensor i).cls = 3

/-- The page set prepared for positions `base` to `base + n − 1`. -/
def preparePages (g : Graph) (base n : Nat) (pages : List KvPage) : List KvPage :=
  (List.range n).foldl (fun pg i => g.kvTensors.foldl (preparePage g (base + i)) pg) pages

/-- KV_WRITE of one position (R379, R383): the ring row, and the row of the global page for a global position. -/
def Ctx.kvWrite (c : Ctx) (globals : List Nat) (kv pos : Nat) (k v : List Nat) (pages : List KvPage) : List KvPage :=
  let pages := match ringPage c.gr pages kv pos with
    | some q => putPage pages (q.write (pos % 256) c.gear k v)
    | none => pages
  match globals.findIdx? fun x => x = pos with
  | none => pages
  | some i => match globalPage pages kv with
    | some q => putPage pages (q.write i c.gear k v)
    | none => pages

/-- Positions of the window of a query (R377), ascending, not above `top`. -/
def windowOf (causal window p top : Nat) : List Nat :=
  let lo := p + 1 - window
  let hi := if causal = 1 then p else p + window - 1
  (List.range (min hi top + 1 - lo)).map fun i => lo + i

/-- A block of attention: keys and values of admitted rows (R378). -/
abbrev Block' := List (List Nat × List Nat)

/-- Blocks of a query position for one key-value head, in order: the global page, then the ring pages (R377, R378). Each
block is a list of (page, row). -/
def Ctx.blocks (c : Ctx) (pages : List KvPage) (globals : List Nat) (n : Node) (kv h p top : Nat) :
    List (List (KvPage × Nat)) :=
  let t := c.gr.tensor kv
  let causal := n.attr 5 1
  let win := windowOf causal (n.attr 3 1) p top
  let glob := match globalPage pages kv with
    | none => []
    | some q => (List.range globals.length).filterMap fun i =>
        let x := globals.getD i 0
        if !win.contains x && (causal = 0 || x ≤ p) && q.complete t i h then some (q, i) else none
  let pageOfPos := (win.map fun x => x / 256).eraseDups
  let ring := pageOfPos.map fun b =>
    (win.filter fun x => x / 256 = b).filterMap fun x =>
      match ringPage c.gr pages kv x with
      | some q => if q.base = b && q.complete t (x % 256) h then some (q, x % 256) else none
      | none => none
  (glob :: ring).filter fun b => !b.isEmpty

/-- One block folded into the running maximum, sum and output (R378). -/
def attendBlock (acc : Nat × Nat × List Nat) (b : List (Nat × List Nat)) : Nat × Nat × List Nat :=
  let (m0, l0, o0) := acc
  let mb := (b.map Prod.fst).foldl fmax fninf
  let dim := o0.length
  let (lb, ob) := b.foldl (fun (a : Nat × List Nat) x =>
      let w := gateExp (fsub x.1 mb)
      (fadd a.1 w, (List.range dim).map fun d => ffma w (x.2.getD d 0) (a.2.getD d 0)))
    (fzero, List.replicate dim fzero)
  let m1 := fmax m0 mb
  let a := gateExp (fsub m0 m1)
  let cc := gateExp (fsub mb m1)
  (m1, ffma l0 a (fmul lb cc),
    (List.range dim).map fun d => ffma (o0.getD d 0) a (fmul (ob.getD d 0) cc))

/-- The output of one query head over its blocks of (score, value) (R378). -/
def attendHead (dim : Nat) (blocks : List (List (Nat × List Nat))) : List Nat :=
  if blocks.isEmpty then List.replicate dim fzero
  else
    let (_, l, o) := blocks.foldl attendBlock (fninf, fzero, List.replicate dim fzero)
    o.map fun x => fdiv x l

/-- Scales of the keys and values of an INT8 key-value tensor: those of KV_WRITE's inputs (R379). -/
def Graph.kvScales (g : Graph) (kv : Nat) : Nat × Nat :=
  match g.nodes.find? fun n => n.op = 0x30 && n.slot 2 = some kv with
  | some n => ((g.tensor ((n.slot 0).getD 0)).scale, (g.tensor ((n.slot 1).getD 0)).scale)
  | none => (0, 0)

/-- ATTEND of one position: the output, and the pages that hold an admitted key (R385). -/
def Ctx.attend (c : Ctx) (r : Pass) (globals : List Nat) (n : Node) (q kv p pos top : Nat) :
    List Nat × List (Bool × Nat) :=
  let t := c.gr.tensor kv
  let dim := t.dims.getD 1 0
  let qs := rowsOf dim (c.f32At r q p)
  let kvHeads := t.ext c.gear 0
  let group := qs.length / max kvHeads 1
  let scale := n.attr 6 (gateRsqrt (r32 (Val.ofInt dim)))
  let (ks, vs) := c.gr.kvScales kv
  let heads := (List.range qs.length).map fun hq =>
    let h := hq / max group 1
    let bl := c.blocks r.pages globals n kv h pos top
    let qv := (qs.getD hq []).map v32
    let row (x : KvPage × Nat) : Nat × List Nat :=
      let d := Tab.get ([], []) x.1.rows x.2
      let k := ((d.1.drop (h * dim)).take dim).map (toF32 t.fmt ks)
      let v := ((d.2.drop (h * dim)).take dim).map (toF32 t.fmt vs)
      (fmul (dotHalf qv (k.map v32)) scale, v)
    (attendHead dim (bl.map fun b => b.map row), bl.flatMap fun b => b.map fun x => (x.1.glob, x.1.ring))
  (heads.flatMap Prod.fst, (heads.flatMap Prod.snd).eraseDups)

/-! ### Nodes -/

/-- SELECT's choice among logits: the index of the greatest; a free value where none is greater than every other. -/
def selectToken (logits : List Nat) : Nat :=
  let m := logits.foldl (fun a x => if flt a x then x else a) fninf
  let best := (List.range logits.length).filter fun i => !isNan (logits.getD i 0) && !flt (logits.getD i 0) m
  match best with
  | [i] => if logits.any isNan then Config.selectAmong logits % max logits.length 1 else i
  | _ => Config.selectAmong logits % max logits.length 1

/-- A head's rotation by position. -/
def Ctx.rotary (c : Ctx) (r : Pass) (n : Node) (x p pos : Nat) : List Nat :=
  let t := c.gr.tensor x
  let dim := t.ext c.gear 1
  (rowsOf dim (c.f32At r x p)).flatMap fun h =>
    (List.range dim).map fun i => Config.rotary (n.attr 20 0x461C_4000) pos h i

/-- CONV1D of one position. -/
def Ctx.conv (c : Ctx) (r : Pass) (n : Node) (x w len p : Nat) : List Nat :=
  let wt := weightOf c.gr c.gears c.layers w
  let taps := n.attr 9 1
  let params := [taps, n.attr 10 1, n.attr 11 1, n.attr 5 1]
  (wt.t.outIndices c.gear).map fun ch =>
    Config.conv1d params ((List.range taps).map fun k => r32 (wt.val ch k))
      ((List.range len).map fun q => (c.f32At r x q).getD ch 0) p

/-- One node over a pass of `len` places; `pos` gives their sequence positions, `keep` the step whose state is carried,
`top` the last position written so far (R299). -/
def Ctx.node (c : Ctx) (globals : List Nat) (len keep : Nat) (pos : Nat → Nat) (r : Pass) (n : Node) : Pass :=
  let g := c.gr
  let in0 := (n.slot 0).getD 0
  let in1 := (n.slot 1).getD 0
  let y := (n.slot 4).getD 0
  let tx := g.tensor in0
  let ty := g.tensor y
  let move (f : Nat → List Nat) : Pass :=
    let l := (List.range len).map fun p => convertAll tx.fmt tx.scale ty.fmt ty.scale (f p)
    r.put y (l.map Prod.fst) (l.foldl (fun a x => a.add x.2) Cnt.zero)
  match n.op with
  | 0x01 => c.emit r len y fun p => c.matmul r n in0 in1 y p
  | 0x02 =>
    let rows := (List.range len).map fun p => c.embed in1 ((r.at_ in0 p).getD 0 0)
    let r' := c.emit r len y fun p => (rows.getD p ([], false)).1
    { r' with cnt := r'.cnt.add { nan := (rows.filter Prod.snd).length, sat := 0 } }
  | 0x03 => c.emit r len y fun p => c.conv r n in0 in1 len p
  | 0x04 => c.emit r len y fun p =>
      (List.range (n.attr 16 256 / 2 + 1)).map fun k => Config.spectrum (n.attr 16 256) (n.attr 17 1) (r.at_ in0 p) k
  | 0x10 => c.emit r len y fun p => (c.f32At r in0 p).map (gate (n.attr 1 0))
  | 0x11 => c.emit r len y fun p =>
      let a := c.f32At r in0 p
      let side (s d : Nat) : Nat → Nat := match n.slot s with
        | some i => let l := c.f32At r i p
                    fun k => l.getD (k % max l.length 1) 0
        | none => fun _ => d
      let b := side 1 fone
      let cc := side 2 fzero
      (List.range a.length).map fun k => ffma (a.getD k 0) (b k) (cc k)
  | 0x12 => c.emit r len y fun p =>
      let vecOf (s : Nat) : List Nat := match n.slot s with
        | some i => let w := weightOf g c.gears c.layers i
                    (List.range (w.t.ext c.gear 0)).map fun k => toF32 w.t.fmt 0 (w.vec k)
        | none => []
      (rowsOf ((tx.shape c.gear).getLastD 1) (c.f32At r in0 p)).flatMap
        (normRow (n.attr 15 0) (n.attr 2 0x3727_C5AC) (vecOf 1) (vecOf 2))
  | 0x13 => c.emit r len y fun p =>
      (rowsOf ((tx.shape c.gear).getLastD 1) (c.f32At r in0 p)).flatMap (softmaxRow (n.attr 6 fone))
  | 0x14 => move fun p => r.at_ in0 p
  | 0x15 => move fun p =>
      let ax := n.attr 12 0
      sliceAxis (tx.shape c.gear) ax (sliceScaled tx ax (n.attr 13 0) c.gear) (sliceScaled tx ax (n.attr 14 0) c.gear)
        (r.at_ in0 p)
  | 0x16 =>
    let t1 := g.tensor in1
    let l := (List.range len).map fun p =>
      let a := convertAll tx.fmt tx.scale ty.fmt ty.scale (r.at_ in0 p)
      let b := convertAll t1.fmt t1.scale ty.fmt ty.scale (r.at_ in1 p)
      (concatAxis (tx.shape c.gear) (t1.shape c.gear) (n.attr 12 0) a.1 b.1, a.2.add b.2)
    r.put y (l.map Prod.fst) (l.foldl (fun a x => a.add x.2) Cnt.zero)
  | 0x20 => c.cell r n in0 in1 ((n.slot 2).getD 0) y len keep
  | 0x30 =>
    let kv := (n.slot 2).getD 0
    let t := g.tensor kv
    let t1 := g.tensor in1
    let conv (i f s p : Nat) : List Nat × Cnt := convertAll f s t.fmt s (r.at_ i p)
    let rows := (List.range len).map fun p => (conv in0 tx.fmt tx.scale p, conv in1 t1.fmt t1.scale p)
    let pages := (List.range len).foldl (fun pg p =>
      let x := rows.getD p (([], Cnt.zero), ([], Cnt.zero))
      c.kvWrite globals kv (pos p) x.1.1 x.2.1 pg) r.pages
    let hit := (List.range len).flatMap fun p =>
      (if (ringPage g r.pages kv (pos p)).isSome then [(false, pos p / 256)] else [])
        ++ (if globals.contains (pos p) && (globalPage r.pages kv).isSome then [(true, 0)] else [])
    let bad := (List.range len).any fun p => match ringPage g r.pages kv (pos p) with
      | some q => !q.valid
      | none => false
    { r with pages := pages, desc := r.desc ++ [(n.layer, hit.eraseDups.length)], bad := r.bad || bad,
             kvBytes := r.kvBytes + 2 * hit.length * t.size c.gear * fmtBytes t.fmt,
             cnt := rows.foldl (fun a x => (a.add x.1.2).add x.2.2) r.cnt }
  | 0x31 =>
    let top := pos (len - 1)
    let l := (List.range len).map fun p => c.attend r globals n in0 in1 p (pos p) top
    let hit := (l.flatMap Prod.snd).eraseDups
    let r' := c.emit r len y fun p => (l.getD p ([], [])).1
    let t := g.tensor in1
    let rows := (List.range len).flatMap fun p => windowOf (n.attr 5 1) (n.attr 3 1) (pos p) top
    let bad := hit.any fun h => r.pages.any fun q => q.tensor = in1 && q.glob = h.1 && q.ring = h.2 && !q.valid
    { r' with desc := r'.desc ++ [(n.layer, hit.length)], bad := r'.bad || bad,
              kvBytes := r'.kvBytes + 2 * rows.eraseDups.length * t.size c.gear * fmtBytes t.fmt }
  | 0x32 => c.emit r len y fun p => c.rotary r n in0 p (pos p)
  | 0x41 => r.put y ((List.range len).map fun p => [selectToken (r.at_ in0 p)]) Cnt.zero
  | _ => r

/-- A list of nodes over a pass. -/
def Ctx.nodes (c : Ctx) (globals : List Nat) (len keep : Nat) (pos : Nat → Nat) (r : Pass) (l : List Node) : Pass :=
  l.foldl (c.node globals len keep pos) r

/-- The input tensor of a graph. -/
def Graph.inputTensor (g : Graph) : Nat :=
  match g.nodes.find? fun n => n.op = 0x40 with
  | some n => (n.slot 4).getD 0
  | none => 0

/-- The OUTPUT nodes of a graph: (node index, tensor, out_kind). -/
def Graph.outputs (g : Graph) : List (Nat × Nat × Nat) :=
  (List.range g.nodes.length).filterMap fun i => match g.nodes[i]? with
    | some n => if n.op = 0x42 then some (i, (n.slot 0).getD 0, n.attr 19 0) else none
    | none => none

/-- The SELECT node's output tensor and end_token. -/
def Graph.select (g : Graph) : Option (Nat × Nat) :=
  (g.nodes.find? fun n => n.op = 0x41).map fun n => ((n.slot 4).getD 0, n.attr 18 0xFFFF_FFFF)

/-- A pass before its first node: the input's instances. -/
def Pass.start (inputs : List (List Nat)) (input : Nat) (states : List (Nat × List Nat)) (pages : List KvPage) : Pass :=
  { env := [(input, inputs)], states := states, pages := pages, cnt := Cnt.zero, desc := [], kvBytes := 0, bad := false }

/-- A chunk of a CHUNK-mode stream (R349): all its frames in one pass; the state after frame C − 1 is carried. -/
def Ctx.chunk (c : Ctx) (frames : List (List Nat)) (states : List (Nat × List Nat)) : Pass :=
  c.nodes [] frames.length (c.gr.chunk - 1) id (Pass.start frames c.gr.inputTensor states []) c.gr.nodes

/-- Positions of a sequence in one pass (R375): tokens at successive positions from `base`. -/
def Ctx.positions (c : Ctx) (globals : List Nat) (base : Nat) (tokens : List Nat) (pages : List KvPage) : Pass :=
  c.nodes globals tokens.length 0 (fun p => base + p)
    (Pass.start (tokens.map fun t => [t]) c.gr.inputTensor [] (preparePages c.gr base tokens.length pages)) c.gr.nodes

/-! ### PIPE mode (R348) -/

/-- Pipeline stage of every node: that of its layer in the order of R300; a node outside those layers stands with the
latest stage it reads from, an OUTPUT with the last stage. -/
def Graph.stages (g : Graph) : List Nat :=
  let order := g.passOrder
  let writer (done : List (Node × Nat)) (t : Nat) : Nat :=
    match done.find? fun p => p.1.writes.contains t with
    | some p => p.2
    | none => 0
  let go := g.nodes.foldl (fun (done : List (Node × Nat)) n =>
    let s := if n.op = 0x42 then order.length - 1
      else match order.findIdx? fun l => l = n.layer with
        | some k => k
        | none => n.reads.foldl (fun a t => max a (writer done t)) 0
    done ++ [(n, s)]) []
  go.map Prod.snd

/-- Number of pipeline stages D (R348). -/
def Graph.depth (g : Graph) : Nat := max 1 g.passOrder.length

/-- Tensors that cross into stage `k`: written by an earlier stage and read by stage `k` or a later one. -/
def Graph.crossing (g : Graph) (k : Nat) : List Nat :=
  let st := g.stages
  let at_ (f : Nat → Bool) : List Node := (List.range g.nodes.length).filterMap fun i =>
    if f (st.getD i 0) then g.nodes[i]? else none
  let written := (at_ fun s => s < k).flatMap Node.writes
  let read := (at_ fun s => k ≤ s).flatMap Node.reads
  (written.filter fun t => read.contains t).eraseDups

/-- The carry tensor of a stage in a blob: the lowest-numbered one that crosses into it (R361). -/
def Graph.carryTensor (g : Graph) (k : Nat) : Nat := (g.crossing k).foldl min 0xFFFF

/-- Key of a carried tensor in a stream's state. -/
def carryKey (stage t : Nat) : Nat := stage * 65536 + t

/-- A stage has an input. -/
def hasCarry (g : Graph) (carry : List (Nat × List Nat)) (k : Nat) : Bool :=
  k = 0 || (Tab.find carry (carryKey k (g.carryTensor k))).isSome

/-- One stage over one frame. -/
def Ctx.stage (c : Ctx) (k : Nat) (r : Pass) (frame : List Nat) (carry : List (Nat × List Nat)) : Pass :=
  let st := c.gr.stages
  let env := if k = 0 then [(c.gr.inputTensor, [frame])]
    else (c.gr.crossing k).filterMap fun t => (Tab.find carry (carryKey k t)).map fun v => (t, [v])
  let mine := (List.range c.gr.nodes.length).filterMap fun i => if st.getD i 0 = k then c.gr.nodes[i]? else none
  c.nodes [] 1 0 id { r with env := env } mine

/-- One PIPE stroke (R348): every stage that has an input runs on its own frame; the carry after it; the last stage's
pass where it ran. -/
def Ctx.pipe (c : Ctx) (frame : List Nat) (states carry : List (Nat × List Nat)) : Pass × List (Nat × List Nat) × Bool :=
  let d := c.gr.depth
  let start := Pass.start [] 0 states []
  (List.range d).foldl (fun (a : Pass × List (Nat × List Nat) × Bool) k =>
    if hasCarry c.gr carry k then
      let r := c.stage k a.1 frame carry
      (r, a.2.1 ++ (c.gr.crossing (k + 1)).map (fun t => (carryKey (k + 1) t, r.at_ t 0)), true)
    else ({ a.1 with env := [] }, a.2.1, false)) (start, [], false)

/-- Whether an instance flags a wake: a non-zero element (R298, out_kind 3). -/
def wakes (fmt : Nat) (inst : List Nat) : Bool :=
  inst.any fun x => match fmt with
    | 1 => x ≠ 0
    | 2 | 3 => x % 2 ^ 15 ≠ 0
    | 4 => x % 2 ^ 31 ≠ 0
    | _ => x ≠ 0

end Sys2Proof.Machine
end

