-- ==== Sys2Proof/Machine/Complete.lean ====
section
/-! DEFINITION. Requests to host memory (R171 to R176), ring positions (R188), commands and their outcomes (R198, R204,
R207), output buffers (R200), and the release of completion entries with the backlog (R176, R199). -/
namespace Sys2Proof.Machine

/-! ### Requests to host memory -/

/-- Set the link's power state, showing the change at trace point 23 (Table 6-7, Table 19-4). -/
def State.setPm (s : State) (pm : Nat) : State :=
  if s.fld Reg.LNK_STATUS 9 2 = pm then s
  else (s.setFld Reg.LNK_STATUS 9 2 pm).trace 23 0 pm (s.fld Reg.LNK_STATUS 1 5)

/-- The link carries a request: it leaves L1 if it rests there (R180), and its idle time starts anew. -/
def State.wakeLink (s : State) : State :=
  let s := { s with link := { s.link with idleSince := s.now } }
  if s.fld Reg.LNK_STATUS 9 2 = 0 then s else (s.setPm 0).count Reg.LNK_L1_EXITS 1

/-- Requests may be issued for rider `n`: its function exists, is not in D3hot, has Bus Master Enable, the link is up and
no reset of the rider runs (R165, R176, R177). -/
def State.mayIssue (s : State) (n : Nat) : Bool :=
  s.riderExists n && !(s.fn n).d3hot && (s.fn n).bme && s.linkUp && (Tab.find s.link.resetting n).isNone
    && (Tab.find s.link.hostReset n).isNone

/-- A write to host memory by function `n`; nothing where no request may be issued. -/
def State.dmaWrite (s : State) (n addr : Nat) (bytes : List Byte) : State :=
  if s.mayIssue n && bytes ≠ [] then s.wakeLink.emit (.hostWrite n (addr % 2 ^ 64) bytes) else s

/-- A read of host memory issued for rider `n` by function `f`, counted in flight until it ends. -/
def State.dmaRead (s : State) (n f addr len : Nat) : State :=
  if s.mayIssue f then
    let s := s.wakeLink.emit (.hostRead f (addr % 2 ^ 64) len)
    { s with link := { s.link with reads := Tab.put s.link.reads n (Tab.get 0 s.link.reads n + 1) } }
  else s

/-- A read of rider `n` has ended. -/
def State.readEnds (s : State) (n : Nat) : State :=
  let k := Tab.get 0 s.link.reads n
  { s with link := { s.link with reads := Tab.putD 0 s.link.reads n (k - 1) } }

/-- The link-class code of a failed request: 0 Unsupported Request, 1 Completer Abort, 2 poisoned, 3 timeout (Table
6-5). -/
def dmaCode (kind : Nat) : Nat := if kind = 0 then 0x0201 else if kind = 1 then 0x0202 else if kind = 2 then 0x0203 else 0x0204

/-- What a failed request records and counts (R175): in the rider's RDR page and in LNK, with the rider as agent. -/
def State.recordDma (s : State) (n kind : Nat) : State :=
  let code := dmaCode kind
  let s := (s.recordErrAt (0x040 + n) code n).raiseBit (0x040 + n) 2
  let s := (s.recordErrAt 0x00C code n).raiseBit 0x00C 3
  (s.count (Reg.RDR_DMA_ERRS n) 1).count Reg.LNK_DMA_ERRS 1

/-! ### Ring positions -/

/-- A ring's size in slots from its control register. -/
def ringSize (ctl : Word) : Nat := 2 ^ Word.fld ctl 0 4

/-- A position word (slot and phase) as a count modulo twice the size (R188). -/
def ringPos (size : Nat) (w : Word) : Nat := Word.fld w 0 16 + Word.fld w 16 1 * size

/-- The word of a count. -/
def ringWord (size pos : Nat) : Word :=
  BitVec.ofNat 32 (pos % (2 * size) % size + pos % (2 * size) / size * 2 ^ 16)

/-- How far `b` lies ahead of `a`. -/
def ringDist (size a b : Nat) : Nat := (b + 2 * size - a % (2 * size)) % (2 * size)

/-- Completion ring `q` of rider `n` takes no entry: disabled or full (R188). -/
def State.cqFull (s : State) (n q : Nat) : Bool :=
  let ctl := s.rd (Reg.RDR_CQ_CTL n q)
  let size := ringSize ctl
  !Word.bit ctl 16
    || ringDist size (ringPos size (s.rd (Reg.RDR_CQ_HEAD n q))) (ringPos size (s.rd (Reg.RDR_CQ_TAIL n q))) ≥ size

/-! ### Commands and outcomes -/

/-- The accepted command with an acceptance order. -/
def State.cmd (s : State) (order : Nat) : Option Cmd := s.link.cmds.find? fun c => c.own.order = order

/-- The state with the command of an acceptance order changed. -/
def State.setCmd (s : State) (order : Nat) (f : Cmd → Cmd) : State :=
  { s with link := { s.link with cmds := s.link.cmds.map fun c => if c.own.order = order then f c else c } }

/-- A command whose outcome is not decided. -/
def Cmd.open_ (c : Cmd) : Bool := c.stage ≠ .decided

/-- Accepted commands without an outcome (JNL_PENDING, R191). -/
def State.pendingCmds (s : State) : Nat := (s.link.cmds.filter Cmd.open_).length

/-- The journal with the COMMAND entry at a position done (R207). -/
def Journal.finish (j : Journal) (pos : Nat) (tick : DWord) (status result : Nat) : Journal :=
  match Tab.find j.pos pos with
  | none => j
  | some e =>
    let late := min 0xFFFF (tick - e.tick).toNat
    let e' := { e with flags := setBit e.flags 2, code := status, arg0 := result % 2 ^ 32, arg1 := late }
    { j with pos := Tab.put j.pos pos (JEntry.sealed e') }

/-- A completion entry of an owner is produced (R198). -/
def State.produce (s : State) (o : Owner) (kind : CplKind) (code status result : Nat) (payload : List Byte) (obj : Nat) :
    State :=
  let e : CplEntry :=
    { rider := o.rider, sq := o.sq, cq := o.cq, order := o.order, tag := o.tag, seq := o.seq, epoch := o.epoch,
      code := code, kind := kind, status := status, result := result % 2 ^ 32, payload := payload, obj := obj,
      region := none, tick := none }
  { s with link := { s.link with entries := s.link.entries ++ [e] } }

/-- An EVENT entry of Table 7-5; ROLLBACK, FAULT and MIGRATED are journalled (R209) by the SERVE hub. -/
def State.event (s : State) (o : Owner) (code status result : Nat) : State :=
  let s := s.produce o .event code status result [] 0
  if code = 2 ∨ code = 3 ∨ code = 5 then
    let e : JEntry :=
      { seq := 0, epoch := 0, tick := s.tick.number, type := 0x02, agent := 0x11, code := status, tag := o.tag,
        op := code, flags := 0, arg0 := result % 2 ^ 32, arg1 := 0, check := 0 }
    { s with jnl := s.jnl.store e }
  else s

/-- The outcome of an accepted command is decided (R198, R207): its journal entry ends and its FINAL is produced. A command
already decided, or no longer there, keeps its outcome. -/
def State.decide (s : State) (order status result : Nat) : State :=
  match s.cmd order with
  | none => s
  | some c =>
    if c.open_ then
      let s := { s with jnl := s.jnl.finish c.pos s.tick.number status result }
      let s := s.setCmd order fun c => { c with stage := .decided, status := status, result := result }
      let s := s.produce c.own .final c.desc.opcode status result [] 0
      { s with link := { s.link with paused := s.link.paused && 1024 ≤ s.pendingCmds } }
    else s

/-- A command is aborted without a completion entry (R178, R204): its journal entry ends with ABORT. -/
def State.abandon (s : State) (order : Nat) : State :=
  match s.cmd order with
  | none => s
  | some c =>
    let s := if c.open_ then { s with jnl := s.jnl.finish c.pos s.tick.number 0x0401 0 } else s
    let s := { s with link := { s.link with cmds := s.link.cmds.filter fun d => d.own.order ≠ order } }
    { s with link := { s.link with paused := s.link.paused && 1024 ≤ s.pendingCmds } }

/-- Commands that satisfy `p` get the same outcome. -/
def State.decideAll (s : State) (p : Cmd → Bool) (status : Nat) : State :=
  (s.link.cmds.filter fun c => c.open_ && p c).foldl (fun s c => s.decide c.own.order status 0) s

/-! ### Output buffers -/

/-- An empty output buffer (R200). -/
def OutBuf.fresh (addr len : Nat) : OutBuf := { addr := addr, len := len, next := 0, regions := [], nextId := 0 }

/-- A place of `n` bytes at offset `o` is free. -/
def OutBuf.free (b : OutBuf) (o n : Nat) : Bool :=
  o + n ≤ b.len && b.regions.all fun r => o + n ≤ r.2.1 || r.2.1 + r.2.2 ≤ o

/-- Place a payload of `n` bytes (R200): at the next 64-byte boundary, or at offset 0 where it does not fit before the
end; none where too little is free. -/
def OutBuf.place (b : OutBuf) (n : Nat) : Option (Nat × OutBuf) :=
  let size := roundUp n 64
  let o := if b.next + size ≤ b.len then b.next else 0
  if b.free o size then
    some (o, { b with next := o + size, regions := b.regions ++ [(b.nextId, o, size)], nextId := b.nextId + 1 })
  else none

/-- Count in an object counter (R555): word `w` of a stream entry's set, or of a sequence entry's (1,024 + index). -/
def State.countObj (s : State) (key w n : Nat) : State :=
  let l := Tab.get (List.replicate 8 0) s.trc.objs key
  let v := l.getD w 0
  let v' := min (v + n) (2 ^ 32 - 1)
  let s := { s with trc := { s.trc with objs := Tab.put s.trc.objs key (l.set w v') } }
  if v' = 2 ^ 32 - 1 && v ≠ v' then s.raiseBit 0x00D 30 else s

/-- Key of an object's counters: the stream's index, or 1,024 + the sequence's. -/
def objKey (h : Nat) : Nat := if h / 2 ^ 28 = 1 then h % 1024 else 1024 + h % 1024

/-- An object's counters return to zero as its entry is filled (R555). -/
def State.zeroObj (s : State) (h : Nat) : State :=
  { s with trc := { s.trc with objs := Tab.put s.trc.objs (objKey h) (List.replicate 8 0) } }

/-- A payload is counted for its object: written, or dropped (Table 19-6). -/
def State.countPayload (s : State) (h : Nat) (dropped : Bool) : State :=
  s.countObj (objKey h) ((if h / 2 ^ 28 = 1 then 4 else 5) + Bool.num dropped) 1

/-- Place of a released OUTPUT entry's payload: the entry with its result, region and status (R200). -/
def State.placeOutput (s : State) (e : CplEntry) : CplEntry × State :=
  let b := Tab.get (OutBuf.fresh 0 0) s.link.bufs e.obj
  match b.place e.payload.length with
  | some (o, b') =>
    ({ e with result := o, region := some (b.nextId, b.addr + o) },
     { s with link := { s.link with bufs := Tab.put s.link.bufs e.obj b' } }.countPayload e.obj false)
  | none => ({ e with status := 0x0405, result := 0, payload := [] }, s.countPayload e.obj true)

/-- A region of an object's buffer is free again. -/
def State.freeRegion (s : State) (obj id : Nat) : State :=
  match Tab.find s.link.bufs obj with
  | none => s
  | some b =>
    let b' := { b with regions := b.regions.filter fun r => r.1 ≠ id }
    { s with link := { s.link with bufs := Tab.put s.link.bufs obj b' } }

/-! ### Writing entries -/

/-- The 32 bytes of a completion entry (Table 7-4) with its phase bit. -/
def CplEntry.bytes (e : CplEntry) (phase : Nat) : List Byte :=
  let kind := match e.kind with | .final => 0 | .output => 1 | .event => 2
  leBytes 2 e.tag ++ leBytes 1 e.code ++ leBytes 1 (kind + 4 * e.sq) ++ leBytes 2 e.status ++ leBytes 2 e.epoch
    ++ leBytes 6 e.seq ++ leBytes 2 0 ++ leBytes 8 (e.tick.getD 0).toNat ++ leBytes 4 e.result
    ++ leBytes 3 (if e.kind = .output then e.payload.length else 0) ++ leBytes 1 (phase * 128)

/-- Write an entry to its ring (R174, R192): the payload first, then the entry; the tail advances, and the region it
reports is freed when the head passes it. A written FINAL ends its command. -/
def State.writeEntry (s : State) (e : CplEntry) : State :=
  let size := ringSize (s.rd (Reg.RDR_CQ_CTL e.rider e.cq))
  let tail := ringPos size (s.rd (Reg.RDR_CQ_TAIL e.rider e.cq))
  let phase := tail / size % 2
  let s := match e.region with
    | some (_, a) => s.dmaWrite e.rider a e.payload
    | none => s
  let s := s.dmaWrite e.rider (s.rd64 (Reg.RDR_CQ_BASE_LO e.rider e.cq) / 4096 * 4096 + 32 * (tail % size))
    (e.bytes (1 - phase))
  let s := s.wr (Reg.RDR_CQ_TAIL e.rider e.cq) (ringWord size (tail + 1))
  let s := match e.region with
    | some (id, _) =>
      let r : Reported := { rider := e.rider, cq := e.cq, pos := tail, obj := e.obj, region := id }
      { s with link := { s.link with reported := s.link.reported ++ [r] } }
    | none => s
  let kind := match e.kind with | .final => 0 | .output => 1 | .event => 2
  let s := s.trace 18 e.rider (kind * 16 + e.cq) (e.seq % 2 ^ 32)
  if e.kind = .final then
    { s with link := { s.link with cmds := s.link.cmds.filter fun c => c.own.order ≠ e.order } }
  else s

/-- The entry can be written now (R176). -/
def State.deliverable (s : State) (e : CplEntry) : Bool := s.mayIssue e.rider && !s.cqFull e.rider e.cq

/-- A completion entry is discarded (R176, R179): counted, and recorded as CPL_DROPPED where `record`; a FINAL ends its
command. -/
def State.dropEntry (s : State) (e : CplEntry) (record : Bool) : State :=
  let s := s.count (Reg.RDR_CPL_DROPPED e.rider) 1
  let s := if record then (s.recordErrAt (0x040 + e.rider) 0x0205 e.rider).raiseBit (0x040 + e.rider) 1 else s
  if e.kind = .final then
    { s with link := { s.link with cmds := s.link.cmds.filter fun c => c.own.order ≠ e.order } }
  else s

/-- Write the held entries of a rider that can be written, in order; the rings written and those that stay. -/
def State.drainList (s : State) : List CplEntry → State × List CplEntry × List Nat
  | [] => (s, [], [])
  | e :: t =>
    if s.deliverable e && e.tick.isSome then
      let r := State.drainList (s.writeEntry e) t
      (r.1, r.2.1, e.cq :: r.2.2)
    else
      let r := State.drainList s t
      (r.1, e :: r.2.1, r.2.2)

/-- The rings written to make their vectors due (R169). -/
def State.cqMessages (s : State) (n : Nat) (rings : List Nat) : State :=
  ((List.range 4).filter fun q => rings.contains q).foldl (fun s q =>
    if s.bit (Reg.RDR_CQ_CTL n q) 17 then s.dueVec n (s.fld (Reg.RDR_CQ_CTL n q) 8 6) else s) s

/-- Backlog of a rider. -/
def State.backlog (s : State) (n : Nat) : List CplEntry := Tab.get [] s.link.backlog n

/-- BACKLOG_HIGH is logged when a backlog first reaches 192 entries after it was last below 128 (R543). -/
def State.logHigh (s : State) (n : Nat) : State :=
  let k := (s.backlog n).length
  if 192 ≤ k && !s.link.high.contains n then
    ({ s with link := { s.link with high := n :: s.link.high } }).log 1 1 0x8102 n k 0
  else if k < 128 then { s with link := { s.link with high := s.link.high.filter fun m => m ≠ n } }
  else s

/-- The state with a rider's backlog replaced. -/
def State.setBacklog (s : State) (n : Nat) (l : List CplEntry) : State :=
  ({ s with link := { s.link with backlog := Tab.putD [] s.link.backlog n l } }).logHigh n

/-- A rider's backlog drains as far as it can be written (R176). -/
def State.drain (s : State) (n : Nat) : State :=
  let r := s.drainList (s.backlog n)
  (r.1.setBacklog n r.2.1).cqMessages n r.2.2

/-! ### Release -/

/-- An entry is written before another: an earlier owner's, or the same owner's where the other alone is its FINAL (R199). -/
def CplEntry.before (e x : CplEntry) : Bool := e.order < x.order || (e.order = x.order && e.kind ≠ .final && x.kind = .final)

/-- Insert an entry after those it is not written before. -/
def insertEntry (e : CplEntry) : List CplEntry → List CplEntry
  | [] => [e]
  | x :: t => if e.before x then e :: x :: t else x :: insertEntry e t

/-- Entries by the acceptance order of their owners, each owner's OUTPUT and EVENT entries in the order produced and then its
FINAL (R199). -/
def sortEntries (l : List CplEntry) : List CplEntry := l.foldl (fun a e => insertEntry e a) []

/-- An entry waits (R199): its owner's FINAL is not written, and a command accepted earlier for the same ring is without an
outcome. -/
def State.blocked (s : State) (e : CplEntry) : Bool :=
  s.link.cmds.any (fun c => c.own.order = e.order)
    && s.link.cmds.any (fun c => c.own.order < e.order && c.own.rider = e.rider && c.own.cq = e.cq && c.open_)

/-- An entry released at this edge: its tick stamp, and the place of its payload (R198, R200). -/
def State.stamp (s : State) (e : CplEntry) : CplEntry × State :=
  let e := { e with tick := some s.tick.number }
  if e.kind = .output && e.region.isNone && e.status ≠ 0x0405 then s.placeOutput e else (e, s)

/-- Hold an entry in its rider's backlog, or discard it where the backlog is full (R176). -/
def State.hold (s : State) (e : CplEntry) : State :=
  if 256 ≤ (s.backlog e.rider).length then s.dropEntry e true
  else s.setBacklog e.rider (s.backlog e.rider ++ [e])

/-- Offer one entry at an edge: discarded where its rider does not exist or its command was accepted before a host-link
reset (R165, R179), held while it waits, else stamped and written, or held behind what its ring already holds. `fresh`
tells an entry that was not in the backlog; the rings written are collected. -/
def State.offer (s : State) (fresh : Bool) (e : CplEntry) : State × List (Nat × Nat) :=
  if e.order < s.link.discard then (s.dropEntry e true, [])
  else if !s.riderExists e.rider then (s.dropEntry e false, [])
  else if s.blocked e then
    (if fresh then s.hold e else s.setBacklog e.rider (s.backlog e.rider ++ [e]), [])
  else
    let r := s.stamp e
    let behind := (r.2.backlog e.rider).any fun x => x.cq = e.cq && x.tick.isSome
    if !behind && r.2.deliverable r.1 then (r.2.writeEntry r.1, [(e.rider, e.cq)])
    else (if fresh then r.2.hold r.1 else r.2.setBacklog e.rider (r.2.backlog e.rider ++ [r.1]), [])

/-- Offer entries in turn. -/
def State.offerAll (s : State) : List (Bool × CplEntry) → State × List (Nat × Nat)
  | [] => (s, [])
  | (fresh, e) :: t =>
    let r := s.offer fresh e
    let q := State.offerAll r.1 t
    (q.1, r.2 ++ q.2)

/-- The entries of one rider that waited for an earlier command leave the backlog to be offered again. -/
def State.takeWaiting (s : State) (n : Nat) : List CplEntry × State :=
  let b := s.backlog n
  (b.filter fun e => e.tick.isNone,
   { s with link := { s.link with backlog := Tab.putD [] s.link.backlog n (b.filter fun e => e.tick.isSome) } })

/-- Release of completion entries at a tick edge (R199): first what the backlogs hold and can be written (R176), then the
entries due, by acceptance order. No entry is released while the SERVE hub restarts. -/
def State.release (s : State) : State :=
  if s.restarting 1 then s
  else
    let s := (List.range 16).foldl (fun s n => s.drain n) s
    let w := (List.range 16).foldl (fun (a : List CplEntry × State) n =>
      let r := a.2.takeWaiting n
      (a.1 ++ r.1, r.2)) ([], s)
    let due := sortEntries (w.1 ++ w.2.link.entries)
    let old := w.1
    let s := { w.2 with link := { w.2.link with entries := [] } }
    let r := s.offerAll (due.map fun e => (!old.contains e, e))
    (List.range 16).foldl (fun s n => s.cqMessages n ((r.2.filter fun p => p.1 = n).map Prod.snd)) r.1

/-! ### Doorbells -/

/-- A tail doorbell (R190): published where valid, else BADVAL; nothing while the rider is reset (R177). -/
def State.sqTail (s : State) (agent n q : Nat) (val : Word) : State :=
  let off := Reg.RDR_SQ_TAIL n q
  let ctl := s.rd (Reg.RDR_SQ_CTL n q)
  let size := ringSize ctl
  let head := ringPos size (s.rd (Reg.RDR_SQ_HEAD n q))
  let old := ringDist size head (ringPos size (s.rd off))
  let new := ringDist size head (ringPos size val)
  if (Tab.find s.link.resetting n).isSome then s
  else if Word.bit ctl 8 && Word.fld val 0 16 < size && new ≤ size && old ≤ new then
    let s := s.wr off (BitVec.ofNat 32 (Word.fld val 0 17))
    let s := { s with link := { s.link with fetchStop := s.link.fetchStop.filter fun p => p ≠ (n, q) } }
    s.trace 17 n q (Word.fld val 0 17)
  else s.badVal agent off

/-- A head doorbell (R190, R200): ring slots and the reported bytes the head passes become free where valid, else BADVAL;
nothing while the rider is reset (R177). -/
def State.cqHead (s : State) (agent n q : Nat) (val : Word) : State :=
  let off := Reg.RDR_CQ_HEAD n q
  let ctl := s.rd (Reg.RDR_CQ_CTL n q)
  let size := ringSize ctl
  let head := ringPos size (s.rd off)
  let avail := ringDist size head (ringPos size (s.rd (Reg.RDR_CQ_TAIL n q)))
  let new := ringDist size head (ringPos size val)
  if (Tab.find s.link.resetting n).isSome then s
  else if Word.bit ctl 16 && Word.fld val 0 16 < size && new ≤ avail then
    let passed (r : Reported) : Bool := r.rider = n && r.cq = q && ringDist size head r.pos < new
    let gone := s.link.reported.filter passed
    let s := gone.foldl (fun s r => s.freeRegion r.obj r.region) s
    let s := { s with link := { s.link with reported := s.link.reported.filter fun r => !passed r } }
    let s := s.wr off (BitVec.ofNat 32 (Word.fld val 0 17))
    s.trace 17 n (256 + q) (Word.fld val 0 17)
  else s.badVal agent off

/-! ### Presence -/

/-- Close the presence window (R212). -/
def State.closeWindow (s : State) : State :=
  match s.window with
  | none => s
  | some w => (({ s with window := none }).journal 0x13 0x21 2 w.used 0).raiseBit 0x007 1

/-- The debug port is open (R215). -/
def State.debugOpen (s : State) : Bool := !s.part.sealFuse || s.debug

/-- The status a privileged command gets from the window, if it is refused (R212, R213). -/
def State.windowStatus (s : State) : Option Nat :=
  match s.window with
  | none => some 0x0309
  | some w => if w.used ≥ 8 then some 0x030A else none

/-- A refusal for want of presence is counted (Table 7-11). -/
def State.countRefused (s : State) (status : Nat) : State :=
  if status = 0x0309 ∨ status = 0x030A then s.count Reg.PRS_REFUSED 1 else s

/-- A privileged command passes admission (R213). -/
def State.useWindow (s : State) : State :=
  match s.window with
  | none => s
  | some w => (({ s with window := some { w with used := w.used + 1 } }).count Reg.PRS_USED 1).raiseBit 0x007 2

end Sys2Proof.Machine
end

