-- ==== Sys2Proof/Machine/Stack.lean ====
section
/-! DEFINITION. The weight stacks (R218 to R250): channels and home channels, granules and their allocation with
reclaiming, where a device address lies, patrol, and the registers of the STK and CHN pages that show them. -/
namespace Sys2Proof.Machine

/-! ### Channels and home channels -/

/-- A channel at rest. -/
def Channel.zero : Channel :=
  { st := .off, trainedAt := 0, trainedT := none, due := false, window := false, fails := 0, uncorr := [], bad := [],
    withdrawn := [] }

/-- Channel `n`. -/
def State.chan (s : State) (n : Nat) : Channel := Tab.get Channel.zero s.mem.chans n

/-- The state with the weight stacks replaced. -/
def State.setMem (s : State) (m : Stacks) : State := { s with mem := m }

/-- The state with channel `n` replaced. -/
def State.setChan (s : State) (n : Nat) (c : Channel) : State := s.setMem { s.mem with chans := Tab.put s.mem.chans n c }

/-- Number of channels of the part (R218). -/
def State.chanCount (s : State) : Nat := s.part.variant.channels

/-- The home channel of row `r`, logical column `k` before any rehoming (Table 8-2). -/
def defaultHome (v : Variant) (r k : Nat) : Nat :=
  match v.stacks with
  | 1 => r
  | 2 => 8 * (k / 4) + r
  | _ => 8 * (k / 2) + r

/-- The home channel of a spoke by its number `8 r + k` (R221, R245). -/
def State.home (s : State) (i : Nat) : Nat := Tab.get (defaultHome s.part.variant (i / 8) (i % 8)) s.mem.homes i

/-- Row `r` is lost. -/
def State.rowLost (s : State) (r : Nat) : Bool := s.mem.rowLost.testBit r

/-- The spokes of a row set, by number. -/
def rowSpokes (rows : Nat) : List Nat := (maskList 8 rows).flatMap fun r => (List.range 8).map fun k => 8 * r + k

/-- The distinct home channels of a row set, in ascending order. -/
def State.homesOf (s : State) (rows : Nat) : List Nat :=
  (List.range s.chanCount).filter fun n => (rowSpokes rows).any fun i => s.home i = n

/-- The spokes homed on channel `n`: those of rows not lost. -/
def State.homed (s : State) (n : Nat) : List Nat :=
  (List.range 64).filter fun i => !s.rowLost (i / 8) && s.home i = n

/-- A channel that has not failed and is not switched off. -/
def Channel.survives (c : Channel) : Bool := c.st = .active || c.st = .selfRefresh

/-- The stack of a channel. -/
def stackOf (n : Nat) : Nat := n / 8

/-! ### Granules -/

/-- Granules of a channel (R220). -/
def granCount : Nat := 504

/-- Bytes of a granule. -/
def granBytes : Nat := 0x20_0000

/-- Allocation of granule `g` of channel `n`, if it has one. -/
def State.allocAt (s : State) (n g : Nat) : Option Alloc := s.mem.allocs.find? fun a => a.chan = n && a.gran = g

/-- The free granules of channel `n`, in ascending order. -/
def State.freeGrans (s : State) (n : Nat) : List Nat :=
  if (s.chan n).survives && n < s.chanCount then
    let used := (s.mem.allocs.filter fun a => a.chan = n).map Alloc.gran
    (List.range granCount).filter fun g => !used.contains g && !(s.chan n).withdrawn.contains g
  else []

/-- Granules of channel `n` held by a class. -/
def State.classCount (s : State) (n : Nat) (c : GranClass) : Nat :=
  (s.mem.allocs.filter fun a => a.chan = n && a.cls = c).length

/-- Allocate `k` granules on each of the channels, lowest first. -/
def State.takeGrans (s : State) (chans : List Nat) (k : Nat) (cls : GranClass) (owner : Nat) : State :=
  chans.foldl (fun s n =>
    let l := (List.range k).zipWith (fun i g =>
      ({ chan := n, gran := g, cls := cls, owner := owner, idx := i, age := s.mem.nextAge } : Alloc)) (s.freeGrans n)
    s.setMem { s.mem with allocs := s.mem.allocs ++ l, nextAge := s.mem.nextAge + 1 }) s

/-- Free every allocation of a class and owner. -/
def State.freeOwner (s : State) (cls : GranClass) (owner : Nat) : State :=
  s.setMem { s.mem with allocs := s.mem.allocs.filter fun a => !(a.cls = cls && a.owner = owner) }

/-- Owner numbers of cassette-class granules: a slot's base, an adapter of a slot, the `k`th patch of a slot. -/
def ownBase (slot : Nat) : Nat := slot
def ownAdapter (slot a : Nat) : Nat := 16 + slot * 64 + a
def ownPatch (slot k : Nat) : Nat := 2048 + slot + 16 * k

/-- The slot that an owner number of the cassette class belongs to. -/
def ownSlot (owner : Nat) : Nat := if owner < 16 then owner else if owner < 2048 then (owner - 16) / 64 else (owner - 2048) % 16

/-- The owner number is a slot's base or one of its patches. -/
def ownsBase (slot owner : Nat) : Bool := ownSlot owner = slot && (owner < 16 || 2048 ≤ owner)

/-! ### Reclaiming (R224) -/

/-- The scratch allocations, oldest first, as (owner, age). -/
def State.scratches (s : State) : List Nat :=
  ((s.mem.allocs.filter fun a => a.cls = .scratch).map Alloc.owner).eraseDups

/-- A scratch allocation is discarded; a firmware operation that staged its image there fails with its own error (R224,
Table 8-3). -/
def State.dropScratch (s : State) (owner : Nat) : State :=
  let s := s.freeOwner .scratch owner
  match s.boot.op with
  | some o => if o.scratch = some owner then
      { s with boot := { s.boot with op := some { o with result := 0x07, scratch := none } } } else s
  | none => s

/-- Enough granules are free on every channel. -/
def State.hasGrans (s : State) (chans : List Nat) (k : Nat) : Bool := chans.all fun n => k ≤ (s.freeGrans n).length

/-- Discard scratch allocations, oldest first, until the request is met or none is left. -/
def State.reclaimScratch (chans : List Nat) (k : Nat) : List Nat → State → State
  | [], s => s
  | o :: t, s => if s.hasGrans chans k then s else State.reclaimScratch chans k t (s.dropScratch o)

/-- Pages in the stacks that may be spilled for a request on channel `n`: those of spill-1 sequences, IDLE sequences
first, least recently used first (R224, R388). -/
def State.spillable (s : State) (n : Nat) : List (Nat × KvPage) :=
  let of (st : Bool) := (s.seqs.filter fun q => q.2.spill && (q.2.st = .idle) = st).flatMap fun q =>
    (q.2.pages.filter fun p => p.held && p.loc = .stack && p.chan = n).map fun p => (q.1, p)
  let rec ins (x : Nat × KvPage) : List (Nat × KvPage) → List (Nat × KvPage)
    | [] => [x]
    | y :: t => if x.2.used < y.2.used then x :: y :: t else y :: ins x t
  ((of true).foldl (fun a x => ins x a) []) ++ ((of false).foldl (fun a x => ins x a) [])

/-- Granules of channel `n` that hold pages and would be empty without the pages listed. -/
def State.vacated (s : State) (n : Nat) (l : List (Nat × KvPage)) : Nat :=
  let held := s.seqs.flatMap fun q => (q.2.pages.filter fun p => p.held && p.chan = n).map fun p =>
    (p.gran, l.any fun x => x.1 = q.1 && x.2.tensor = p.tensor && x.2.ring = p.ring && x.2.glob = p.glob)
  let grans := ((s.mem.allocs.filter fun a => a.chan = n && a.cls = .kv).map Alloc.gran)
  (grans.filter fun g => held.all fun h => h.1 ≠ g || h.2).length

/-- The shortest list of pages, in order, whose spilling leaves `k` granules free on channel `n`; none where no such list
exists. -/
def State.pagesFor (s : State) (n k : Nat) : Option (List (Nat × KvPage)) :=
  let l := s.spillable n
  let free := (s.freeGrans n).length
  ((List.range (l.length + 1)).find? fun j => k ≤ free + s.vacated n (l.take j)).map fun j => l.take j

/-- A page of a sequence changed. -/
def State.setPage (s : State) (q : Nat) (p : KvPage) : State :=
  { s with seqs := s.seqs.map fun x => if x.1 = q then
      (x.1, { x.2 with pages := x.2.pages.map fun y =>
        if y.tensor = p.tensor && y.ring = p.ring && y.glob = p.glob then p else y }) else x }

/-- Begin the spill of a page (R388): at once, or after the next tick edge where its sequence has joined a stroke in the
tick. -/
def State.beginSpill (s : State) (q : Nat) (p : KvPage) : State :=
  match Tab.find s.seqs q with
  | none => s
  | some x =>
    if x.joined then s.setPage q { p with want := true }
    else s.setPage q { p with loc := .spilling, want := false }

/-- How a request for granules was met. -/
inductive Granted where
  | now | later | no
  deriving DecidableEq, Repr

/-- A request for `k` granules on each channel, for a class (R224): taken where free, after discarding scratch where that
suffices, or, for a cassette or a stream state, granted once pages have been spilled; refused with nothing reclaimed
otherwise. The taking itself is the caller's. -/
def State.request (s : State) (chans : List Nat) (k : Nat) (spill : Bool) : Granted × State :=
  if s.hasGrans chans k then (.now, s)
  else
    let t := State.reclaimScratch chans k s.scratches s
    if t.hasGrans chans k then (.now, t)
    else if spill && chans.all (fun n => (t.pagesFor n k).isSome) && chans ≠ [] then
      (.later, (chans.flatMap fun n => (t.pagesFor n k).getD []).foldl (fun s x => s.beginSpill x.1 x.2) t)
    else (.no, s)

/-! ### Stream-state areas (R342) -/

/-- Offset of granule `g` in 4 KiB units. -/
def granUnit (g : Nat) : Nat := (0x0100_0000 + g * granBytes) / 4096

/-- The granules that `u` units at offset `o` touch. -/
def unitGrans (o u : Nat) : List Nat :=
  let first := (o - granUnit 0) / 512
  (List.range ((o + u - 1 - granUnit 0) / 512 + 1 - first)).map fun i => first + i

/-- Stream areas that lie on channel `n`, as (offset, share). -/
def State.areasOn (s : State) (n : Nat) : List (Nat × Nat) :=
  s.streams.filterMap fun x => if x.2.chans.contains n then x.2.ptr.map fun o => (o, x.2.share) else none

/-- `u` units at offset `o` are free for a stream area on channel `n`. -/
def State.areaFree (s : State) (o u n : Nat) : Bool :=
  let free := s.freeGrans n
  granUnit 0 ≤ o && o + u ≤ granUnit granCount
    && (unitGrans o u).all (fun g => free.contains g || (match s.allocAt n g with
        | some a => a.cls = .state
        | none => false))
    && (s.areasOn n).all fun a => o + u ≤ a.1 || a.1 + a.2 ≤ o

/-- The lowest offset free on every channel, among the granule starts and the ends of areas. -/
def State.findArea (s : State) (chans : List Nat) (u : Nat) : Option Nat :=
  let starts := (List.range granCount).map granUnit
  let ends := (chans.flatMap fun n => s.areasOn n).map fun a => a.1 + a.2
  ((starts ++ ends).filter fun o => chans.all fun n => s.areaFree o u n).foldl
    (fun a o => match a with | none => some o | some b => some (min b o)) none

/-- Make the granules of an area stream-state granules. -/
def State.claimArea (s : State) (chans : List Nat) (o u : Nat) : State :=
  chans.foldl (fun s n =>
    let new := (unitGrans o u).filter fun g => (s.allocAt n g).isNone
    let l := new.map fun g => ({ chan := n, gran := g, cls := .state, owner := 0, idx := 0, age := s.mem.nextAge } : Alloc)
    s.setMem { s.mem with allocs := s.mem.allocs ++ l, nextAge := s.mem.nextAge + 1 }) s

/-- Free the stream-state granules that no area touches. -/
def State.pruneAreas (s : State) : State :=
  s.setMem { s.mem with allocs := s.mem.allocs.filter fun a =>
    a.cls ≠ .state || (s.areasOn a.chan).any fun x => (unitGrans x.1 x.2).contains a.gran }

/-! ### Key-value pages (R381, R382, R386) -/

/-- Places of `unit` bytes in a granule. -/
def pagesPerGran (unit : Nat) : Nat := granBytes / max unit 1

/-- A place for a page of `unit` bytes on channel `n` in the key-value granules of partition `p`: in a granule it already
has, else in a free granule. -/
def State.takePage (s : State) (p n unit : Nat) : Option ((Nat × Nat) × State) :=
  let held := s.seqs.flatMap fun q => (q.2.pages.filter fun x => x.held && x.chan = n).map fun x => (x.gran, x.idx)
  let grans := ((s.mem.allocs.filter fun a => a.chan = n && a.cls = .kv && a.owner = p).map Alloc.gran)
  let spots := grans.flatMap fun g => (List.range (pagesPerGran unit)).map fun i => (g, i)
  match spots.find? fun x => !held.contains x with
  | some x => some (x, s)
  | none =>
    match s.freeGrans n with
    | [] => none
    | g :: _ => some ((g, 0), s.takeGrans [n] 1 .kv p)

/-- Free the key-value granules that hold no page. -/
def State.pruneKv (s : State) : State :=
  let held := s.seqs.flatMap fun q => (q.2.pages.filter fun x => x.held).map fun x => (x.chan, x.gran)
  s.setMem { s.mem with allocs := s.mem.allocs.filter fun a => a.cls ≠ .kv || held.contains (a.chan, a.gran) }

/-! ### Waiting requests -/

/-- A want can be met now. -/
def State.canServe (s : State) (w : Want) : Bool :=
  if w.cls = .state then (s.findArea w.chans w.count).isSome else s.hasGrans w.chans w.count

/-- Meet a want: granules taken for a cassette-class owner, which its load then has; an area for a stream. -/
def State.serve (s : State) (w : Want) : State :=
  if w.cls = .state then
    match s.findArea w.chans w.count with
    | none => s
    | some o =>
      let s := s.claimArea w.chans o w.count
      { s with streams := s.streams.map fun x =>
          if x.1 = w.owner then (x.1, { x.2 with ptr := some o, chans := w.chans, share := w.count }) else x }
  else
    let s := s.takeGrans w.chans w.count .cassette w.owner
    { s with loads := s.loads.map fun l => if w.owner = l.owner then { l with staged := true } else l }

/-- Meet the wants that can be met, in order. -/
def State.serveWants (s : State) : State :=
  s.mem.wants.foldl (fun s w =>
    if s.canServe w then s.serve w |>.setMem
      { (s.serve w).mem with wants := (s.serve w).mem.wants.filter fun x => x ≠ w }
    else s) s

/-! ### Device addresses (R219, R220) -/

/-- Region of an offset in a channel: 0 cassette, 1 stream state, 2 key-value page, 3 scratch, 4 system area, none where
nothing is allocated. -/
def State.regionOf (s : State) (n off : Nat) : Option Nat :=
  if off < 0x0100_0000 then some 4
  else (s.allocAt n ((off - 0x0100_0000) / granBytes)).map fun a => match a.cls with
    | .cassette => 0
    | .state => 1
    | .kv => 2
    | .scratch => 3

/-! ### Registers -/

/-- STK_STATUS (Table 8-6). -/
def State.stkStatus (s : State) (k : Nat) : Nat :=
  let bits (p : Channel → Bool) : Nat := listMask ((List.range 8).filter fun c => p (s.chan (8 * k + c)))
  bits (fun c => c.st = .active) + bits (fun c => c.st = .failed) * 2 ^ 8 + bits (fun c => c.st = .selfRefresh) * 2 ^ 16
    + Bool.num (s.mem.hot.testBit k) * 2 ^ 24

/-- STK_FREE (Table 8-6). -/
def State.stkFree (s : State) (k : Nat) : Nat :=
  ((List.range 8).map fun c => (s.freeGrans (8 * k + c)).length).foldl (· + ·) 0

/-- Pannier reachability (R243). -/
def State.reachable (s : State) : Bool := s.linkUp && (s.fn 0).bme

/-- CHN_STATE (Table 8-7). -/
def State.chnState (s : State) (n : Nat) : Nat :=
  let code := match (s.chan n).st with | .active => 1 | .selfRefresh => 2 | .off => 3 | .failed => 4
  let row := n % 8
  let own := (s.homed n).filter fun i => i / 8 = row
  let guests := (s.homed n).filter fun i => i / 8 ≠ row
  let cols (l : List Nat) := listMask (l.map (· % 8))
  code + row * 2 ^ 4 + cols own * 2 ^ 8 + (match guests with
    | [] => 0
    | i :: _ => 2 ^ 16 + i / 8 * 2 ^ 17 + cols (guests.filter fun j => j / 8 = i / 8) * 2 ^ 20)

/-- CHN_USE_A and CHN_USE_B (Table 8-7). -/
def State.chnUseA (s : State) (n : Nat) : Nat := s.classCount n .cassette + s.classCount n .state * 2 ^ 16
def State.chnUseB (s : State) (n : Nat) : Nat := s.classCount n .kv + s.classCount n .scratch * 2 ^ 16

end Sys2Proof.Machine
end

