-- ==== Sys2Proof/Machine/Image.lean ====
section
/-! DEFINITION. Cassette, adapter and layer-patch images (R254 to R261, R263): the header, the tables and the load checks
as functions of the image's bytes. Firmware images (R137 to R139) stand at the end. -/
namespace Sys2Proof.Machine

/-- All bytes are zero. -/
def zeros (l : List Byte) : Bool := l.all fun b => b = 0

/-! ### The header (Table 9-2) -/

def imgKind (b : List Byte) : Nat := leAt b 0x0C 1
def imgGears (b : List Byte) : Nat := leAt b 0x0D 1
def imgKey (b : List Byte) : Nat := leAt b 0x0E 1
def imgFlags (b : List Byte) : Nat := leAt b 0x0F 1
def imgModel (b : List Byte) : Nat := leAt b 0x10 4
def imgGraphVersion (b : List Byte) : Nat := leAt b 0x14 2
def imgEntries (b : List Byte) : Nat := leAt b 0x16 2
def imgGraphs (b : List Byte) : Nat := leAt b 0x18 1
def imgFirst (b : List Byte) : Nat := leAt b 0x1A 2
def imgLayout (b : List Byte) : Nat := leAt b 0x20 8
def imgTotal (b : List Byte) : Nat := leAt b 0x28 8
def imgCold (b : List Byte) : Nat := leAt b 0x30 8
def imgGraphTable (b : List Byte) : Nat := leAt b 0x40 8
def imgDigests (b : List Byte) : Nat := leAt b 0x48 8

/-- Check 1 (Table 9-4): the header's constants, ranges and zero fields, the kind for the opcode, and the length. -/
def headerOk (b : List Byte) (op units : Nat) : Bool :=
  let k := imgKind b
  leAt b 0 4 = 0x5343_4C46 && leAt b 4 2 = 1 && leAt b 6 2 = 0x100 && leAt b 8 4 = units
    && k = (if op = 0x10 then 1 else if op = 0x13 then 2 else 3)
    && 1 ≤ imgGears b && imgGears b ≤ 4 && imgFlags b ≤ (if k = 1 then 1 else 0)
    && 1 ≤ imgEntries b && imgEntries b ≤ 1024
    && (if k = 1 then 1 ≤ imgGraphs b && imgGraphs b ≤ 8 else imgGraphs b = 0 && imgGraphVersion b = 0 && imgGraphTable b = 0)
    && leAt b 0x19 1 = 0 && (k = 3 || imgFirst b = 0) && leAt b 0x1C 4 = 0 && leAt b 0x38 8 = 0x100
    && zeros (slice b 0x50 48) && zeros (slice b 0xA0 32)
    && (imgKey b ≠ 0xFF || zeros (slice b 0xC0 64))

/-- Check 4: the signature over header bytes 0x00 to 0xBF (R261). -/
def signatureOk (key : Nat × Nat) (b : List Byte) : Bool :=
  ecdsaOk key (slice b 0 0xC0) (beNat (slice b 0xC0 32)) (beNat (slice b 0xE0 32))

/-- Checks 1 to 4 on an arrived header: the code of the first failure. `keys` gives the cassette keys that the firmware
carries. -/
def headerCheck (b : List Byte) (op units policy : Nat) (isSealed : Bool) (keys : Nat → Option (Nat × Nat)) : Option Nat :=
  let unsig := imgKey b = 0xFF
  if !headerOk b op units then some 0x0601
  else if imgKind b = 1 && imgGraphVersion b ≠ 1 then some 0x0602
  else if unsig then (if policy.testBit 8 && !isSealed then none else some 0x0603)
  else if imgKey b ≤ 7 && policy.testBit (imgKey b) then
    match keys (imgKey b) with
    | none => some 0x0603
    | some k => if signatureOk k b then none else some 0x0604
  else some 0x0603

/-! ### The tables -/

/-- A layer-table entry (Table 9-3). -/
def readEntry (b : List Byte) (o : Nat) : LayerEntry :=
  { format := leAt b o 1, flags := leAt b (o + 1) 1, base := leAt b (o + 2) 2, rank := leAt b (o + 4) 1,
    offset := leAt b (o + 8) 8, lens := (List.range 4).map fun g => leAt b (o + 0x10 + 4 * g) 4 }

/-- The layer table. -/
def imgTable (b : List Byte) : List LayerEntry := (List.range (imgEntries b)).map fun i => readEntry b (0x100 + 32 * i)

/-- Bytes of a layer used at gear `g`. -/
def LayerEntry.len (e : LayerEntry) (g : Nat) : Nat := e.lens.getD g 0

/-- A layer is marked cold. -/
def LayerEntry.cold (e : LayerEntry) : Bool := e.flags.testBit 0

/-- Offset of the lowest layer. -/
def lowestLayer (l : List LayerEntry) (top : Nat) : Nat := l.foldl (fun a e => min a e.offset) top

/-- The form of one entry (R255). -/
def entryOk (b : List Byte) (i : Nat) (e : LayerEntry) : Bool :=
  let k := imgKind b
  e.format ≤ 3 && (k ≠ 2 || e.format = 1 || e.format = 2)
    && (if k = 2 then e.flags = 0 && 8 ≤ e.rank && e.rank ≤ 64 && e.rank % 8 = 0 else e.flags < 4 && e.rank = 0)
    && (k ≠ 1 || e.base = i)
    && zeros (slice b (0x100 + 32 * i + 5) 3)
    && e.offset % 4096 = 0 && e.offset + e.len 0 ≤ leAt b 8 4 * 4096
    && (List.range 4).all (fun g => e.len g % 64 = 0 && (g < imgGears b || e.len g = 0))
    && e.len 1 ≤ e.len 0 && e.len 2 ≤ e.len 1 && e.len 3 ≤ e.len 2

/-- Two layers do not overlap. -/
def layersApart : List LayerEntry → Bool
  | [] => true
  | e :: t => t.all (fun f => apart e.offset (e.len 0) f.offset (f.len 0)) && layersApart t

/-- The graph table as (offset, length). -/
def imgGraphList (b : List Byte) : List (Nat × Nat) :=
  (List.range (imgGraphs b)).map fun i => (leAt b (imgGraphTable b + 16 * i) 8, leAt b (imgGraphTable b + 16 * i + 8) 4)

/-- The stroke graphs. -/
def imgGraphsOf (b : List Byte) : List (Graph × Nat) :=
  (imgGraphList b).map fun p => (readGraph (slice b p.1 p.2), p.2)

/-- The layout hash (R257). -/
def layoutHash (b : List Byte) : Nat :=
  let table := (List.range (imgEntries b)).flatMap fun i =>
    slice b (0x100 + 32 * i) 8 ++ leBytes 8 0 ++ slice b (0x100 + 32 * i + 16) 16
  leNat ((sha256 (slice b 0x0D 1 ++ table)).take 8)

/-- The digest entry of the `k`th cold layer: the digests of its gears (R256). -/
def coldDigests (b : List Byte) (k : Nat) : List (List Byte) :=
  (List.range 4).map fun g => slice b (imgDigests b + 128 * k + 32 * g) 32

/-- Check 5 on form (Table 9-4): R255, R256, R257, the sums, and one placement hint for all graphs (R288 names the fields of
a graph that it reads). -/
def tablesOk (b : List Byte) : Bool :=
  let t := imgTable b
  let colds := t.filter LayerEntry.cold
  let sum (l : List LayerEntry) := l.foldl (fun a e => a + e.len 0) 0
  let low := lowestLayer t (leAt b 8 4 * 4096)
  let gt := imgGraphTable b
  let gl := imgGraphList b
  let gs := imgGraphsOf b
  (List.range t.length).all (fun i => match t[i]? with | some e => entryOk b i e | none => false)
    && layersApart t
    && 0x100 + 32 * t.length ≤ low
    && sum t = imgTotal b && sum colds = imgCold b
    && (if colds = [] then imgDigests b = 0 else
        imgDigests b % 64 = 0 && 0x100 + 32 * t.length ≤ imgDigests b && imgDigests b + 128 * colds.length ≤ low
        && (List.range colds.length).all fun k => (List.range 4).all fun g =>
          g < imgGears b || zeros ((coldDigests b k).getD g []))
    && (imgKind b ≠ 1 ||
        (gt % 64 = 0 && 0x100 ≤ gt && gt + 16 * gl.length ≤ low
        && (List.range gl.length).all (fun i => zeros (slice b (gt + 16 * i + 12) 4))
        && gl.all (fun p => p.1 % 64 = 0 && 0x100 ≤ p.1 && p.1 + p.2 ≤ low)
        && gs.all (fun p => p.1.magic = 0x4753_4C46 && p.1.length = p.2 && placementOk p.1.placement
          && p.1.placement = (gs.map fun q => q.1.placement).headD 0)
        && layoutHash b = imgLayout b))

/-- Check 5 on agreement with the base cassette (Table 9-4): `layers` are the base's entries; `first` and `count` the
operands of a CAS_REPLACE. -/
def agreesWith (b : List Byte) (layout gears : Nat) (layers : List LayerEntry) (first count : Nat) : Bool :=
  let t := imgTable b
  imgLayout b = layout && imgGears b = gears
    && (if imgKind b = 2 then t.all fun e => match layers[e.base]? with
          | some l => l.flags.testBit 1
          | none => false
        else imgFirst b = first && t.length = count && (List.range t.length).all fun i =>
          match t[i]?, layers[first + i]? with
          | some e, some l => e.base = first + i && e.format = l.format && e.flags = l.flags && e.lens = l.lens
          | _, _ => false)

/-- Check 7 (Table 9-4). -/
def digestOk (b : List Byte) : Bool := sha256 (b.drop 0x100) = slice b 0x80 32

/-- The layers of an image with their bytes; digests where a layer is to stay cold. -/
def imgLayers (b : List Byte) (pannier : Bool) : List Layer :=
  let t := imgTable b
  (List.range t.length).filterMap fun i => t[i]?.map fun e =>
    let k := ((t.take i).filter LayerEntry.cold).length
    { entry := e, bytes := slice b e.offset (e.len 0), digests := if pannier && e.cold then coldDigests b k else [] }

/-- A layer is cold in the pannier. -/
def Layer.inPannier (l : Layer) : Bool := l.digests ≠ []

/-! ### Firmware images (R137 to R139) -/

/-- A section entry as (target, offset, length, entry). -/
def fwSection (b : List Byte) (i : Nat) : Nat × Nat × Nat × Nat :=
  let o := 0x20 + 16 * i
  (leAt b o 1, leAt b (o + 4) 4, leAt b (o + 8) 4, leAt b (o + 12) 4)

/-- A section is as Table 5-5 states. -/
def fwSectionOk (b : List Byte) (i : Nat) : Bool :=
  let (target, off, len, entry) := fwSection b i
  target = i && zeros (slice b (0x20 + 16 * i + 1) 3) && 0x100 ≤ off && off % 256 = 0 && len % 4 = 0 && 4 ≤ len
    && len ≤ (if i = 4 then 0x20_0000 else 0x4_0000) && off + len ≤ leAt b 8 4
    && (i ≠ 4 || entry = 0)

/-- Check 2 of Table 5-6. -/
def fwHeaderOk (b : List Byte) : Bool :=
  leAt b 0 4 = 0x5746_4C46 && leAt b 4 2 = 1 && leAt b 6 2 = 0x100
    && leAt b 8 4 % 256 = 0 && leAt b 8 4 ≤ 0x40_0000 && 0x100 ≤ leAt b 8 4
    && leAt b 0xC 4 < 2 && leAt b 0x18 1 < 128 && leAt b 0x19 1 ≤ 3 && leAt b 0x1A 2 = 0
    && zeros (slice b 0x70 16) && zeros (slice b 0xA0 32)
    && (List.range 5).all (fwSectionOk b)
    && (List.range 5).all (fun i => (List.range i).all fun j =>
        apart (fwSection b i).2.1 (fwSection b i).2.2.1 (fwSection b j).2.1 (fwSection b j).2.2.1)

/-- Checks 2 to 7 of Table 5-6 on a part: the result code of the first failure. -/
def fwCheck (p : Part) (b : List Byte) : Option Nat :=
  let key := leAt b 0x19 1
  if !fwHeaderOk b then some 0x04
  else if !(leAt b 0x18 1).testBit p.variant.maskBit then some 0x05
  else if leAt b 0xC 1 = 1 && p.sealFuse then some 0x06
  else if p.revoked.testBit key then some 0x09
  else if !ecdsaOk (p.bootKeys.getD key (0, 0)) (slice b 0 0xC0) (beNat (slice b 0xC0 32)) (beNat (slice b 0xE0 32))
    then some 0x08
  else if sha256 (slice b 0x100 (leAt b 8 4 - 0x100)) ≠ slice b 0x80 32 then some 0x07
  else none

/-- fw_version, and the interface major and minor, of an image (Table 5-4). -/
def fwVersion (b : List Byte) : Nat := leAt b 0x10 4
def fwMinor (b : List Byte) : Nat := leAt b 0x14 2
def fwMajor (b : List Byte) : Nat := leAt b 0x16 2

end Sys2Proof.Machine
end

