-- ==== Sys2Proof/Machine/Object.lean ====
section
/-! DEFINITION. Serving objects: access to partitions, slots, streams and sequences; a stream's area, input buffer, table
entry and blob (R338 to R367); a sequence's page set, table entry and end (R369 to R396); emitted outputs and their
payloads (R352, R353, R374). -/
namespace Sys2Proof.Machine
open Sys2Proof

/-! ### Access -/

/-- Handle of stream `k` and of sequence `k` (Table 7-2). -/
def strHandle (k : Nat) : Nat := 0x1000_0000 + k
def seqHandle (k : Nat) : Nat := 0x2000_0000 + k

def State.str (s : State) (k : Nat) : Option Stream := Tab.find s.streams k
def State.seq (s : State) (k : Nat) : Option Seq := Tab.find s.seqs k
def State.prt (s : State) (p : Nat) : Option Prt := Tab.find s.prts p
def State.slot (s : State) (n : Nat) : Option Slot := Tab.find s.slots n
def State.setStr (s : State) (k : Nat) (x : Stream) : State := { s with streams := Tab.put s.streams k x }
def State.setSeq (s : State) (k : Nat) (x : Seq) : State := { s with seqs := Tab.put s.seqs k x }
def State.setPrt (s : State) (p : Nat) (x : Prt) : State := { s with prts := Tab.put s.prts p x }
def State.setSlot (s : State) (n : Nat) (x : Slot) : State := { s with slots := Tab.put s.slots n x }

/-- An entry changed, where it is listed. -/
def State.modStr (s : State) (k : Nat) (f : Stream → Stream) : State :=
  match s.str k with
  | none => s
  | some x => s.setStr k (f x)
def State.modSeq (s : State) (k : Nat) (f : Seq → Seq) : State :=
  match s.seq k with
  | none => s
  | some x => s.setSeq k (f x)
def State.modPrt (s : State) (p : Nat) (f : Prt → Prt) : State :=
  match s.prt p with
  | none => s
  | some x => s.setPrt p (f x)
def State.modSlot (s : State) (n : Nat) (f : Slot → Slot) : State :=
  match s.slot n with
  | none => s
  | some x => s.setSlot n (f x)

/-- A graph without tables. -/
def Graph.empty : Graph := readGraph []

/-- The graph that partition `p` serves (R399). -/
def State.graphOf (s : State) (p : Nat) : Graph :=
  match s.prt p with
  | none => Graph.empty
  | some x => match s.slot x.slot with
    | none => Graph.empty
    | some c => c.graphs.getD x.graph Graph.empty

/-- Gears of the cassette that partition `p` serves. -/
def State.gearsOf (s : State) (p : Nat) : Nat :=
  match s.prt p with
  | none => 1
  | some x => match s.slot x.slot with
    | none => 1
    | some c => max 1 c.gears

/-- The cassette slot of partition `p`. -/
def State.slotOf (s : State) (p : Nat) : Nat :=
  match s.prt p with
  | none => 0
  | some x => x.slot

/-- A slot that is EMPTY (R251). -/
def Slot.blank : Slot :=
  { st := .empty, owner := 0, gears := 0, upReset := false, rows := 0, places := [], pannier := false, isUnsigned := false,
    version := 0, layout := 0, layers := [], graphs := [], adapters := [], evictOrder := 0, unloads := [], lastOp := 0,
    lastCode := 0, loadUs := 0 }

/-- Slot `n`, EMPTY where none is listed. -/
def State.slotD (s : State) (n : Nat) : Slot := (s.slot n).getD Slot.blank

/-- What a pass of a member of partition `p` computes with. -/
def State.ctxOf (s : State) (p gear adapter : Nat) : Ctx :=
  let c := s.slotD (s.slotOf p)
  { gr := s.graphOf p, gear := gear, gears := max 1 c.gears, layers := c.layers, ad := Tab.find c.adapters adapter }

/-- Home channels of partition `p`. -/
def State.prtHomes (s : State) (p : Nat) : List Nat :=
  match s.prt p with
  | none => []
  | some x => s.homesOf x.rows

/-! ### Owners (R516) -/

/-- The rider tag of a serving object: its owner's number in bits [3:0] (R515). -/
def Stream.owner (x : Stream) : Nat := x.own.rider
def Seq.owner (x : Seq) : Nat := x.own.rider

/-! ### The state of a stream -/

/-- The state tensors that a stream keeps: all but those of backward cells (R342, R350). -/
def Graph.kept (g : Graph) : List Nat :=
  let back := (g.nodes.filter fun n => n.op = 0x20 && n.attr 8 0 = 1).filterMap fun n => n.slot 2
  (List.range g.tensors.length).filter fun i => (g.tensor i).cls = 2 && !back.contains i

/-- Zero state at position 0 without carry (R340). -/
def zeroCopy (g : Graph) : StrCopy :=
  { states := g.kept.map fun i => (i, List.replicate ((g.tensor i).size 0) 0), carry := [], lastTok := 0, frames := 0,
    gear := 0 }

/-- Bytes of one copy of a stream's state (R342, R356). -/
def Graph.stateBytes (g : Graph) : Nat := g.kept.foldl (fun a i => a + 4 * (g.tensor i).size 0) 0

/-- Bytes of one model frame (R342). -/
def Graph.frameBytes (g : Graph) : Nat := 4 * (g.tensor g.inputTensor).size 0

/-- Frames the input buffer holds (R342). -/
def Graph.bufFrames (g : Graph) : Nat := if g.mode = 2 then 2 * (g.chunk + g.look) else 8

/-- 4 KiB units of a stream's area on each of `n` channels (R342). -/
def Graph.areaShare (g : Graph) (n : Nat) : Nat :=
  ceilDiv (ceilDiv (2 * g.stateBytes + g.bufFrames * g.frameBytes) (max n 1)) 4096

/-- Frames a unit consumes, and frames that must be pending for a unit (R351). -/
def Graph.unitTaken (g : Graph) : Nat := if g.mode = 2 then g.chunk else 1
def Graph.unitHeld (g : Graph) : Nat := if g.mode = 2 then g.chunk + g.look else 1

/-- Positions of one unit (R348, R349). -/
def Graph.unitPositions (g : Graph) : Nat := g.unitHeld

/-- Frames pending that the working copy has not consumed. -/
def Stream.left (x : Stream) : List Frame := x.pend.drop x.taken

/-- The copy a stroke starts from (R357). -/
def Stream.current (x : Stream) : StrCopy := x.work.getD x.com

/-- A RUNNING stream holds a whole unit (R351). -/
def State.strReady (s : State) (x : Stream) : Bool :=
  x.st = .running && x.ptr.isSome && (s.graphOf x.prt).unitHeld ≤ x.left.length && !x.inFlight

/-- Count a dropped or discarded frame (R359); in_dropped is raised at a stream's first drop after a tick without one
(Table 12-9). -/
def State.countDrop (s : State) (k : Nat) : State :=
  match s.str k with
  | none => s
  | some x =>
    let s := (s.count Reg.STR_IN_DROPPED 1).countObj k 2 1
    let s := if x.dropNow || x.dropLast then s else s.raiseBit 0x010 3
    s.modStr k fun x => { x with dropNow := true }

/-- A whole model frame closes into a stream's input buffer: the oldest pending frame is dropped where it is full, and a
stream that takes no input discards it (R359, Table 12-1). -/
def State.pushFrame (s : State) (k : Nat) (f : Frame) : State :=
  match s.str k with
  | none => s
  | some x =>
    if x.st = .fault || s.pwr.st = .kick then s.countDrop k
    else if x.st = .closing then s
    else if (s.graphOf x.prt).bufFrames ≤ x.pend.length then
      (s.modStr k fun x => { x with pend := x.pend.drop 1 ++ [f], taken := x.taken - 1,
                                    com := { x.com with frames := x.com.frames + 1 } }).countDrop k
    else s.modStr k fun x => { x with pend := x.pend ++ [f] }

/-- A copy at the gear of the stroke about to run: an upshift zeroes the units from w_g to w_u where the cassette says so
(R270, R364). -/
def StrCopy.shifted (g : Graph) (upReset : Bool) (gear : Nat) (c : StrCopy) : StrCopy :=
  if upReset && gear < c.gear then
    let wipe (i : Nat) (v : List Nat) : List Nat :=
      let t := g.tensor i
      let dims := t.dims.take t.rank
      let old := usedIndices dims (t.shape c.gear)
      let new := usedIndices dims (t.shape gear)
      (List.range v.length).map fun j => if new.contains j && !old.contains j then 0 else v.getD j 0
    { c with states := c.states.map fun x => (x.1, wipe x.1 x.2) }
  else c

/-! ### The blob (R360, R361) -/

/-- A record of a blob with its data: tensor, kind, format, instances, bytes. -/
structure BlobPart where
  tensor : Nat
  kind   : Nat
  fmt    : Nat
  insts  : Nat
  data   : List Byte
  deriving DecidableEq, Repr

/-- Elements in the bytes of a format. -/
def elemBytes (fmt : Nat) (l : List Nat) : List Byte := l.flatMap fun x => leBytes (fmtBytes fmt) x

/-- Elements read from bytes. -/
def elemsOf (fmt : Nat) (b : List Byte) : List Nat :=
  (List.range (b.length / fmtBytes fmt)).map fun i => leAt b (i * fmtBytes fmt) (fmtBytes fmt)

/-- Bytes padded with zeros to a multiple of `m`. -/
def padTo (m : Nat) (b : List Byte) : List Byte := b ++ List.replicate (roundUp b.length m - b.length) 0

/-- Records of a stream's blob: states, input carry, and pipeline carry for each stage that has input. -/
def blobParts (g : Graph) (c : StrCopy) (pend : List Frame) : List BlobPart :=
  let st := g.kept.map fun i =>
    ({ tensor := i, kind := 0, fmt := 4, insts := 1, data := elemBytes 4 (Tab.get [] c.states i) } : BlobPart)
  let inp := g.inputTensor
  let cin : BlobPart := { tensor := inp, kind := 1, fmt := (g.tensor inp).fmt, insts := pend.length,
                          data := pend.flatMap fun f => elemBytes 4 f.data }
  let pipe := (List.range g.depth).filterMap fun k =>
    if k = 0 then none else
      let t := g.carryTensor k
      (Tab.find c.carry (carryKey k t)).map fun v =>
        let full := v ++ List.replicate ((g.tensor t).size 0 - v.length) 0
        ({ tensor := t, kind := 2, fmt := (g.tensor t).fmt, insts := 1, data := elemBytes (g.tensor t).fmt full } : BlobPart)
  st ++ cin :: pipe

/-- Bytes of a blob with these records. -/
def blobLength (l : List BlobPart) : Nat :=
  roundUp (64 + 16 * l.length) 64 + l.foldl (fun a p => a + roundUp p.data.length 64) 0

/-- Record bytes, with data offsets from `o`. -/
def blobRecords : Nat → List BlobPart → List Byte
  | _, [] => []
  | o, p :: t =>
    leBytes 2 p.tensor ++ leBytes 1 p.kind ++ leBytes 1 p.fmt ++ leBytes 2 p.insts ++ leBytes 2 0 ++ leBytes 4 o
      ++ leBytes 4 p.data.length ++ blobRecords (o + roundUp p.data.length 64) t

/-- CRC-32 of a blob with its crc field taken as zero (Table 12-6). -/
def blobCrc (b : List Byte) : Nat := crc32 (slice b 0 0x3C ++ leBytes 4 0 ++ b.drop 0x40)

/-- The blob of a stream from a committed copy (R362). -/
def State.strBlob (s : State) (x : Stream) : List Byte :=
  let g := s.graphOf x.prt
  let sl := s.slot (s.slotOf x.prt)
  let parts := blobParts g x.com x.pend
  let len := blobLength parts
  let head (crc : Nat) : List Byte :=
    leBytes 4 0x5453_4C46 ++ leBytes 2 1 ++ leBytes 2 0x40 ++ leBytes 4 len ++ leBytes 2 parts.length
      ++ leBytes 1 x.com.gear ++ leBytes 1 g.mode ++ leBytes 8 ((sl.map Slot.layout).getD 0)
      ++ leBytes 4 ((sl.map Slot.version).getD 0) ++ leBytes 1 ((s.prt x.prt).map Prt.graph |>.getD 0)
      ++ leBytes 1 (Bool.num x.wasReset) ++ leBytes 2 0 ++ leBytes 8 x.comTick.toNat ++ leBytes 8 x.com.frames
      ++ leBytes 2 g.chunk ++ leBytes 2 g.look ++ leBytes 2 g.frameUs ++ leBytes 2 0 ++ leBytes 4 x.com.lastTok
      ++ leBytes 4 crc
  let rest := padTo 64 (head 0 ++ blobRecords (roundUp (64 + 16 * parts.length) 64) parts)
    ++ parts.flatMap fun p => padTo 64 p.data
  head (blobCrc rest) ++ rest.drop 64

/-- The records of blob bytes. -/
def blobRead (b : List Byte) : List (BlobPart × Nat) :=
  (List.range (leAt b 0x0C 2)).map fun i =>
    let r := slice b (64 + 16 * i) 16
    ({ tensor := leAt r 0 2, kind := leAt r 2 1, fmt := leAt r 3 1, insts := leAt r 4 2,
       data := slice b (leAt r 8 4) (leAt r 12 4) }, leAt r 8 4)

/-- Data offsets of records follow each other from `o`; each starts on a multiple of 64 and padding is zero. -/
def blobLaid (b : List Byte) : Nat → List (BlobPart × Nat) → Bool
  | o, [] => o = leAt b 8 4
  | o, (p, q) :: t =>
    let e := q + roundUp p.data.length 64
    q = o && zeros (slice b (q + p.data.length) (e - q - p.data.length)) && blobLaid b e t

/-- Check 2 of Table 12-7: the form of a blob. -/
def blobFormOk (b : List Byte) : Bool :=
  let n := leAt b 0x0C 2
  let rs := blobRead b
  leAt b 0 4 = 0x5453_4C46 && leAt b 4 2 = 1 && leAt b 6 2 = 0x40 && leAt b 8 4 % 64 = 0 && 1 ≤ n && n ≤ 4096
    && leAt b 0x1D 1 < 2 && leAt b 0x1E 2 = 0 && leAt b 0x36 2 = 0
    && 64 + 16 * n ≤ b.length
    && (List.range n).all (fun i => leAt b (64 + 16 * i + 6) 2 = 0 && leAt b (64 + 16 * i + 2) 1 ≤ 2
        && leAt b (64 + 16 * i + 12) 4 = ((rs.map fun r => r.1.data.length).getD i 0))
    && zeros (slice b (64 + 16 * n) (roundUp (64 + 16 * n) 64 - (64 + 16 * n)))
    && blobLaid b (roundUp (64 + 16 * n) 64) rs
    && blobCrc b = leAt b 0x3C 4

/-- Check 5 of Table 12-7: the records match the graph; a blob of a stream without pending frames may leave the input carry out
(assumption 46). -/
def blobMatches (g : Graph) (b : List Byte) : Bool :=
  let rs := (blobRead b).map Prod.fst
  let st := rs.filter fun r => r.kind = 0
  let ci := rs.filter fun r => r.kind = 1
  let pc := rs.filter fun r => r.kind = 2
  let stages := (List.range g.depth).filter fun k => k ≠ 0
  rs = st ++ ci ++ pc
    && st.map BlobPart.tensor = g.kept
    && st.all (fun r => r.fmt = 4 && r.insts = 1 && r.data.length = 4 * (g.tensor r.tensor).size 0)
    && (match ci with
        | [r] => r.tensor = g.inputTensor && r.fmt = (g.tensor r.tensor).fmt && r.insts ≤ g.bufFrames
            && r.data.length = r.insts * g.frameBytes
        | [] => true
        | _ => false)
    && (pc = [] || g.mode = 1)
    && pc.length ≤ stages.length
    && (pc.map BlobPart.tensor) = (stages.take pc.length).map g.carryTensor
    && pc.all fun r => r.fmt = (g.tensor r.tensor).fmt && r.insts = 1
        && r.data.length = fmtBytes (g.tensor r.tensor).fmt * (g.tensor r.tensor).size 0

/-- The checks of Table 12-7 in order: the code of the first failure. -/
def State.importCheck (s : State) (x : Stream) (blob : Option (List Byte)) (len : Nat) : Option Nat :=
  match blob with
  | none => some 0x0801
  | some b =>
    let g := s.graphOf x.prt
    let sl := s.slot (s.slotOf x.prt)
    let b' := b.take (leAt b 8 4)
    if len < 64 || b.length < 64 || len < leAt b 8 4 || b.length < leAt b 8 4 then some 0x0801
    else if !blobFormOk b' then some 0x0802
    else if leAt b 0x10 8 ≠ (sl.map Slot.layout).getD 0 then some 0x0803
    else if !(leAt b 0x0E 1 < s.gearsOf x.prt) then some 0x0804
    else if leAt b 0x1C 1 ≠ ((s.prt x.prt).map Prt.graph).getD 0 || leAt b 0x0F 1 ≠ g.mode || leAt b 0x30 2 ≠ g.chunk
        || leAt b 0x32 2 ≠ g.look || leAt b 0x34 2 ≠ g.frameUs || !blobMatches g b' then some 0x0805
    else none

/-- What a good blob holds: the copy and the input carry (R363). -/
def blobTaken (g : Graph) (tag : Nat) (b : List Byte) : StrCopy × List Frame :=
  let rs := (blobRead b).map Prod.fst
  let pc := rs.filter fun r => r.kind = 2
  let n := (g.tensor g.inputTensor).size 0
  let ci := (rs.filter fun r => r.kind = 1).flatMap fun r => (List.range r.insts).map fun i =>
    ({ data := ((elemsOf 4 r.data).drop (i * n)).take n, mark := false, tag := tag } : Frame)
  ({ states := (rs.filter fun r => r.kind = 0).map fun r => (r.tensor, elemsOf 4 r.data),
     carry := (List.range pc.length).filterMap fun i => pc[i]?.map fun r =>
       (carryKey (i + 1) r.tensor, (elemsOf r.fmt r.data).take ((g.tensor r.tensor).size (leAt b 0x0E 1))),
     lastTok := leAt b 0x38 4, frames := leAt b 0x28 8, gear := leAt b 0x0E 1 }, ci)

/-! ### Stream table entry (R341) -/

def StrState.code : StrState → Nat
  | .opening => 1 | .running => 2 | .fault => 3 | .closing => 4

/-- Units of a stream's area over its channels. -/
def Stream.units (x : Stream) : Nat := if x.ptr.isSome then x.share * x.chans.length else 0

/-- The 32 bytes of a stream table entry (Table 12-2). -/
def State.strEntry (s : State) (k : Nat) : List Byte :=
  match s.str k with
  | none => List.replicate 32 0
  | some x =>
    leBytes 1 x.st.code ++ leBytes 1 x.own.rider ++ leBytes 1 x.prt ++ leBytes 1 (s.slotOf x.prt) ++ leBytes 1 x.adapter
      ++ leBytes 1 x.source ++ leBytes 1 x.policy
      ++ leBytes 1 (Bool.num x.ptr.isSome + 2 * Bool.num x.written + 4 * Bool.num x.wasReset
          + 8 * Bool.num (x.exports ≠ []))
      ++ leBytes 1 x.com.gear ++ leBytes 1 x.pend.length ++ leBytes 2 x.units ++ leBytes 4 (x.ptr.getD 0)
      ++ leBytes 8 x.com.frames ++ leBytes 4 x.producer ++ leBytes 2 x.check ++ leBytes 2 0

/-! ### Outputs -/

/-- The payload of a stream's output (Table 12-4). -/
def strPayload (k : Nat) (e : Emit) : List Byte :=
  leBytes 4 (strHandle k) ++ leBytes 2 e.node ++ leBytes 1 e.fmt ++ leBytes 1 0 ++ leBytes 4 e.first ++ leBytes 2 e.pos
    ++ leBytes 2 e.insts.length ++ e.insts.flatMap (elemBytes e.fmt)

/-- The payload of a sequence's output (Table 13-3). -/
def seqPayload (k : Nat) (e : Emit) : List Byte :=
  leBytes 4 (seqHandle k) ++ leBytes 2 e.node ++ leBytes 1 e.fmt ++ leBytes 1 e.flags ++ leBytes 4 e.first
    ++ leBytes 2 e.insts.length ++ leBytes 2 0 ++ e.insts.flatMap (elemBytes e.fmt)

/-! ### Page sets (R382) -/

/-- Bytes of a page of key-value tensor `i` (R381). -/
def Graph.pageBytes (g : Graph) (i : Nat) : Nat :=
  let t := g.tensor i
  2 * 256 * t.dims.getD 0 0 * t.dims.getD 1 0 * fmtBytes t.fmt

/-- Size of a spill slot, and of a place in a granule: the largest page rounded up to 4 KiB (R387). -/
def Graph.pageUnit (g : Graph) : Nat := roundUp (g.kvTensors.foldl (fun a i => max a (g.pageBytes i)) 0) 4096

/-- Pages of a page set in page-table order: (tensor, ring entry, global). -/
def Graph.pageSet (g : Graph) (globals : Bool) : List (Nat × Nat × Bool) :=
  g.kvTensors.flatMap fun i =>
    (List.range (g.ringPages i)).map (fun r => (i, r, false)) ++ (if globals then [(i, 0, true)] else [])

/-- Spill slots of partition `p` (R387). -/
def State.spillSlots (s : State) (p : Nat) : Nat :=
  match s.prt p with
  | none => 0
  | some x => x.spillLen * 0x10_0000 / max 1 (s.graphOf p).pageUnit

/-- Spill slots of partition `p` in use. -/
def State.spillUsed (s : State) (p : Nat) : List Nat :=
  s.seqs.flatMap fun q => if q.2.prt = p then q.2.pages.filterMap KvPage.slot else []

/-- Host address of a spill slot (R387). -/
def State.spillAddr (s : State) (p slot : Nat) : Nat :=
  ((s.prt p).map Prt.spillBase |>.getD 0) + slot * (s.graphOf p).pageUnit

/-- Pages of a set placed in turn on the channels of the partition, round-robin, for sequence `k` (R382); a place is taken
after scratch has been reclaimed for it where none is free (R386), a page that finds none starts in the pannier where
`spill`, else the whole fails. `slots` are the spill slots to hand out. -/
def State.placePages (k p unit : Nat) (chans : List Nat) (spill : Bool) :
    Nat → List (Nat × Nat × Bool) → List Nat → State → Option State
  | _, [], _, s => some s
  | i, (t, r, g) :: rest, slots, s =>
    let c := chans.getD (i % max chans.length 1) 0
    let slot := if spill then slots.head? else none
    let mk (held : Bool) (place : Nat × Nat) (loc : PageWhere) : KvPage :=
      { tensor := t, ring := r, glob := g, valid := true, loc := loc, base := 0, comBase := 0, marks := [], comMarks := [],
        rows := [], chan := c, gran := place.1, idx := place.2, held := held, slot := slot, crc := none, used := 0,
        want := false }
    let add (s : State) (pg : KvPage) : State := s.modSeq k fun x => { x with pages := x.pages ++ [pg] }
    let s := if (s.takePage p c unit).isNone then (s.request [c] 1 false).2 else s
    match s.takePage p c unit with
    | some (place, s') => State.placePages k p unit chans spill (i + 1) rest slots.tail (add s' (mk true place .stack))
    | none =>
      if spill then State.placePages k p unit chans spill (i + 1) rest slots.tail (add s (mk false (0, 0) .pannier))
      else none

/-- Number of pages of a sequence that are not in the stacks (Table 13-2, flag spilled). -/
def Seq.spilled (x : Seq) : Bool := x.pages.any fun p => p.loc ≠ .stack

/-! ### Sequence table entry (R371) -/

def SeqState.code : SeqState → Nat
  | .idle => 1 | .running => 2 | .prefetch => 3 | .ending => 4

/-- The 32 bytes of a sequence table entry (Table 13-2). -/
def State.seqEntry (s : State) (k : Nat) : List Byte :=
  match s.seq k with
  | none => List.replicate 32 0
  | some x =>
    let c := x.com
    leBytes 1 x.st.code ++ leBytes 1 x.own.rider ++ leBytes 1 x.prt ++ leBytes 1 (s.slotOf x.prt) ++ leBytes 1 x.adapter
      ++ leBytes 1 x.draftGear ++ leBytes 1 x.draftLen
      ++ leBytes 1 (Bool.num x.spill + 2 * Bool.num (x.producer ≠ 0) + 4 * Bool.num x.spilled + 8 * Bool.num c.turn)
      ++ leBytes 4 c.tail ++ leBytes 4 (min c.produced (2 ^ 32 - 1)) ++ leBytes 4 (c.next.getD 0xFFFF_FFFF)
      ++ leBytes 2 c.queued ++ leBytes 2 x.maxNew ++ leBytes 2 c.turnOut ++ leBytes 2 x.pages.length
      ++ leBytes 1 x.globals.length ++ leBytes 1 c.gear ++ leBytes 2 0

/-- Page-table entry of a page (Table 13-4). -/
def KvPage.entry (unit : Nat) (p : KvPage) : Nat :=
  let loc := match p.loc with | .stack => 0 | .pannier => 1 | .spilling => 2 | .prefetching => 3
  let addr := p.chan * 2 ^ 30 + 0x0100_0000 + p.gran * granBytes + p.idx * unit
  Bool.num p.valid + 2 * loc + 8 * Bool.num p.glob + p.base % 2 ^ 24 * 2 ^ 8 + addr / 4096 % 2 ^ 23 * 2 ^ 32

/-! ### What commits of a sequence (R384) -/

/-- The commit of a sequence: its fields and its pages' marks. -/
def Seq.commit (x : Seq) : Seq :=
  let pages := x.pages.map fun p => { p with comBase := p.base, comMarks := p.marks }
  { x with com := { x.cur with queued := x.queue.length }, pages := pages }

/-- A sequence back at its last commit (R384): its fields, and its pages' marks and bases. -/
def Seq.restore (x : Seq) : Seq :=
  let pages := x.pages.map fun p => { p with base := p.comBase, marks := p.comMarks }
  { x with cur := x.com, pages := pages, drafts := [], outs := [] }

/-- The marks of positions `base` to `base + n − 1` cleared (R394). -/
def unmark (globals : List Nat) (base n : Nat) (pages : List KvPage) : List KvPage :=
  pages.map fun p =>
    if p.glob then
      { p with marks := p.marks.filter fun m => match globals[m.1]? with
        | some pos => pos < base || base + n ≤ pos
        | none => true }
    else { p with marks := p.marks.filter fun m => let pos := p.base * 256 + m.1; pos < base || base + n ≤ pos }

/-- A sequence with its provisional positions rolled back (R394): its drafts are rejected and next_token stays. -/
def State.dropRound (s : State) (k : Nat) : State :=
  match s.seq k with
  | none => s
  | some x =>
    if x.drafts = [] then s
    else
      let n := x.drafts.length
      let s := s.count48 Reg.KVC_VERIFY_REJECTED_LO n
      s.setSeq k { x with drafts := [], pages := unmark x.globals x.cur.tail n x.pages }

/-! ### Ends -/

/-- A sequence leaves: it is ENDING, and its END goes with the next tick edge (R396). -/
def State.endSeq (s : State) (k status : Nat) : State :=
  s.modSeq k fun x => if x.st = .ending then x else { x with st := .ending, ending := some status }

/-- The payloads of an object's OUTPUT entries that still wait for an earlier command take their places while its buffer is
known (R199, R200). -/
def State.placeWaiting (s : State) (handle : Nat) : State :=
  s.link.backlog.foldl (fun s b =>
    let r := b.2.foldl (fun (a : List CplEntry × State) e =>
      if e.kind = .output && e.obj = handle && e.region.isNone && e.status ≠ 0x0405 then
        (a.1 ++ [(a.2.placeOutput e).1], (a.2.placeOutput e).2)
      else (a.1 ++ [e], a.2)) ([], s)
    { r.2 with link := { r.2.link with backlog := Tab.put r.2.link.backlog b.1 r.1 } }) s

/-- Every command and record of the block forgets an object: its output buffer, its links and its counters. -/
def State.forget (s : State) (handle : Nat) : State :=
  let s := s.placeWaiting handle
  { s with links := s.links.filter fun l => l.1.1 ≠ handle && l.1.2 ≠ handle,
           flights := s.flights.filter fun f => f.consumer ≠ handle,
           link := { s.link with bufs := Tab.erase s.link.bufs handle,
                                 reported := s.link.reported.filter fun r => r.obj ≠ handle } }

/-- Entry `k` of the sequence table becomes FREE: its stack pages and spill slots are free (R396). -/
def State.freeSeq (s : State) (k : Nat) : State :=
  ({ s with seqs := Tab.erase s.seqs k }.forget (seqHandle k)).pruneKv

/-- Entry `k` of the stream table becomes FREE: its area is free (R343). -/
def State.freeStr (s : State) (k : Nat) : State :=
  ({ s with streams := Tab.erase s.streams k,
            mem := { s.mem with wants := s.mem.wants.filter fun w => w.cls ≠ GranClass.state || w.owner ≠ k } }.forget
      (strHandle k)).pruneAreas

/-- A stream's exports end with an outcome decided before the blob was taken (R362). -/
def State.failExports (s : State) (k status : Nat) : State :=
  match s.str k with
  | none => s
  | some x =>
    let fail (e : Export) : Export := if e.blob.isNone && e.code.isNone then { e with code := some status } else e
    s.setStr k { x with exports := x.exports.map fail }

/-- A stream is to enter FAULT at the next tick edge with a check code (R366, R367); one already in FAULT or CLOSING stays.
The code is recorded on the STR page by the SERVE hub. -/
def State.faultStr (s : State) (k code : Nat) : State :=
  match s.str k with
  | none => s
  | some x =>
    if x.st = .fault || x.st = .closing || x.faultCode.isSome then s
    else
      let s := s.recordErrAt 0x010 code 0x11
      (s.setStr k { x with faultCode := some code, work := none, taken := 0, outs := [], inFlight := false }).failExports k 0x0403

/-! ### Members of a loop -/

/-- The admitted streams, or sequences, of partition `p`, in ascending index. -/
def State.strOf (s : State) (p : Nat) : List (Nat × Stream) := s.streams.filter fun x => x.2.prt = p
def State.seqOf (s : State) (p : Nat) : List (Nat × Seq) := s.seqs.filter fun x => x.2.prt = p

/-- The command that opens an object still waits for check 11 (R203): the object is a candidate, no member. -/
def State.candidate (s : State) (o : Owner) : Bool := s.link.cmds.any fun c => c.own.order = o.order && c.stage = .check11

/-- The admitted streams, and sequences, of partition `p`. -/
def State.strIn (s : State) (p : Nat) : List (Nat × Stream) := (s.strOf p).filter fun x => !s.candidate x.2.own
def State.seqIn (s : State) (p : Nat) : List (Nat × Seq) := (s.seqOf p).filter fun x => !s.candidate x.2.own && x.2.st ≠ .ending

/-- Members of the peloton of partition `p` (PRT_PELOTON.members). -/
def State.members (s : State) (p : Nat) : Nat := (s.strIn p).length + (s.seqIn p).length

/-- Handles of the consumers fed by a handle (R27). -/
def State.consumersOf (s : State) (handle : Nat) : List Nat :=
  ((s.streams.filter fun x => x.2.producer = handle && x.2.source = 0xFF).map fun x => strHandle x.1)
    ++ ((s.seqs.filter fun x => x.2.producer = handle).map fun x => seqHandle x.1)
    ++ (s.tan.away.filter fun a => a.2.1 = handle).map Prod.fst

/-- Partition of a handle. -/
def State.prtOfHandle (s : State) (h : Nat) : Option Nat :=
  if h / 2 ^ 28 = 1 then (s.str (h % 2 ^ 28)).map Stream.prt
  else if h / 2 ^ 28 = 2 then (s.seq (h % 2 ^ 28)).map Seq.prt
  else if h / 2 ^ 28 = 5 then (if h % 2 ^ 28 < 8 then some (h % 2 ^ 28) else none)
  else none

end Sys2Proof.Machine
end

