-- ==== Sys2Proof/Machine/Predict.lean ====
section
/-! DEFINITION. What strokes cost and owe (R228, R240, R385, R405 to R408, R412 to R417): the predicted time of a stroke, the
strokes a loop composes, and its obligation. Times are in ps; a prediction rounds up. -/
namespace Sys2Proof.Machine
open Sys2Proof

/-! ### Rates -/

/-- Spoke clock of a DVFS point in MHz (Table 3-9). -/
def pointMHz : Nat → Nat
  | 0 => 300 | 1 => 600 | 2 => 850 | _ => 1050

/-- Multiply-accumulates per clock of a spoke for a layer's format (Table 11-1). -/
def formatRate : Nat → Nat
  | 0 => 2048 | 1 => 1024 | _ => 256

/-- Point in force (CLK_SPOKE_STATUS.point). -/
def State.point (s : State) : Nat := s.fld Reg.CLK_SPOKE_STATUS 0 2

/-- Rows of built partitions. -/
def State.builtRows (s : State) : Nat := s.prts.foldl (fun a x => Nat.lor a x.2.rows) 0

/-- Home bandwidth of a row set in units of 64 GB/s, as a fraction (R228). -/
def State.homeShare (s : State) (rows : Nat) : Nat × Nat :=
  let mine := rowSpokes rows
  let all := rowSpokes (Nat.lor rows s.builtRows)
  (s.homesOf rows).foldl (fun (a : Nat × Nat) n =>
    let k := (mine.filter fun i => s.home i = n).length
    let t := max 1 (all.filter fun i => s.home i = n).length
    (a.1 * t + k * a.2, a.2 * t)) (0, 1)

/-- Rate of a LNK_STATUS.speed code in tenths of GT/s. -/
def speedTenths : Nat → Nat
  | 1 => 25 | 2 => 50 | 3 => 80 | 4 => 160 | 5 => 320 | _ => 0

/-- Time to move `b` bytes over the host link (R173). -/
def State.linkPs (s : State) (b : Nat) : Nat :=
  let w := s.fld Reg.LNK_STATUS 1 5
  let r := speedTenths (s.fld Reg.LNK_STATUS 6 3)
  let full := if s.part.variant.hostDie = .h then 4 else 16
  let base := if s.part.variant.hostDie = .h then 14 else 56
  let eff := if r < 80 then 13 else 16
  ceilDiv (b * 1000 * full * 320 * 16) (max 1 (base * w * r * eff))

/-! ### A stroke's prediction -/

/-- Positions an item holds. -/
def itemsPos (l : List StrokeItem) : Nat := l.foldl (fun a i => a + i.positions) 0

/-- Sequence of a handle; 0 for none. -/
def handleIdx (h : Nat) : Nat := h % 2 ^ 28

/-- Adapter of a member. -/
def State.adapterOf (s : State) (h : Nat) : Nat :=
  if h / 2 ^ 28 = 1 then ((s.str (handleIdx h)).map Stream.adapter).getD 0xFF
  else ((s.seq (handleIdx h)).map Seq.adapter).getD 0xFF

/-- Bytes of an adapter's entry for layer `l` at a gear (R276). -/
def adapterBytes (a : Adapter) (l gear : Nat) : Nat :=
  (a.layers.filter fun x => x.entry.base = l).foldl (fun n x => n + x.entry.len gear) 0

/-- State, carry and input bytes that one stream adds to layer `l` (R357). -/
def Graph.streamBytes (g : Graph) (gear l : Nat) : Nat :=
  let st := (g.kept.filter fun i => (g.tensor i).layer = l).foldl (fun a i => a + 2 * 4 * (g.tensor i).size gear) 0
  let order := g.passOrder
  let inp := if order.head? = some l then g.unitHeld * g.frameBytes else 0
  let carry := if g.mode = 1 then match order.findIdx? fun x => x = l with
      | some k => if k = 0 then 0 else (g.crossing k).foldl (fun a i => a + 2 * (g.tensor i).size gear * fmtBytes (g.tensor i).fmt) 0
      | none => 0
    else 0
  st + inp + carry

/-- Key-value bytes that positions `base` to `base + n − 1` of a sequence add to layer `l`: the rows in range, for keys and
for values (R385). -/
def Graph.kvBytesAt (g : Graph) (gear l base n : Nat) (globals : List Nat) : Nat :=
  let row (t : Tensor) : Nat := 2 * t.ext gear 0 * t.dims.getD 1 0 * fmtBytes t.fmt
  g.nodes.foldl (fun a nd =>
    if nd.layer ≠ l then a
    else if nd.op = 0x31 then
      let t := g.tensor ((nd.slot 1).getD 0)
      let lo := base + 1 - nd.attr 3 1
      a + (base + n - lo + (globals.filter fun x => x < lo).length) * row t
    else if nd.op = 0x30 then a + n * row (g.tensor ((nd.slot 2).getD 0))
    else a) 0

/-- Bytes beside the weights that an item adds to layer `l`. -/
def State.itemBytes (s : State) (g : Graph) (gear l : Nat) (i : StrokeItem) : Nat :=
  if i.role = .unit then g.streamBytes gear l
  else g.kvBytesAt gear l i.base i.tokens.length (((s.seq (handleIdx i.handle)).map Seq.globals).getD [])

/-- Adapters that items use. -/
def State.adaptersIn (s : State) (p : Nat) (l : List StrokeItem) : List Adapter :=
  ((l.map fun i => s.adapterOf i.handle).eraseDups).filterMap fun a =>
    match s.slot (s.slotOf p) with
    | none => none
    | some c => Tab.find c.adapters a

/-- The layers of a slot. -/
def State.layersOf (s : State) (p : Nat) : List Layer := ((s.slot (s.slotOf p)).map Slot.layers).getD []

/-- Time of one layer pass: its bytes over the home bandwidth, or a cold layer's over the link, against its
multiply-accumulates (R228, R240); and the time a matrix unit waits for pannier data (R241). -/
def State.layerPs (s : State) (p gear point pos extra : Nat) (g : Graph) (l : Nat) : Nat × Nat :=
  let rows := ((s.prt p).map Prt.rows).getD 0
  let share := s.homeShare rows
  match (s.layersOf p)[l]? with
  | none => (0, 0)
  | some y =>
    let spokes := max 1 (rowSpokes rows).length
    let comp := ceilDiv (pos * g.layerMacs l gear * 1_000_000) (spokes * formatRate y.entry.format * pointMHz point)
    let home (b : Nat) : Nat := ceilDiv (b * 1000 * share.2) (max 1 (64 * share.1))
    if y.inPannier then
      let fetch := s.linkPs (y.entry.len gear)
      (max (max fetch (home extra)) comp, fetch - comp)
    else (max (home (y.entry.len gear + extra)) comp, 0)

/-- Bytes beside the weights of layer `l` in a stroke of items. -/
def State.extraBytes (s : State) (p gear : Nat) (g : Graph) (items : List StrokeItem) (l : Nat) : Nat :=
  (s.adaptersIn p items).foldl (fun a x => a + adapterBytes x l gear) 0
    + items.foldl (fun a i => a + s.itemBytes g gear l i) 0

/-- Uncorrected prediction of a stroke of partition `p` (R415). -/
def State.strokePs (s : State) (p gear point : Nat) (items : List StrokeItem) : Nat :=
  let g := s.graphOf p
  let pos := itemsPos items
  g.passOrder.foldl (fun a l => a + (s.layerPs p gear point pos (s.extraBytes p gear g items l) g l).1) 0

/-- Waiting time of a stroke for pannier data, by layer (R241). -/
def State.strokeWaits (s : State) (p gear point : Nat) (items : List StrokeItem) : List (Nat × Nat) :=
  let g := s.graphOf p
  let pos := itemsPos items
  (g.passOrder.map fun l => (l, (s.layerPs p gear point pos (s.extraBytes p gear g items l) g l).2)).filter fun x => x.2 ≠ 0

/-- Correction in force: c_p, or 1 with DRL_CTL.correction at 0 (R415), in units of 2⁻¹⁶. -/
def State.corr (s : State) (p : Nat) : Nat := if s.bit Reg.DRL_CTL 8 then ((s.prt p).map Prt.corr).getD 65536 else 65536

/-- The derailleur's prediction (R415). -/
def State.predict (s : State) (p gear : Nat) (items : List StrokeItem) : Nat :=
  ceilDiv (s.strokePs p gear s.point items * s.corr p) 65536

/-- Sum of predictions. -/
def State.predictAll (s : State) (p gear : Nat) (l : List (List StrokeItem)) : Nat :=
  l.foldl (fun a i => a + s.predict p gear i) 0

/-! ### Members' items -/

/-- A unit of stream `k` (R348, R349). -/
def unitItem (g : Graph) (k : Nat) : StrokeItem :=
  { handle := strHandle k, role := .unit, base := 0, tokens := [], positions := g.unitPositions, turn := 0 }

/-- Units of a stream that are ready (R351). -/
def Graph.unitsOf (g : Graph) (x : Stream) : Nat :=
  let n := x.left.length
  if g.mode = 2 then (if n < g.chunk + g.look then 0 else (n - g.look) / max 1 g.chunk) else n

/-- A stream takes part in its loop: RUNNING, joined, not leaving (R406). -/
def Stream.runs (x : Stream) : Bool :=
  x.st = .running && x.admitted && x.faultCode.isNone && x.closing.isNone && x.ptr.isSome && !x.migrating

/-- A sequence takes part in its loop; none while a page of it is being spilled (DEDUCED from R389, assumption 39). -/
def Seq.runs (x : Seq) : Bool :=
  x.st = .running && x.admitted && x.cancel.isNone && x.ending.isNone && !x.invalid && !x.migrating
    && !(x.pages.any fun p => p.loc = .spilling)

/-- Queued tokens a member has to write in its turn (R373): the open turn's, or all queued where it is to open one. -/
def Seq.toWrite (x : Seq) : Nat :=
  if x.cur.turn then x.turnIn else x.queue.length

/-- A member that decodes: its turn is open and its input written (R373). -/
def Seq.decodes (x : Seq) : Bool := x.cur.turn && x.turnIn = 0 && x.cur.next.isSome

/-- A decoding or verifying item: next_token and the drafts of the round (R392). -/
def Seq.mainItem (k : Nat) (x : Seq) : StrokeItem :=
  let toks := (x.cur.next.getD 0, 0) :: x.drafts.map fun d => (d, 0)
  { handle := seqHandle k, role := if x.drafts = [] then .decode else .verify, base := x.cur.tail, tokens := toks,
    positions := toks.length, turn := 0 }

/-- One decoding position (R416). -/
def Seq.plainItem (k : Nat) (x : Seq) : StrokeItem :=
  { handle := seqHandle k, role := .decode, base := x.cur.tail, tokens := [(x.cur.next.getD 0, 0)], positions := 1, turn := 0 }

/-- An item of `n` queued tokens (R407). -/
def Seq.inputItem (k n : Nat) (x : Seq) : StrokeItem :=
  { handle := seqHandle k, role := .input, base := x.cur.tail, tokens := x.queue.take n, positions := n, turn := x.toWrite }

/-- A draft position (R392). -/
def Seq.draftItem (k : Nat) (x : Seq) : StrokeItem :=
  { handle := seqHandle k, role := .draft, base := x.cur.tail + x.drafts.length,
    tokens := [(x.drafts.getLast?.getD (x.cur.next.getD 0), 0)], positions := 1, turn := 0 }

/-- Verifications padded to the longest among them (R376). -/
def padVerify (l : List StrokeItem) : List StrokeItem :=
  let m := l.foldl (fun a i => if i.role = .verify then max a i.tokens.length else a) 0
  l.map fun i => if i.role = .verify then { i with positions := m } else i

/-- Add items while the pass stays within `top` positions, in order (R375). -/
def fitItems (top : Nat) (l : List StrokeItem) : List StrokeItem :=
  l.foldl (fun a i => if itemsPos (padVerify (a ++ [i])) ≤ top then a ++ [i] else a) []

/-- The main stroke of a kind 1 loop (R407): decoding and verifying members, then queued input, in ascending index. -/
def State.mainItems (s : State) (p : Nat) : List StrokeItem :=
  let g := s.graphOf p
  let run := (s.seqOf p).filter fun x => x.2.runs
  let first := padVerify (fitItems g.maxPos ((run.filter fun x => x.2.decodes).map fun x => Seq.mainItem x.1 x.2))
  (run.filter fun x => !x.2.decodes && 0 < x.2.toWrite).foldl (fun a x =>
    let n := min x.2.toWrite (min g.memberMax (g.maxPos - itemsPos a))
    if n = 0 then a else a ++ [Seq.inputItem x.1 n x.2]) first

/-- The next stroke of a kind 0 loop (R351, R410). -/
def State.unitItems (s : State) (p : Nat) : List StrokeItem :=
  let g := s.graphOf p
  fitItems g.maxPos (((s.strOf p).filter fun x => x.2.runs && 0 < g.unitsOf x.2).map fun x => unitItem g x.1)

/-! ### Obligation (R416) -/

/-- Strokes that take every unit left, one unit a member a stroke; `fuel` bounds their number. -/
def unitPlans (g : Graph) : Nat → List (Nat × Nat) → List (List StrokeItem)
  | 0, _ => []
  | fuel + 1, left =>
    let now := fitItems g.maxPos ((left.filter fun x => 0 < x.2).map fun x => unitItem g x.1)
    if now = [] then []
    else
      let took := now.map fun i => handleIdx i.handle
      now :: unitPlans g fuel (left.map fun x => if took.contains x.1 then (x.1, x.2 - 1) else x)

/-- Tick length in µs from CLK_TICK_STATUS.length (R18). -/
def tickUs (code : Nat) : Nat := 2500 * 2 ^ code

/-- Strokes a kind 0 loop owes in a tick of `len` µs (u of R412). -/
def Graph.strokesOwed (g : Graph) (len : Nat) : Nat :=
  let unit := g.frameUs * g.unitTaken
  let u := ceilDiv len (max 1 unit)
  match g.audioOut with
  | none => u
  | some n => max u (ceilDiv (g.outRate * len) (1_000_000 * max 1 n))

/-- The obligation of loop `p` as the strokes it owes (R416): for a kind 0 loop every ready unit, and for an audio graph the
strokes that remain of u; for a kind 1 loop the input stroke and the main strokes that remain of min_strokes. -/
def State.obligation (s : State) (p : Nat) : List (List StrokeItem) :=
  let g := s.graphOf p
  match s.prt p with
  | none => []
  | some x =>
    if g.kind = 0 then
      let run := (s.strOf p).filter fun y => y.2.runs
      let left := run.map fun y => (y.1, g.unitsOf y.2)
      let plans := unitPlans g (left.foldl (fun a y => a + y.2) 0) left
      let full := fitItems g.maxPos (run.map fun y => unitItem g y.1)
      let owed := if g.audioOut.isSome && full ≠ [] then g.strokesOwed (tickUs s.tick.length) - x.strokes else 0
      plans ++ List.replicate (owed - plans.length) full
    else
      let run := (s.seqOf p).filter fun y => y.2.runs
      let work := run.filter fun y => y.2.decodes || 0 < y.2.toWrite
      let input := if run.any (fun y => !y.2.decodes && 0 < y.2.toWrite) then [s.mainItems p] else []
      let k := max 1 (s.fld (Reg.PRT_CTL p) 0 6) - x.mains
      input ++ (if work = [] then [] else List.replicate k (work.map fun y => Seq.plainItem y.1 y.2))

/-! ### Drafting rounds (R392, R408) -/

/-- A member that drafts while the loop runs at `gear`. -/
def Seq.mayDraft (gear : Nat) (x : Seq) : Bool := x.runs && x.decodes && x.draftGear ≠ 0xFF && gear < x.draftGear

/-- The draft strokes of a round: for each draft gear, heaviest first, the members of each of its strokes. -/
def State.roundOf (s : State) (p gear : Nat) : List (Nat × List Nat) :=
  let mem := (s.seqOf p).filter fun x => x.2.mayDraft gear
  [1, 2, 3].flatMap fun d =>
    let grp := mem.filter fun x => x.2.draftGear = d
    let n := grp.foldl (fun a x => max a x.2.draftLen) 0
    (List.range n).map fun i => (d, (grp.filter fun x => i < x.2.draftLen).map Prod.fst)

/-- The round's main stroke, with every drafter verifying its draft_len drafts. -/
def State.roundMain (s : State) (p gear : Nat) : List StrokeItem :=
  let stuff (x : Nat × Seq) : Nat × Seq :=
    if x.2.prt = p && x.2.mayDraft gear then (x.1, { x.2 with drafts := List.replicate x.2.draftLen 0 }) else x
  State.mainItems { s with seqs := s.seqs.map stuff } p

/-- A round and the obligation that remains after it fit before the deadline (R408). Its main stroke carries the queued
input it holds and stands for one decoding main stroke. -/
def State.roundFits (s : State) (p gear leftPs : Nat) : Bool :=
  let drafts := s.roundOf p gear
  let td := drafts.foldl (fun a d => a + s.predict p d.1 (d.2.filterMap fun k => (s.seq k).map (Seq.plainItem k))) 0
  let main := s.roundMain p gear
  let owed := s.obligation p
  let inputs := owed.filter fun l => l.any fun i => i.role = .input
  let rest := (owed.filter fun l => !l.any fun i => i.role = .input).drop 1
  let carried := inputs.all fun l => l.all fun i => i.role ≠ .input
    || main.any fun j => j.handle = i.handle && i.tokens.length ≤ j.tokens.length
  let rest := if carried then rest else inputs ++ rest
  drafts ≠ [] && td + s.predict p gear main + s.predictAll p gear rest ≤ leftPs

end Sys2Proof.Machine
end

