-- ==== Sys2Proof/Machine/TanLink.lean ====
section
/-! DEFINITION. The tandem link (R431 to R442): ports, the flits of a message with their virtual channels, credits, the
replay buffer and replays; groups as the chip sees them (R450, R452). Only what a port sends is shown: a flit's message, not
its acknowledgement and credit fields. -/
namespace Sys2Proof.Machine
open Sys2Proof

/-! ### Ports -/

/-- A port that is OFF. -/
def TanPort.zero : TanPort :=
  { st := .off, since := 0, width := 0, lanes := 0, locked := 0, peerId := 0, peerChip := 0, peerPort := 0, root := 0xFF, req := none, rttNs := 0,
    aligned := false, willUp := false, txSeq := 0, rxNext := 0, nakOpen := false, unacked := [], again := [], waiting := [],
    ackAt := 0, replayAt := none, replays := 0, credit0 := 0, credit1 := 0, sbUntil := 0 }

/-- The state codes of Table 15-1. -/
def PortState.code : PortState → Nat
  | .off => 0 | .detect => 1 | .train => 2 | .linked => 3 | .up => 4 | .noPartner => 5 | .degrading => 6 | .failed => 7

/-- Port `p` of the tandem die. -/
def State.tport (s : State) (p : Nat) : TanPort := Tab.get TanPort.zero s.tan.ports p

/-- The state with a port replaced. -/
def State.setTport (s : State) (p : Nat) (x : TanPort) : State :=
  { s with tan := { s.tan with ports := Tab.putD TanPort.zero s.tan.ports p x } }

/-- A port changed. -/
def State.modTport (s : State) (p : Nat) (f : TanPort → TanPort) : State := s.setTport p (f (s.tport p))

/-- The port's state changes, shown at trace point 24 (Table 19-4). -/
def State.portTo (s : State) (p : Nat) (st : PortState) : State :=
  let x := s.tport p
  (s.setTport p { x with st := st, since := s.now }).trace 24 p st.code x.width

/-- The chip's number (R433). -/
def State.chip (s : State) : Nat := s.fld Reg.TAN_CHIP 0 2

/-- Payload rate of a port in units of 14.75 GB/s ÷ 4 (R435): its width. -/
def State.portWidth (s : State) (p : Nat) : Nat := (s.tport p).width

/-! ### Sending (R441, R442) -/

/-- Virtual channel of a message's flits; none for flits without a sequence number (Table 15-3). -/
def msgVc : TanMsg → Option Nat
  | .tick .. | .null => none
  | .xfer .. | .coll .. | .act .. => some 1
  | .hello .. | .pairReq .. | .pairAck .. | .width .. | .stroke .. | .commit .. | .report .. | .groupReset .. | .migOffer ..
  | .migAccept .. | .migRefuse .. | .migDone .. | .migAbandon .. => some 0

/-- A message that opens a training: HELLO goes before any credit is advertised. -/
def msgHello : TanMsg → Bool
  | .hello .. => true
  | _ => false

/-- The port holds a credit for a message. -/
def TanPort.credit (x : TanPort) (m : TanMsg) : Bool :=
  match msgVc m with
  | none => true
  | some 0 => msgHello m || 0 < x.credit0
  | some _ => 0 < x.credit1

/-- The port with a credit used. -/
def TanPort.spend (x : TanPort) (m : TanMsg) : TanPort :=
  match msgVc m with
  | none => x
  | some 0 => if msgHello m then x else { x with credit0 := x.credit0 - 1 }
  | some _ => { x with credit1 := x.credit1 - 1 }

/-- The port carries flits: trained, or exchanging HELLO. -/
def TanPort.carries (x : TanPort) : Bool := x.st = .linked || x.st = .up || x.st = .train

/-- The next of the waiting messages that may go: VC0 before VC1 (R442). -/
def TanPort.nextWaiting (x : TanPort) : Option TanMsg :=
  match x.waiting.find? fun m => msgVc m = some 0 with
  | some m => if x.credit m then some m else
      match x.waiting.find? fun m => msgVc m = some 1 with
      | some m => if x.credit m then some m else none
      | none => none
  | none => match x.waiting.find? fun m => msgVc m = some 1 with
      | some m => if x.credit m then some m else none
      | none => none

/-- One flit leaves, if one can: of a replay first, then the next waiting message. -/
def State.pumpOne (s : State) (p : Nat) : State :=
  let x := s.tport p
  if !x.carries then s
  else match x.again with
    | n :: rest =>
      match Tab.find x.unacked n with
      | none => s.setTport p { x with again := rest }
      | some m => if x.credit m then (s.setTport p ({ x with again := rest }.spend m)).emit (.tandem p m) else s
    | [] =>
      if 64 ≤ x.unacked.length then s
      else match x.nextWaiting with
        | none => s
        | some m =>
          let x' := { x with waiting := x.waiting.erase m, txSeq := (x.txSeq + 1) % 4096, unacked := x.unacked ++ [(x.txSeq, m)],
                             ackAt := if x.unacked = [] then s.now else x.ackAt }
          ((s.setTport p (x'.spend m)).emit (.tandem p m)).count48 (Reg.TAN_TX_FLITS_LO p) 1

/-- Send all that credits and the replay buffer allow. -/
def State.pump (s : State) (p : Nat) : State :=
  (List.range ((s.tport p).again.length + (s.tport p).waiting.length)).foldl (fun s _ => s.pumpOne p) s

/-- The flits of a message: data in pieces of 236 bytes (Table 15-2). -/
def msgFlits : TanMsg → List TanMsg
  | .xfer n o d => (List.range (max 1 (ceilDiv d.length 236))).map fun i => .xfer n (o + 236 * i) (slice d (236 * i) 236)
  | .coll n o d => (List.range (max 1 (ceilDiv d.length 236))).map fun i => .coll n (o + 236 * i) (slice d (236 * i) 236)
  | m => [m]

/-- Send a message on a port. -/
def State.tanSend (s : State) (p : Nat) (m : TanMsg) : State :=
  match msgVc m with
  | none => if (s.tport p).carries then s.emit (.tandem p m) else s
  | some _ => (s.modTport p fun x => { x with waiting := x.waiting ++ msgFlits m }).pump p

/-- Replay (R441): every unacknowledged flit goes again, oldest first. The number of consecutive replays that began at the
same flit is kept; eight reach the replay limit. -/
def State.replay (s : State) (p : Nat) : State :=
  let x := s.tport p
  match x.unacked with
  | [] => s
  | (n, _) :: _ =>
    let k := if x.replayAt = some n then x.replays + 1 else 1
    ((s.setTport p { x with again := x.unacked.map Prod.fst, replayAt := some n, replays := k, ackAt := s.now }).count
      (Reg.TAN_REPLAYS p) 1).pump p

/-- An acknowledgement (R441): the flits up to number `n` leave the replay buffer. -/
def State.acked (s : State) (p n : Nat) : State :=
  let x := s.tport p
  match x.unacked.findIdx? fun u => u.1 = n with
  | none => s
  | some i =>
    let gone := (x.unacked.take (i + 1)).map Prod.fst
    s.setTport p { x with unacked := x.unacked.drop (i + 1), again := x.again.filter (fun a => !gone.contains a), ackAt := s.now,
                          replayAt := none, replays := 0 }

/-! ### Groups (R450, R452) -/

/-- The slot is bound to a group. -/
def State.grouped (s : State) (slot : Nat) : Bool := s.part.variant.tandem && s.bit (Reg.TAN_GROUP slot) 0

/-- Members of the group of a slot, as a mask of chips. -/
def State.groupMask (s : State) (slot : Nat) : Nat := s.fld (Reg.TAN_GROUP slot) 4 4

/-- Number of members. -/
def State.groupSize (s : State) (slot : Nat) : Nat := (maskList 4 (s.groupMask slot)).length

/-- The first member in ring order: the member whose predecessor on port 0 is no member. A chip sees this of itself. -/
def State.leads (s : State) (slot : Nat) : Bool :=
  !(s.tport 0).st = .up || !(s.groupMask slot).testBit (s.tport 0).peerChip
    || ((s.tport 1).st = .up && (s.groupMask slot).testBit (s.tport 1).peerChip
        && s.chip = ((maskList 4 (s.groupMask slot)).headD 0))

/-- Partition `p` is a group's. -/
def State.inGroup (s : State) (p : Nat) : Bool := s.grouped (s.slotOf p)

/-- Ports that lead to members of the group of a slot. -/
def State.groupPorts (s : State) (slot : Nat) : List Nat :=
  [1, 0].filter fun p => (s.tport p).st = .up && (s.groupMask slot).testBit (s.tport p).peerChip

/-- Every link of this chip to a neighbouring member is UP: as many as its place in the run asks for. -/
def State.groupLinked (s : State) (slot : Nat) : Bool :=
  if s.leads slot || !(s.groupMask slot).testBit ((s.chip + 1) % 4) then s.groupPorts slot ≠ [] else (s.groupPorts slot).length = 2

/-- The chip's root (R449); none while it follows without lock. -/
def State.root (s : State) : Option Nat :=
  if s.bit Reg.TAN_TICK_CTL 0 then
    (if s.tan.locked then (if s.tan.leaderRoot = 0xFF then none else some s.tan.leaderRoot) else none)
  else some s.chip

/-- Tell the other members of a slot's group of a reset (R455), leaving out the port the news came by. -/
def State.spreadReset (s : State) (slot code : Nat) (from_ : Option Nat) : State :=
  (s.groupPorts slot).foldl (fun s p => if from_ = some p then s else s.tanSend p (.groupReset slot code)) s

end Sys2Proof.Machine
end

