-- ==== Sys2Proof/Machine/Strokes.lean ====
section
/-! DEFINITION. Running strokes (R348 to R353, R373 to R376, R383, R392 to R395, R405 to R409, R415 to R420): what a stroke
computes for each member, handoffs (R27, R425), pages on their way between stack and pannier (R388, R389), and the steps
of a stroke boundary. -/
namespace Sys2Proof.Machine
open Sys2Proof

/-! ### Counters -/

/-- Page instance of the physical spoke that logical spoke `8 r + k` is (R333, R334). -/
def State.physSpoke (s : State) (i : Nat) : Nat := 9 * (i / 8) + Tab.get (i % 8) s.mem.logical i

/-- Count on one spoke of a row set; which one is lowering's (R326). -/
def State.countOnSpoke (s : State) (rows n : Nat) (reg : Nat → Nat) (cause : Nat) : State :=
  if n = 0 then s
  else
    let l := rowSpokes rows
    let (c, s) := s.fresh
    let k := s.physSpoke (l.getD (Config.spokeShare c l.length % max 1 l.length) 0)
    (s.count (reg k) n).raiseBit (0x080 + k) cause

/-- A stroke's bytes and multiply-accumulates, spread over the spokes and home channels of a row set (R326). -/
def State.countWork (s : State) (rows macs bytes clocks : Nat) : State :=
  let s := (rowSpokes rows).foldl (fun s i =>
    let k := s.physSpoke i
    let s := s.count48 (Reg.SPK_MACS_LO k) (Config.spokeShare macs i)
    let s := s.count48 (Reg.SPK_BUSY_LO k) (min clocks (Config.spokeShare clocks i))
    s.count48 (Reg.SPK_WBYTES_LO k) (Config.spokeShare bytes i)) s
  (s.homesOf rows).foldl (fun s n => s.count48 (Reg.CHN_BYTES_LO n) (Config.spokeShare bytes (64 + n))) s

/-! ### Handoffs (R27, R425) -/

/-- Items for a consumer on a peer cross the link as ACT flits, each with its rider tag (R443, R459). -/
def State.handoffAway (s : State) (c : Nat) (items : List Handoff) : State :=
  match Tab.find s.tan.away c with
  | none => s
  | some (_, port, peer) =>
    items.foldl (fun s i => s.tanSend port (.act (peer % 65536) [i.tag] (i.data.flatMap (leBytes 4)))) s

/-- A consumer takes items: a stream does from the edge of its FINAL (R339). -/
def State.takesItems (s : State) (c : Nat) : Bool :=
  if c / 2 ^ 28 = 1 then ((s.str (handleIdx c)).map Stream.live).getD false else true

/-- Hand items off from a producer to each of its consumers: items that a consumer already has after the producer's rollback
are withheld (R425), the rest set out on the rim. -/
def State.handoff (s : State) (producer : Nat) (items : List Handoff) : State :=
  ((s.consumersOf producer).filter s.takesItems).foldl (fun s c =>
    let l := Tab.get ({ delivered := 0, withhold := 0 } : HandLink) s.links (producer, c)
    let w := min l.withhold items.length
    let l' : HandLink := { delivered := l.delivered + items.length, withhold := l.withhold - w }
    let s := { s with links := Tab.set s.links (producer, c) l' }
    let s := if w = 0 then s else s.count Reg.SRV_HANDOFF_SUPPRESSED w
    let left := items.drop w
    if left = [] then s
    else if c / 2 ^ 28 = 0xE then s.handoffAway c left
    else
      let f : Flight := { producer := producer, consumer := c, items := left }
      let s := { s with flights := s.flights ++ [f] }
      s.trace 8 ((s.prtOfHandle c).getD 0) ((s.prtOfHandle producer).getD 0) left.length) s

/-- The producer of a rollback: the items delivered since its last commit will be withheld when it hands them off again
(R425). -/
def State.rollLinks (s : State) (producer : Nat) : State :=
  let roll (x : (Nat × Nat) × HandLink) : (Nat × Nat) × HandLink :=
    if x.1.1 = producer then (x.1, { delivered := 0, withhold := x.2.delivered + x.2.withhold }) else x
  { s with links := s.links.map roll }

/-- The producer has committed: its count starts anew (R425). -/
def State.commitLinks (s : State) (producer : Nat) : State :=
  let com (x : (Nat × Nat) × HandLink) : (Nat × Nat) × HandLink :=
    if x.1.1 = producer then (x.1, { x.2 with delivered := 0 }) else x
  { s with links := s.links.map com }

/-! ### Prefetch and spill (R388 to R390) -/

/-- The page that a command names: ring entry, or the global page where the ring number is the ring's length. -/
def State.pageAt (s : State) (k tensor ring : Nat) : Option KvPage :=
  match s.seq k with
  | none => none
  | some x =>
    let r := (s.graphOf x.prt).ringPages tensor
    x.pages.find? fun p => p.tensor = tensor && (if ring = r then p.glob else !p.glob && p.ring = ring)

/-- The bytes of a page: keys, then values, as [head][row][element] at G0 extent; zero where a row was never written
(R381). -/
def pageBytes (t : Tensor) (p : KvPage) : List Byte :=
  let heads := t.dims.getD 0 0
  let dim := t.dims.getD 1 0
  let half (f : List Nat × List Nat → List Nat) : List Byte := (List.range heads).flatMap fun h => (List.range 256).flatMap fun r =>
    let v := f (Tab.get ([], []) p.rows r)
    (List.range dim).flatMap fun e => leBytes (fmtBytes t.fmt) (v.getD (h * dim + e) 0)
  half Prod.fst ++ half Prod.snd

/-- A page sets out for the pannier (R388). -/
def State.spillPage (s : State) (k : Nat) (p : KvPage) : State := s.setPage k { p with loc := .spilling, want := false }

/-- Pages of other spill-1 sequences of the partition that may make room on a channel for a prefetch (R388, R389): IDLE
sequences first, least recently used first; never of a sequence that joined a stroke in the tick. -/
def State.roomPages (s : State) (k prt chan : Nat) : List (Nat × KvPage) :=
  (s.spillable chan).filter fun x => x.1 ≠ k && match s.seq x.1 with
    | some y => y.prt = prt && !y.joined && y.st ≠ .prefetch
    | none => false

/-- Bring back one page of sequence `k`, or make room for it: a page never written is taken without a read (R389). -/
def State.prefetchPage (s : State) (k : Nat) (p : KvPage) : State :=
  match s.seq k with
  | none => s
  | some x =>
    let unit := (s.graphOf x.prt).pageUnit
    match s.takePage x.prt p.chan unit with
    | some (place, s) =>
      let q := { p with gran := place.1, idx := place.2, held := true }
      if p.crc.isNone then
        let s := s.setPage k { q with loc := .stack }
        ((s.count Reg.KVC_PREFETCHES 1).countObj (1024 + k) 7 1).trace 12 x.prt 1 k
      else if s.reachable then
        let s := s.setPage k { q with loc := .prefetching }
        s.dmaRead 0 0 (s.spillAddr x.prt (p.slot.getD 0)) ((s.graphOf x.prt).pageBytes p.tensor)
      else s
    | none =>
      if s.reachable && !(s.seqs.any fun y => y.2.prt = x.prt && y.2.pages.any fun q => q.loc = .spilling && q.chan = p.chan)
      then match (s.roomPages k x.prt p.chan) with
        | y :: _ => s.spillPage y.1 y.2
        | [] => s
      else s

/-- A sequence whose pages are all back runs (R389); a wait of more than a tick is logged (Table 19-2). -/
def State.endPrefetch (s : State) (k : Nat) : State :=
  match s.seq k with
  | none => s
  | some x =>
    if x.st = .prefetch && !x.spilled then
      let s := s.setSeq k { x with st := .running, waitFrom := none }
      let us := s.now - x.waitFrom.getD s.now
      if tickUs s.tick.length < us then s.log 2 1 0x8103 k (us - tickUs s.tick.length) 0 else s
    else s

/-- Work on the prefetch of sequence `k` in page-table order, while the PAGE hub runs. -/
def State.prefetch (s : State) (k : Nat) : State :=
  match s.seq k with
  | none => s
  | some x =>
    if x.st ≠ .prefetch || s.restarting 2 then s
    else ((x.pages.filter fun p => p.loc = .pannier).foldl (fun s p => s.prefetchPage k p) s).endPrefetch k

/-- A sequence with queued input runs, or is in PREFETCH while a page is away (R389). -/
def State.wakeSeq (s : State) (k : Nat) : State :=
  match s.seq k with
  | none => s
  | some x =>
    if x.st = .idle && x.queue ≠ [] then
      if x.spilled then (s.setSeq k { x with st := .prefetch, waitFrom := some s.now }).prefetch k
      else s.setSeq k { x with st := .running }
    else s

/-- Tokens join a sequence's queue; those that find it full are dropped and counted (R372). -/
def State.queueTokens (s : State) (k : Nat) (l : List (Nat × Nat)) : State :=
  match s.seq k with
  | none => s
  | some x =>
    let room := 4096 - x.queue.length
    let lost := l.length - room
    let s := s.setSeq k { x with queue := x.queue ++ l.take room }
    let s := if lost = 0 then s else (s.count Reg.KVC_IN_DROPPED lost).raiseBit 0x011 3
    s.wakeSeq k

/-- A handoff arrives in its consumer's input (R27). -/
def State.deliver (s : State) (f : Flight) : State :=
  let k := handleIdx f.consumer
  if f.consumer / 2 ^ 28 = 1 then
    f.items.foldl (fun s i => s.pushFrame k { data := i.data, mark := false, tag := i.tag }) s
  else s.queueTokens k (f.items.map fun i => (i.data.headD 0, i.tag))

/-! ### What a stroke computes -/

/-- The bit of an adapter's owner. -/
def State.adapterTag (s : State) (p adapter : Nat) : Nat :=
  match s.slot (s.slotOf p) with
  | none => 0
  | some c => match Tab.find c.adapters adapter with
    | none => 0
    | some a => 2 ^ a.owner

/-- OR of masks. -/
def orAll (l : List Nat) : Nat := l.foldl Nat.lor 0

/-- Tokens of a stream's TOKEN output after R352, and the last token emitted. -/
def dropRepeats : Nat → List (List Nat) → List (List Nat) × Nat
  | last, [] => ([], last)
  | last, t :: rest =>
    let v := t.headD 0
    if v = 0 || v = last then dropRepeats last rest
    else
      let r := dropRepeats v rest
      (t :: r.1, r.2)

/-- Outputs of a unit: for each OUTPUT node its instances over the emitted positions; TOKEN outputs without repeats (R352). -/
def unitOuts (g : Graph) (r : Pass) (tick : DWord) (n first tag : Nat) : List (Nat × Nat × Nat) → Nat → List Emit × Nat
  | [], last => ([], last)
  | (node, t, kind) :: rest, last =>
    let fmt := (g.tensor t).fmt
    let all := (List.range n).map (r.at_ t)
    let (insts, last) := if fmt = 5 then dropRepeats last all else (all, last)
    let e : Emit := ⟨node, fmt, kind, tag, first, n, insts, 0, tick⟩
    let q := unitOuts g r tick n first tag rest last
    (e :: q.1, q.2)

/-- A stream's unit runs (R348, R349, R352): its working copy, its outputs and handoffs; with the conversions counted. -/
def State.runUnit (s : State) (p gear k : Nat) : State × Cnt :=
  match s.str k with
  | none => (s, Cnt.zero)
  | some x =>
    let g := s.graphOf p
    let c := s.ctxOf p gear x.adapter
    let upReset := ((s.slot (s.slotOf p)).map Slot.upReset).getD false
    let cur := x.current.shifted g upReset gear
    let frames := x.left.take g.unitHeld
    let tag := orAll (2 ^ x.owner :: s.adapterTag p x.adapter :: frames.map Frame.tag)
    let data := frames.map Frame.data
    let (r, carry, emits) := if g.mode = 2 then (c.chunk data cur.states, [], true)
      else c.pipe (data.headD []) cur.states cur.carry
    let n := if g.mode = 2 then g.chunk else 1
    let first := if g.mode = 2 then cur.frames else cur.frames - (g.depth - 1)
    let (outs, last) := if emits then unitOuts g r s.tick.number n first tag g.outputs cur.lastTok else ([], cur.lastTok)
    let work : StrCopy := { states := r.states, carry := carry, lastTok := last, frames := cur.frames + g.unitTaken, gear := gear }
    let s := s.setStr k { x with work := some work, taken := x.taken + g.unitTaken, inFlight := false,
                                 outs := x.outs ++ outs.filter fun e => e.kind ≠ 2 && e.insts ≠ [] }
    let s := (s.countObj k 0 1).countObj k 1 1
    let s := if gear = 0 then s else s.countObj k 6 1
    let s := outs.foldl (fun s e => if e.kind = 2 && e.insts ≠ [] then
      s.handoff (strHandle k) (e.insts.map fun d => { tag := e.tag, data := d }) else s) s
    (s, r.cnt)

/-- How tokens selected in a stroke extend a turn (R373, R393): from the tokens emitted so far, the selections in order and
the drafts they meet. Answers the tokens emitted after the first, how many of them were written, next_token, and whether
the turn ended and with end_token. -/
def walkTurn (endTok maxNew : Nat) : Nat → List Nat → List Nat → List Nat × Nat × Option Nat × Bool × Bool
  | _, [], _ => ([], 0, none, false, false)
  | done, t :: rest, drafts =>
    if t = endTok then ([t], 0, none, true, true)
    else if maxNew ≠ 0 && done + 1 ≥ maxNew then ([t], 0, none, true, false)
    else match drafts with
      | d :: ds =>
        if d = t then
          let r := walkTurn endTok maxNew (done + 1) rest ds
          (t :: r.1, r.2.1 + 1, r.2.2)
        else ([], 0, some t, false, false)
      | [] => ([], 0, some t, false, false)

/-- Drafts that match the selections, as a prefix (R393). -/
def matchDrafts : List Nat → List Nat → Nat
  | d :: ds, t :: ts => if d = t then matchDrafts ds ts + 1 else 0
  | _, _ => 0

/-- The OUTPUT nodes' emissions of a sequence: its tokens, or the instances at the positions of the emitted tokens that the
stroke wrote (R374). -/
def seqOuts (g : Graph) (r : Pass) (tick : DWord) (toks : List Nat) (places first flags tag : Nat) : List Emit :=
  g.outputs.filterMap fun (node, t, kind) =>
    let fmt := (g.tensor t).fmt
    let insts := if fmt = 5 then toks.map fun v => [v] else (List.range places).map (r.at_ t)
    if insts = [] then none
    else some { node := node, fmt := fmt, kind := kind, tag := tag, first := first, pos := insts.length, insts := insts,
                flags := flags, tick := tick }

/-- A sequence has met an invalid page (R395): PAGE_INVALID, its results and its uncommitted outputs are discarded, so that
it stands at its last commit, and it ends. -/
def State.pageFault (s : State) (k : Nat) : State :=
  let s := (s.recordErrAt 0x011 0x0901 0x12).count Reg.KVC_PAGE_FAULTS 1
  let s := (s.raiseBit 0x011 0).dropRound k
  (s.modSeq k fun x => { x.restore with invalid := true, inFlight := false }).endSeq k 0x0404

/-- A sequence's turn goes on or ends (R373). -/
def State.afterTurn (s : State) (k : Nat) : State :=
  match s.seq k with
  | none => s
  | some x =>
    if x.cur.turn then s
    else if x.queue ≠ [] then s
    else if x.producer ≠ 0 then s.setSeq k { x with st := .idle }
    else s.endSeq k 0

/-- The pages that a stroke used, marked as the latest used (R388). -/
def touchPages (now : Nat) (l : List KvPage) : List KvPage := l.map fun p => { p with used := now }

/-- A sequence's item runs (R373 to R376, R392 to R394), with the conversions counted. -/
def State.runItem (s : State) (p gear : Nat) (i : StrokeItem) : State × Cnt :=
  let k := handleIdx i.handle
  match s.seq k with
  | none => (s, Cnt.zero)
  | some x =>
    if x.ending.isSome then (s.modSeq k fun x => { x with inFlight := false }, Cnt.zero)
    else
    let g := s.graphOf p
    let c := s.ctxOf p gear x.adapter
    let toks := i.tokens.map Prod.fst
    let r := c.positions x.globals i.base toks x.pages
    let s := s.count48 Reg.KVC_DESCRIPTORS_LO (r.desc.foldl (fun a d => a + d.2) 0)
    let s := r.desc.foldl (fun s d => s.trace 10 p d.1 d.2) s
    let s := if i.role = .draft then s.countObj (1024 + k) 1 1 else s.countObj (1024 + k) 0 1
    if r.bad then (s.pageFault k, r.cnt)
    else
      let (selT, endTok) := g.select.getD (0, 0xFFFF_FFFF)
      let sel := (List.range toks.length).map fun j => (r.at_ selT j).headD 0
      let tag := orAll (x.tag :: s.adapterTag p x.adapter :: i.tokens.map Prod.snd)
      let x := { x with pages := touchPages s.mem.nextAge r.pages, inFlight := false, cur := { x.cur with gear := gear } }
      let s := s.setMem { s.mem with nextAge := s.mem.nextAge + 1 }
      let emit (s : State) (x : Seq) (l : List Nat) (places : Nat) (ended hitEnd : Bool) : State :=
        let flags := Bool.num ended + 2 * Bool.num hitEnd
        let outs := seqOuts g r s.tick.number l places x.cur.produced flags tag
        let cur := { x.cur with produced := min (2 ^ 32 - 1) (x.cur.produced + l.length), turnOut := x.cur.turnOut + l.length,
                                turn := x.cur.turn && !ended }
        let s := s.setSeq k { x with cur := cur, outs := x.outs ++ outs.filter fun e => e.kind ≠ 2 }
        let s := outs.foldl (fun s e => if e.kind = 2 then
          s.handoff (seqHandle k) (e.insts.map fun d => { tag := e.tag, data := d }) else s) s
        s.afterTurn k
      match i.role with
      | .draft => (s.setSeq k { x with drafts := x.drafts ++ [sel.getLastD 0] }, r.cnt)
      | .input | .unit =>
        let left := i.turn - toks.length
        let cur := { x.cur with tail := i.base + toks.length, turn := true, turnOut := if x.cur.turn then x.cur.turnOut else 0 }
        let x := { x with cur := cur, queue := x.queue.drop toks.length, turnIn := left }
        let s := s.countObj (1024 + k) 2 toks.length
        if left ≠ 0 then (s.setSeq k x, r.cnt)
        else
          let w := walkTurn endTok x.maxNew 0 [sel.getLastD 0] []
          let x := { x with cur := { x.cur with next := w.2.2.1 } }
          (emit s x w.1 0 w.2.2.2.1 w.2.2.2.2, r.cnt)
      | .decode | .verify =>
        let drafts := toks.drop 1
        let acc := matchDrafts drafts sel
        let s := s.count48 Reg.KVC_VERIFY_ACCEPTED_LO acc
        let s := s.count48 Reg.KVC_VERIFY_REJECTED_LO (drafts.length - acc)
        let s := (s.countObj (1024 + k) 3 acc).countObj (1024 + k) 4 (drafts.length - acc)
        let s := if drafts = [] then s else s.trace 9 p (acc * 256 + (drafts.length - acc)) k
        let w := walkTurn endTok x.maxNew (x.cur.turnOut + 1) sel drafts
        let kept := 1 + w.2.1
        let x := { x with drafts := [], pages := unmark x.globals (i.base + kept) (toks.length - kept) x.pages,
                          cur := { x.cur with tail := i.base + kept, next := w.2.2.1 } }
        (emit s x (toks.headD 0 :: w.1) kept w.2.2.2.1 w.2.2.2.2, r.cnt)

/-- Every item of a stroke runs, in order. -/
def State.runItems (s : State) (p gear : Nat) : List StrokeItem → State × Cnt
  | [] => (s, Cnt.zero)
  | i :: t =>
    let r := if i.role = .unit then s.runUnit p gear (handleIdx i.handle) else s.runItem p gear i
    let q := State.runItems r.1 p gear t
    (q.1, r.2.add q.2)

/-! ### Overruns and deferral (R420) -/

/-- Deadline of partition `p` for the tick (R405). -/
def State.deadline (s : State) (p : Nat) : Nat := s.tick.lastEdge + 60 + ((s.prt p).map Prt.budget).getD 0

/-- An overrun of loop `p` in this tick, counted once a tick (R420). -/
def State.overrun (s : State) (p late : Nat) : State :=
  match s.prt p with
  | none => s
  | some x =>
    if x.overNow then s
    else
      let s := s.setPrt p { x with overNow := true }
      let s := (s.count Reg.DRL_OVERRUN_COUNT 1).raiseBit 0x00F 0
      let s := s.count (Reg.PRT_OVERRUNS p) 1
      let s := if x.overTick then s else s.raiseBit (0x028 + p) 2
      s.log 1 1 0x8101 p late x.strokes

/-- A loop of a READY partition at or past its deadline with no stroke in flight: the obligation left waits for the next
tick, counted once a tick (R420). -/
def State.judge (s : State) (p : Nat) : State :=
  match s.prt p with
  | none => s
  | some x =>
    if x.st = .ready && x.stroke.isNone && !x.judged && s.tick.running && s.deadline p ≤ s.now then
      let s := s.setPrt p { x with judged := true }
      if s.obligation p = [] then s
      else ((s.count Reg.DRL_DEFERRED 1).raiseBit 0x00F 1).overrun p (s.now - s.deadline p)
    else s

/-! ### The boundary (R406) -/

/-- Members leave: sequences that were cancelled go, with their provisional positions rolled back (R394, R396). -/
def State.leaves (s : State) (p : Nat) : State :=
  (s.seqOf p).foldl (fun s x =>
    if x.2.cancel.isSome && x.2.ending.isNone && !x.2.inFlight then
      (s.dropRound x.1).endSeq x.1 0x0402
    else s) s

/-- Set the loop's gear, counting and showing the shift (R417). -/
def State.setGear (s : State) (p gear why : Nat) : State :=
  match s.prt p with
  | none => s
  | some x =>
    let s := s.setPrt p { x with gear := gear, hold := 0 }
    let s := s.count (if x.gear < gear then Reg.DRL_SHIFTS_DOWN else Reg.DRL_SHIFTS_UP) 1
    s.trace 4 p (x.gear * 256 + gear) why

/-- The derailleur's step at a boundary at time `b` (R417, R418). -/
def State.shift (s : State) (p b : Nat) : State :=
  match s.prt p with
  | none => s
  | some x =>
    let light := s.gearsOf p - 1
    let top := min (s.fld (Reg.PRT_CTL p) 8 2) light
    let left := (s.deadline p - b) * 1_000_000
    let owed := s.obligation p
    let fits (g : Nat) : Bool := s.predictAll p g owed ≤ left
    let best := ((List.range (light + 1)).find? fun g => top ≤ g && fits g).getD light
    let goal := if x.starved then max best (min (x.gear + 1) light) else best
    let why := if x.starved && best < goal then 2 else if best = top && x.gear < top then 3 else 0
    let s := s.setPrt p { x with starved := false }
    if x.gear < goal then s.setGear p goal why
    else if x.starved then s.modPrt p fun x => { x with hold := 0 }
    else if top < x.gear && s.predictAll p (x.gear - 1) owed * (16 + s.fld Reg.DRL_CTL 4 4) ≤ left * 16 then
      if max 1 (s.fld Reg.DRL_CTL 0 4) ≤ x.hold + 1 then s.setGear p (x.gear - 1) 1
      else s.modPrt p fun x => { x with hold := x.hold + 1 }
    else s.modPrt p fun x => { x with hold := 0 }

/-- arg_a of trace points 2 and 3. -/
def strokeArg (t : Stroke) : Nat := t.number * 256 + (if t.kind = .draft then 4 else 0) + t.gear

/-- Members of a stroke are marked in flight; a stream's or sequence's joining is counted at its end. -/
def State.flagMembers (s : State) (l : List StrokeItem) : State :=
  l.foldl (fun s i =>
    if i.role = .unit then s.modStr (handleIdx i.handle) fun x => { x with inFlight := true }
    else s.modSeq (handleIdx i.handle) fun x => { x with inFlight := true, joined := true }) s

/-- A stroke of items fits at time `b` (R405). -/
def State.strokeFits (s : State) (p b gear : Nat) (items : List StrokeItem) : Bool :=
  match s.prt p with
  | none => false
  | some x => b * 1_000_000 + s.predict p gear items ≤ s.deadline p * 1_000_000 && x.strokes < x.maxStrokes

/-- A starved stroke of partition `p` with its waiting time (R241): it forces a downshift; the first after a tick with none
raises the cause of STK[0] (R249). -/
def State.countStarve (s : State) (p us : Nat) : State :=
  let k := 0x10000 + p
  let seen := Tab.get false s.aud.flags k || Tab.get false s.aud.prev k
  let s := { s with aud := { s.aud with flags := Tab.put s.aud.flags k true } }
  let s := ((s.count (Reg.STK_STARVE p) 1).count (Reg.STK_STARVE_US p) us).modPrt p fun x => { x with starved := true }
  if seen then s else s.raiseBit 0x050 2

/-- Start a stroke that fits (R405); while the pannier cannot be reached, a stroke of a partition with cold layers counts as
starved without running (R243). -/
def State.startStroke (s : State) (p b gear : Nat) (kind : StrokeKind) (items : List StrokeItem) : State :=
  match s.prt p with
  | none => s
  | some x =>
    if x.panUsed && !s.reachable then s.countStarve p 0
    else
      let t : Stroke := { kind := kind, gear := gear, items := items, start := b, base := s.strokePs p gear s.point items,
                          crossed := false, waiting := s.strokeWaits p gear s.point items ≠ [], number := x.strokes + 1 }
      let decodes := kind = .main && items.any fun i => i.role = .decode || i.role = .verify
      let us := s.predict p gear items / 1_000_000
      let s := s.setPrt p { x with stroke := some t, strokes := x.strokes + 1, inLast := items.length,
                                   mains := x.mains + Bool.num decodes }
      (s.flagMembers items).trace 2 p (strokeArg t) us

/-- Remove one queued-input position, of the highest sequence index (R407). -/
def trimItem (l : List StrokeItem) : List StrokeItem :=
  match l.reverse with
  | [] => []
  | i :: t =>
    if i.role ≠ .input then l
    else if i.tokens.length ≤ 1 then t.reverse
    else ({ i with tokens := i.tokens.dropLast, positions := i.positions - 1 } :: t).reverse

/-- The stroke that remains after trimming input until it fits; none where it does not fit (R407). -/
def State.trimFit (s : State) (p b gear : Nat) : Nat → List StrokeItem → Option (List StrokeItem)
  | 0, _ => none
  | n + 1, l =>
    if l = [] then none
    else if s.strokeFits p b gear l then some l
    else if l.any fun i => i.role = .input then State.trimFit s p b gear n (trimItem l)
    else none

/-- The next draft stroke of a round: members that still draft at the loop's gear (R408). -/
def State.nextDraft (s : State) (gear : Nat) : List (Nat × List Nat) → Option ((Nat × List Nat) × List (Nat × List Nat))
  | [] => none
  | d :: t =>
    let mem := d.2.filter fun k => match s.seq k with
      | some x => x.mayDraft gear
      | none => false
    if mem = [] then State.nextDraft s gear t else some ((d.1, mem), t)

/-- Composition and start at a boundary at time `b` (R406 to R408). -/
def State.compose (s : State) (p b : Nat) : State :=
  match s.prt p with
  | none => s
  | some x =>
    let g := s.graphOf p
    if g.kind = 0 then
      let items := s.unitItems p
      if items ≠ [] && s.strokeFits p b x.gear items then s.startStroke p b x.gear .main items else s
    else
      let left := (s.deadline p - b) * 1_000_000
      let round := match x.round with
        | some r => some r
        | none => if s.roundFits p x.gear left then some { drafts := s.roundOf p x.gear } else none
      let s := s.modPrt p fun x => { x with round := round }
      match round.bind fun r => s.nextDraft x.gear r.drafts with
      | some ((d, mem), rest) =>
        let items := mem.filterMap fun k => (s.seq k).map (Seq.draftItem k)
        if s.strokeFits p b d items then
          (s.modPrt p fun x => { x with round := some { drafts := rest } }).startStroke p b d .draft items
        else s
      | none =>
        let items := s.mainItems p
        match s.trimFit p b x.gear (itemsPos items + 1) items with
        | none => s
        | some l => (s.modPrt p fun x => { x with round := none }).startStroke p b x.gear .main l

/-- The loop of partition `p` may act at a boundary now: READY, no stroke in flight, the tick running, the SERVE hub up, the
kickstand not in force, and its group's links ready (R402, R149, R455). -/
def State.loopFree (s : State) (p : Nat) : Bool :=
  match s.prt p with
  | none => false
  | some x => x.st = .ready && x.stroke.isNone && s.tick.running && !s.restarting 1 && s.pwr.st ≠ .kick
      && s.pwr.st ≠ .aon && !x.linkWait && !x.groupWait

/-- A stroke boundary of partition `p` (R406); a loop that uses key-value pages is held while the PAGE hub restarts
(R150), and one already reset since that restart began stays idle. -/
def State.boundary (s : State) (p : Nat) : State :=
  let s := s.judge p
  if !s.loopFree p then s
  else
    let s := s.leaves p
    let b := max s.now (s.tick.lastEdge + 60)
    if s.restarting 2 && (s.graphOf p).kvTensors ≠ [] then
      s.modPrt p fun x =>
        if x.resets.any fun t => (s.hub 2).since ≤ t then x else { x with heldHub := some (x.heldHub.getD s.now) }
    else (s.shift p b).compose p b

/-- Boundaries of every partition. -/
def State.boundaries (s : State) : State := (s.prts.map Prod.fst).foldl (fun s p => s.boundary p) s

/-! ### A stroke's end -/

/-- The correction after a stroke (R415), in units of 2⁻¹⁶. -/
def newCorr (c us base : Nat) : Nat :=
  let r := us * 1_000_000 * 65536 / max 1 base
  let c' := (8 * c + r - c) / 8
  min 131072 (max 65536 c')

/-- What a starved stroke counts (R241): the starvation, its waiting time and the pannier bytes; it forces a downshift. -/
def State.countPannier (s : State) (p : Nat) (t : Stroke) : State :=
  let g := s.graphOf p
  let cold := (s.layersOf p).filter Layer.inPannier
  let used := g.passOrder.filterMap fun l => match (s.layersOf p)[l]? with
    | some y => if y.inPannier then some (y.entry.len t.gear) else none
    | none => none
  let s := if cold = [] then s else s.count48 Reg.STK_PAN_BYTES_LO (used.foldl (· + ·) 0)
  let waits := s.strokeWaits p t.gear s.point t.items
  let ps := waits.foldl (fun a x => a + x.2) 0
  if waits = [] && !t.waiting then s
  else
    let s := waits.foldl (fun s x => s.trace 13 p x.1 (x.2 / 1_000_000)) s
    s.countStarve p (ps / 1_000_000)

/-- The stroke in flight of partition `p` ends now (R405, R415): it is measured, its results stand, and the boundary
follows. -/
def State.strokeEnd (s : State) (p : Nat) : State :=
  match s.prt p with
  | none => s
  | some x =>
    match x.stroke with
    | none => s
    | some t =>
      let us := s.now - t.start
      let g := s.graphOf p
      let corr := newCorr x.corr us t.base
      let macs := g.passOrder.foldl (fun a l => a + itemsPos t.items * g.layerMacs l t.gear) 0
      let bytes := g.passOrder.foldl (fun a l => a + (((s.layersOf p)[l]?).map fun y => y.entry.len t.gear).getD 0
        + s.extraBytes p t.gear g t.items l) 0
      let s := s.countPannier p t
      let s := s.modPrt p fun x => { x with stroke := none, usedPs := x.usedPs + us * 1_000_000, corr := corr }
      let s := if corr = 131072 && x.corr < 131072 then s.raiseBit 0x00F 2 else s
      let s := s.trace 3 p (strokeArg t) us
      let (s, cnt) := s.runItems p t.gear t.items
      let s := s.countWork x.rows macs bytes (us * pointMHz s.point)
      let s := s.countOnSpoke x.rows cnt.nan Reg.SPK_NAN_INT8 3
      let s := s.countOnSpoke x.rows cnt.sat Reg.SPK_SAT_INT8 4
      s.boundary p

end Sys2Proof.Machine
end

