-- ==== Sys2Proof/Machine/Faults.lean ====
section
/-! DEFINITION. Job faults and lost units (R230, R231, R242, R244 to R246, R283, R331 to R334, R403, R422 to R426, Tables 8-3
and 8-4): what a fault costs partitions, streams, sequences, commands, cassettes, channels and rows. -/
namespace Sys2Proof.Machine
open Sys2Proof

/-! ### A stroke given up -/

/-- A member leaves a stroke whose results are discarded: a stream's working copy of that stroke never was; drafts and the
provisional pages of a sequence stand as before the stroke began. -/
def State.unflag (s : State) (l : List StrokeItem) : State :=
  l.foldl (fun s i =>
    if i.role = .unit then s.modStr (handleIdx i.handle) fun x => { x with inFlight := false, crossing := false }
    else s.modSeq (handleIdx i.handle) fun x => { x with inFlight := false, crossing := false }) s

/-- The stroke in flight of partition `p` stops and its results are discarded. -/
def State.stopStroke (s : State) (p : Nat) : State :=
  match (s.prt p).bind Prt.stroke with
  | none => s
  | some t => (s.unflag t.items).modPrt p fun x => { x with stroke := none }

/-! ### Partition reset (R423 to R425) -/

/-- Streams of partition `p` that ran since their last commit stand at that commit again; each gets its ROLLBACK at the next
edge (R358). A migrating stream belongs to no loop (R460). -/
def State.rollStreams (s : State) (p : Nat) : State :=
  (s.strOf p).foldl (fun s x =>
    if (x.2.work.isSome || x.2.crossing || x.2.inFlight) && !x.2.migrating then
      (s.setStr x.1 { x.2 with work := none, taken := 0, outs := [], inFlight := false, crossing := false, rolled := true }).rollLinks
        (strHandle x.1)
    else s) s

/-- Sequences of partition `p` that joined a stroke in the tick end with ABORT; every sequence stands at its last commit (R384,
R396). -/
def State.rollSeqs (s : State) (p : Nat) : State :=
  (s.seqOf p).foldl (fun s x =>
    if (x.2.joined || x.2.crossing || x.2.inFlight) && !x.2.migrating then
      (s.setSeq x.1 { x.2.restore with inFlight := false, crossing := false }).endSeq x.1 0x0401
    else s) s

/-- A command names partition `p` or an object of it. -/
def State.names (s : State) (p : Nat) (c : Cmd) : Bool := s.prtOfHandle c.desc.target = some p

/-- The object of a command is migrating: its transfer goes on (R460). -/
def State.moving (s : State) (c : Cmd) : Bool :=
  c.desc.opcode = 0x61 && s.tan.migOut.any fun m => m.order = c.own.order && m.started

/-- The commands of R424 end with ABORT, and the exports among them with it. -/
def State.abortNamed (s : State) (p : Nat) : State :=
  let gone := s.link.cmds.filter fun c => c.open_ && s.names p c && c.stage ≠ .check11 && c.desc.opcode ≠ 0x31
    && c.desc.opcode ≠ 0x42 && !s.moving c
  let orders := gone.map fun c => c.own.order
  let s := { s with streams := s.streams.map fun x =>
      (x.1, { x.2 with exports := x.2.exports.filter fun e => !orders.contains e.order }),
                    tan := { s.tan with migOut := s.tan.migOut.filter fun m => !orders.contains m.order } }
  gone.foldl (fun s c => s.decide c.own.order 0x0401 0) s

/-- What a job fault does to a serving loop (Table 14-5, offset 0 to 2 ms); the member of a group that detected it journals it
(R526). -/
def State.resetPrt (s : State) (p code : Nat) (here : Bool := true) : State :=
  match s.prt p with
  | none => s
  | some x =>
    let recent := s.now :: x.resets.filter fun t => s.now < t + 1_000_000
    let s := (s.rollStreams p).rollSeqs p
    let s := s.modPrt p fun x =>
      { x with st := .resetting, stroke := none, round := none, faultAt := some s.now, faultCode := code, faultTick := true,
               cleared := none, resets := recent, faultWait := none }
    let s := (s.recordErrAt (0x028 + p) code 0x11).raiseBit (0x028 + p) 1
    let s := (s.count (Reg.PRT_RESETS p) 1).count Reg.SRV_JOB_FAULTS 1
    let s := (s.raiseBit 0x00E 0).trace 7 p 0 code
    let s := if here then s.journal 0x17 0x10 code p 0 else s
    s.abortNamed p

/-- A job fault in partition `p` (R422, R423). Several in one tick count as one reset (R426). A fault found while the SERVE
hub restarts stops the stroke and is acted on when the hub returns (R103). -/
def State.jobFaultHere (s : State) (p code : Nat) (here : Bool := true) : State :=
  match s.prt p with
  | none => s
  | some x =>
    if !(x.st = .ready || x.st = .resetting) || (x.st = .resetting && x.faultTick) then s
    else if s.restarting 1 then s.modPrt p fun x => { x with stroke := none, faultWait := some (x.faultWait.getD code) }
    else s.resetPrt p code here

/-- A job fault, told to the other members of the partition's group (R455). -/
def State.jobFault (s : State) (p code : Nat) : State :=
  match s.prt p with
  | none => s
  | some x =>
    let s := s.jobFaultHere p code
    if s.grouped x.slot then s.spreadReset x.slot code none else s

/-- Faults that waited for the SERVE hub. -/
def State.waitedFaults (s : State) : State :=
  s.prts.foldl (fun s x => match x.2.faultWait with
    | some code => s.resetPrt x.1 code
    | none => s) s

/-- A starved stroke is abandoned (R242): as it was before the stroke, with the round's provisional positions given up. -/
def State.abandonStroke (s : State) (p : Nat) : State :=
  match (s.prt p).bind Prt.stroke with
  | none => s
  | some t =>
    let waits := s.strokeWaits p t.gear s.point t.items
    let ps := waits.foldl (fun a x => a + x.2) 0
    let s := s.stopStroke p
    let s := t.items.foldl (fun s i => if i.role = .unit then s else s.dropRound (handleIdx i.handle)) s
    let s := (s.countStarve p (min (ps / 1_000_000) (s.now - t.start))).modPrt p fun x => { x with round := none }
    (s.count Reg.STK_PAN_ABORTS 1).recordErrAt 0x050 0x0504 0x11

/-! ### Cassettes -/

/-- What a load operation on a slot leaves in CAS_LAST_RESULT (R285). -/
def State.lastResult (s : State) (n op code : Nat) : State := s.modSlot n fun x => { x with lastOp := op, lastCode := code }

/-- Slot `n` is EMPTY (R265, R282); what CAS_LAST_RESULT and CAS_LOAD_US show stays. -/
def State.emptySlot (s : State) (n : Nat) : State :=
  s.modSlot n fun x => { Slot.blank with lastOp := x.lastOp, lastCode := x.lastCode, loadUs := x.loadUs }

/-- An image transfer into a slot fails (R264, R265, R280): its granules are freed, the slot is as before it, and the outcome
is decided. -/
def State.failLoad (s : State) (order code : Nat) (result : Nat := 0) : State :=
  match s.loads.find? fun l => l.order = order with
  | none => s
  | some l =>
    let s := s.freeOwner .cassette l.owner
    let s := { s with loads := s.loads.filter fun x => x.order ≠ order,
                      mem := { s.mem with wants := s.mem.wants.filter fun w => w.cls = GranClass.state || w.owner ≠ l.owner } }
    let s := s.modSlot l.slot fun x =>
      if l.op = 0x10 then { x with st := .needsReload } else if x.st = .replacing && l.op = 0x12 then { x with st := .resident } else x
    let s := s.lastResult l.slot l.op code
    let s := if l.op = 0x10 && !l.reload then s.emptySlot l.slot else s
    let s := ((s.recordErrAt (0x030 + l.slot) code l.rider).raiseBit (0x030 + l.slot) 1)
    s.decide order code result

/-- A slot loses granules (R246, R283): its partitions are reset as a job fault, it needs reloading, its adapters go with
their granules, and operations on it end with SLOT_LOST. -/
def State.slotLost (s : State) (n code : Nat) : State :=
  match s.slot n with
  | none => s
  | some x =>
    if !(x.st = .resident || x.st = .replacing) then s
    else
      let s := s.prts.foldl (fun s p => if p.2.slot = n then s.jobFault p.1 code else s) s
      let s := x.adapters.foldl (fun s a => s.freeOwner .cassette (ownAdapter n a.1)) s
      let s := s.modSlot n fun x => { x with st := .needsReload, adapters := [] }
      let s := (s.loads.filter fun l => l.slot = n).foldl (fun s l => s.failLoad l.order 0x060A) s
      s.raiseBit (0x030 + n) 3

/-! ### Rows and spokes -/

/-- A spoke at rest. -/
def Spoke.zero : Spoke := { st := .good, cause := 0, uncorr := [], residue := [] }

/-- Physical spoke `k`, by its page instance 9 r + c. -/
def State.spoke (s : State) (k : Nat) : Spoke := Tab.get Spoke.zero s.mem.spokes k

/-- The state with a physical spoke replaced. -/
def State.setSpoke (s : State) (k : Nat) (x : Spoke) : State :=
  s.setMem { s.mem with spokes := Tab.putD Spoke.zero s.mem.spokes k x }

/-- A spoke that works. -/
def State.spokeWorks (s : State) (k : Nat) : Bool := (s.spoke k).st = .good || (s.spoke k).st = .spare

/-- The working physical columns of row `r`, ascending. -/
def State.workCols (s : State) (r : Nat) : List Nat := (List.range 9).filter fun c => s.spokeWorks (9 * r + c)

/-- The logical column that physical spoke 9 r + c carries (R332). -/
def State.logicalOf (s : State) (r c : Nat) : Option Nat :=
  if s.rowLost r || !s.spokeWorks (9 * r + c) then none
  else (List.range 8).find? fun k => Tab.get k s.mem.logical (8 * r + k) = c

/-- Row `r` renumbered (R332): the eight lowest working columns. -/
def State.renumberRow (s : State) (r : Nat) : State :=
  let w := s.workCols r
  let cols := (List.range 8).map fun k => (8 * r + k, w.getD k k)
  let logical := cols.foldl (fun l x => Tab.put l x.1 x.2) s.mem.logical
  s.setMem { s.mem with logical := logical, spareUsed := if 8 ∈ w.take 8 then setBit s.mem.spareUsed r else s.mem.spareUsed }

/-- A partition is discarded with what it served (R334, R68): its sequences and streams are gone without an EVENT, and
commands that name it end with ABORT. -/
def State.dropPrt (s : State) (p : Nat) : State :=
  let s := s.decideAll (fun c => s.names p c) 0x0401
  let s := (s.seqOf p).foldl (fun s x => s.freeSeq x.1) s
  let s := (s.strOf p).foldl (fun s x => s.freeStr x.1) s
  { s with prts := Tab.erase s.prts p }

/-- A page of a sequence is lost: it is invalid and its sequence ends with PAGE_FAULT (Tables 8-3 and 8-4, R395). -/
def State.losePage (s : State) (k : Nat) (p : KvPage) : State := (s.setPage k { p with valid := false }).pageFault k

/-- What lay on channel `n` is lost (Table 8-4), but for the cassettes' granules. -/
def State.loseContents (s : State) (n code : Nat) : State :=
  let s := s.streams.foldl (fun s x => if x.2.chans.contains n && x.2.ptr.isSome then s.faultStr x.1 code else s) s
  let s := s.seqs.foldl (fun s x =>
    match x.2.pages.find? fun p => p.held && p.chan = n with
    | some p => s.losePage x.1 p
    | none => s) s
  let scratch := ((s.mem.allocs.filter fun a => a.chan = n && a.cls = .scratch).map Alloc.owner).eraseDups
  scratch.foldl (fun s o => s.dropScratch o) s

/-- Row `r` is lost (R245, R334): no partition includes it; its cassettes need reloading on the rows that remain; a partition
of this row alone is discarded; its channels without guests are switched off with what they held. -/
def State.loseRow (s : State) (r code : Nat) : State :=
  if s.rowLost r then s
  else
    let s := s.prts.foldl (fun s p =>
      if p.2.rows.testBit r && !(p.2.st = .resetting && p.2.rebuild) then s.jobFault p.1 code else s) s
    let s := s.setMem { s.mem with rowLost := setBit s.mem.rowLost r }
    let s := s.journal 0x16 0x10 3 r 0
    let s := s.slots.foldl (fun s x => if x.2.rows.testBit r then
      (s.slotLost x.1 code).modSlot x.1 fun y => { y with rows := clearBit y.rows r } else s) s
    let s := s.prts.foldl (fun s p =>
      if p.2.rows = 2 ^ r then s.dropPrt p.1
      else s.modPrt p.1 fun y => { y with rows := clearBit y.rows r, recheck := true }) s
    let chans := (List.range s.chanCount).filter fun n => n % 8 = r
    chans.foldl (fun s n =>
      let slots := (s.slots.filter fun x => x.2.st = .needsReload).map Prod.fst
      let s := s.setMem { s.mem with allocs := s.mem.allocs.filter fun a =>
        !(a.chan = n && a.cls = .cassette && slots.contains (ownSlot a.owner)) }
      if s.homed n = [] && (s.chan n).st ≠ .failed then
        let s := s.loseContents n 0x0806
        let s := s.setChan n { s.chan n with st := .off }
        s.setMem { s.mem with allocs := s.mem.allocs.filter fun a => a.chan ≠ n }
      else s) s

/-- Physical spoke `k` fails in service (R333, R334). -/
def State.failSpoke (s : State) (k cause code : Nat) : State :=
  let r := k / 9
  let spare := 9 ≤ (s.workCols r).length
  let s := s.setSpoke k { s.spoke k with st := .failed, cause := cause }
  let s := ((s.recordErrAt (0x080 + k) 0x0704 0x11).raiseBit (0x080 + k) 2).journal 0x16 0x11 1 k 0
  let prt := (s.prts.find? fun p => p.2.rows.testBit r).map Prod.fst
  let s := match prt with
    | some p => (s.jobFault p code).modPrt p fun x => { x with rebuild := true, cleared := none }
    | none => s
  let s := if spare then s else (s.recordErrAt (0x080 + k) 0x0705 0x10).loseRow r code
  s.setMem { s.mem with renumber := Tab.put s.mem.renumber r (prt.getD 8) }

/-! ### Channels (R231, R244, R245) -/

/-- Channel `n` fails (R244). A load whose granules lay there places them anew once the spokes are rehomed. -/
def State.failChannel (s : State) (n : Nat) : State :=
  let c := s.chan n
  if c.st = .failed || s.chanCount ≤ n then s
  else
    let s := s.setChan n { c with st := .failed, due := false, window := false }
    let s := (s.recordErrAt (0x060 + n) 0x0502 0x10).raiseBit (0x060 + n) 2
    let s := (s.raiseBit (0x050 + stackOf n) 0).journal 0x16 0x10 2 n 0
    let owners := ((s.mem.allocs.filter fun a => a.chan = n && a.cls = .cassette).map Alloc.owner).eraseDups
    let s := (owners.map ownSlot).eraseDups.foldl (fun s k => s.slotLost k 0x0502) s
    let s := s.loseContents n 0x0806
    let s := { s with loads := s.loads.map fun (l : Load) =>
        if l.op = 0x10 && l.staged && owners.contains l.owner then { l with staged := false } else l }
    s.setMem { s.mem with allocs := s.mem.allocs.filter (fun a => a.chan ≠ n),
                          rehome := s.mem.rehome ++ [(n, s.now)] }

/-- The surviving channel of row `r` with the fewest spokes homed, the lowest index on a tie (R245). -/
def State.bestChannel (s : State) (r : Nat) : Option Nat :=
  let l := (List.range s.chanCount).filter fun n => n % 8 = r && (s.chan n).survives
  l.foldl (fun a n => match a with
    | none => some n
    | some b => if (s.homed n).length < (s.homed b).length then some n else some b) none

/-- One spoke rehomed; its row is lost where no channel survives. -/
def State.rehomeSpoke (s : State) (i : Nat) : State :=
  let r := i / 8
  match s.bestChannel r with
  | some c => s.setMem { s.mem with homes := Tab.put s.mem.homes i c }
  | none => match s.bestChannel (Nat.xor r 1) with
    | some c => s.setMem { s.mem with homes := Tab.put s.mem.homes i c }
    | none => if s.rowLost r then s else (s.recordErrAt 0x050 0x0505 0x10).loseRow r 0x0505

/-- A load that lost granules takes them again on the home channels in force (corner of chapter 8). -/
def State.replaceGrans (s : State) (l : Load) : State :=
  let own := l.owner
  let s := s.freeOwner .cassette own
  let size := l.entries.foldl (fun a e => a + (if l.pannier && e.cold then 0 else e.len 0)) 0
  let homes := s.homesOf l.rows
  let per := ceilDiv (ceilDiv size (max 1 homes.length)) granBytes
  match s.request homes per true with
  | (.now, s) =>
    let s := s.takeGrans homes per .cassette own
    { s with loads := s.loads.map fun x => if x.order = l.order then { x with staged := true } else x }
  | (.later, s) =>
    let w : Want := { cls := .cassette, owner := own, chans := homes, count := per }
    s.setMem { s.mem with wants := s.mem.wants ++ [w] }
  | (.no, s) => s.failLoad l.order 0x030D

/-- The spokes of failed channel `n` get new home channels (R245); every built loop is checked anew (R414). -/
def State.rehome (s : State) (n : Nat) : State :=
  let s := (s.homed n).foldl (fun s i => s.rehomeSpoke i) s
  let s := s.setMem { s.mem with rehome := s.mem.rehome.filter fun x => x.1 ≠ n }
  let s := (s.loads.filter fun l => l.op = 0x10 && !l.staged && l.entries ≠ [] && l.stage = .weights).foldl
    (fun s l => s.replaceGrans l) s
  let s := s.setMem { s.mem with wants := s.mem.wants.map fun w =>
    if w.cls = .state then
      { w with chans := ((s.str w.owner).map fun x => s.prtHomes x.prt).getD [] } else w }
  { s with prts := s.prts.map fun p => (p.1, { p.2 with recheck := true }) }

/-- An uncorrectable burst at offset `off` of channel `n` (Table 8-3), outside the system area. -/
def State.loseBurst (s : State) (n off : Nat) : State :=
  let g := (off - 0x0100_0000) / granBytes
  match s.allocAt n g with
  | none => s
  | some a =>
    match a.cls with
    | .cassette =>
      let c := s.chan n
      let s := s.setChan n (if c.bad.contains g then { c with withdrawn := g :: c.withdrawn } else { c with bad := g :: c.bad })
      s.slotLost (ownSlot a.owner) 0x0501
    | .state =>
      s.streams.foldl (fun s x => match x.2.ptr with
        | some o => if x.2.chans.contains n && o * 4096 ≤ off && off < (o + x.2.share) * 4096 then s.faultStr x.1 0x0806 else s
        | none => s) s
    | .kv =>
      s.seqs.foldl (fun s x =>
        let unit := (s.graphOf x.2.prt).pageUnit
        match x.2.pages.find? fun p => p.held && p.chan = n && p.gran = g && (off - 0x0100_0000) % granBytes / max 1 unit = p.idx with
        | some p => s.losePage x.1 p
        | none => s) s
    | .scratch => s.dropScratch a.owner

end Sys2Proof.Machine
end

