-- ==== Sys2Proof/Machine/Loads.lean ====
section
/-! DEFINITION. Image transfers (R261 to R283): placement, what arrives of a CAS_LOAD, ADP_LOAD or CAS_REPLACE and the load
checks, and what takes effect at the next tick edge. -/
namespace Sys2Proof.Machine
open Sys2Proof

/-! ### Starting a transfer (R265, R268) -/

/-- The transfer of an accepted command, before its data is read. -/
def Load.new (order op rider slot adapter owner : Nat) (pannier : Bool) (first count : Nat) (reload : Bool) : Load :=
  { order := order, op := op, rider := rider, slot := slot, adapter := adapter, pannier := pannier, first := first,
    count := count, stage := .waiting, bytes := [], entries := [], graphs := [], rows := 0, owner := owner, readyAt := 0,
    reload := reload, staged := false, cut := false }

/-- The transfer of an acceptance order. -/
def State.load (s : State) (order : Nat) : Option Load := s.loads.find? fun l => l.order = order

/-- The state with a transfer changed. -/
def State.setLoad (s : State) (l : Load) : State :=
  { s with loads := s.loads.map fun x => if x.order = l.order then l else x }

/-- Address and length in bytes of a command's data in 4 KiB units. -/
def State.imageAt (s : State) (order : Nat) : Nat × Nat :=
  match s.cmd order with
  | none => (0, 0)
  | some c => (c.desc.dataAddr, c.desc.dataLen * 4096)

/-- The host die begins to read an image: its 256-byte header. -/
def State.startLoad (s : State) (l : Load) : State :=
  (s.setLoad { l with stage := .header }).dmaRead l.rider l.rider (s.imageAt l.order).1 256

/-! ### Header -/

/-- The 256-byte header has arrived: checks 1 to 4 of Table 9-4. -/
def State.headerArrived (s : State) (order : Nat) (bytes : List Byte) : State :=
  match s.load order with
  | none => s
  | some l =>
    let s := s.readEnds l.rider
    let (addr, len) := s.imageAt order
    let b := slice bytes 0 256
    let keys := Config.cassetteKey (BitVec.ofNat 32 (fwVersion s.boot.image))
    match headerCheck b l.op (len / 4096) s.part.sigPolicy s.part.sealFuse keys with
    | some code => s.failLoad order code
    | none => (s.setLoad { l with stage := .tables, bytes := b }).dmaRead l.rider l.rider (addr + 256) (len - 256)

/-! ### Placement (R225, R266, R451) -/

/-- Bytes of the layers that a member of a group writes, or all of them (R451). -/
def State.shareOf (s : State) (slot : Nat) (l : List LayerEntry) : Nat :=
  let sum (l : List LayerEntry) : Nat := l.foldl (fun a e => a + e.len 0) 0
  if !s.grouped slot then sum l
  else if s.fld (Reg.TAN_GROUP slot) 1 2 = 0 then sum ((l.drop (s.fld (Reg.TAN_GROUP slot) 8 11)).take (s.fld (Reg.TAN_GROUP slot) 19 11))
  else ceilDiv (sum l) (max 1 (s.groupSize slot))

/-- The binding of a group is usable by this chip (R450): a split that exists, this chip a member, and layers within the
cassette. -/
def State.groupOk (s : State) (slot layers : Nat) : Bool :=
  !s.grouped slot || (s.fld (Reg.TAN_GROUP slot) 1 2 ≠ 3 && (s.groupMask slot).testBit s.chip && 2 ≤ s.groupSize slot
    && (s.fld (Reg.TAN_GROUP slot) 1 2 ≠ 0
        || s.fld (Reg.TAN_GROUP slot) 8 11 + s.fld (Reg.TAN_GROUP slot) 19 11 ≤ layers))

/-- Granules on each home channel of a row set for a size. -/
def State.perChannel (s : State) (rows size : Nat) : Nat :=
  ceilDiv (ceilDiv size (max 1 (s.homesOf rows).length)) granBytes

/-- A run of `n` rows from row `r`. -/
def rowRun (r n : Nat) : Nat := (2 ^ n - 1) * 2 ^ r

/-- Row sets to try for a placement word (R266, Table 10-6): the fixed mask, or the runs of the count's length. -/
def State.rowSets (s : State) (hint : Nat) : List Nat :=
  let n := bitsOf hint 0 8
  let sets := if hint.testBit 31 then [n] else (List.range (9 - n)).map fun r => rowRun r n
  sets.filter fun m => (maskList 8 m).all (fun r => !s.rowLost r)

/-- Place a load's granules: at once, or once pages have been spilled; the row set, or none where placement fails. -/
def State.placeOn (s : State) (l : Load) (size : Nat) : List Nat → Option State
  | [] => none
  | rows :: t =>
    let homes := s.homesOf rows
    let k := s.perChannel rows size
    let fits := homes ≠ [] && homes.all fun n => (s.chan n).survives
    match if fits then s.request homes k true else (.no, s) with
    | (.now, s) => some ((s.takeGrans homes k .cassette l.owner).setLoad { l with rows := rows, staged := true, stage := .weights })
    | (.later, s) =>
      let w : Want := { cls := .cassette, owner := l.owner, chans := homes, count := k }
      some ((s.setMem { s.mem with wants := s.mem.wants ++ [w] }).setLoad { l with rows := rows, stage := .weights })
    | (.no, s) => State.placeOn s l size t

/-- The tables and graphs have arrived: checks 5 and 6 of Table 9-4 (R263, R450). -/
def State.tablesArrived (s : State) (order : Nat) (bytes : List Byte) : State :=
  match s.load order with
  | none => s
  | some l =>
    let b := l.bytes ++ bytes
    let x := s.slotD l.slot
    let t := imgTable b
    let base := x.layers.map Layer.entry
    let kept := t.filter fun e => !(e.cold && (if l.op = 0x12 then x.pannier else l.pannier))
    let l := { l with bytes := b, entries := t, graphs := (imgGraphsOf b).map Prod.fst }
    let agrees := if l.op = 0x10 then !l.reload || imgLayout b = x.layout
      else agreesWith b x.layout x.gears base l.first l.count
    if !tablesOk b then s.failLoad order 0x0605
    else if !agrees then s.failLoad order 0x0606
    else if l.op = 0x10 && !s.groupOk l.slot t.length then s.failLoad order 0x0B08
    else
      let size := if l.op = 0x10 then s.shareOf l.slot kept else kept.foldl (fun a e => a + e.len 0) 0
      let s := if l.reload then s.freeOwner .cassette (ownBase l.slot) else s
      let sets := if l.op ≠ 0x10 || l.reload then [x.rows] else s.rowSets (((imgGraphsOf b).map fun g => g.1.placement).headD 0)
      match s.placeOn l size sets with
      | some s => s.modSlot l.slot fun y => if l.op = 0x10 then { y with rows := ((s.load order).map Load.rows).getD 0 } else y
      | none => s.failLoad order 0x0607

/-! ### The last byte -/

/-- Spokes of a row set. -/
def rowsSpokes (rows : Nat) : Nat := (rowSpokes rows).length

/-- An adapter becomes usable (R274); the index is the command's result. -/
def State.finishAdapter (s : State) (l : Load) : State :=
  let a : Adapter := { owner := l.rider, version := imgModel l.bytes, layers := imgLayers l.bytes false }
  let s := s.modSlot l.slot fun x => { x with adapters := Tab.put x.adapters l.adapter a }
  let s := { s with loads := s.loads.filter fun x => x.order ≠ l.order }
  ((s.lastResult l.slot 0x13 0).raiseBit (0x030 + l.slot) 0).decide l.order 0 l.adapter

/-- Time that lowering takes, in µs: the most that R307 allows (DESIGN CHOICE, assumption 38). -/
def lowerUs (b : List Byte) : Nat := imgGraphs b * (200 + 40 * imgEntries b)

/-- The last byte has arrived: checks 7 and 8 of Table 9-4; what passes takes effect at the first tick edge after lowering. -/
def State.lastByte (s : State) (order : Nat) (bytes : List Byte) : State :=
  match s.load order with
  | none => s
  | some l =>
    let s := s.readEnds l.rider
    let b := l.bytes ++ bytes
    if !digestOk b then s.failLoad order 0x0608
    else
      let l := { l with bytes := b, graphs := (imgGraphsOf b).map Prod.fst }
      match if l.op = 0x10 then lowerAll (imgGears b) (imgGraphVersion b) (rowsSpokes l.rows) (imgGraphs b) l.entries 0 []
          (imgGraphsOf b) else none with
      | some d => s.failLoad order 0x0609 d
      | none =>
        if l.op = 0x13 then s.finishAdapter l
        else
          let us := if l.op = 0x10 then lowerUs b else 0
          s.setLoad { l with stage := .ready, readyAt := s.now + us }

/-! ### At a tick edge -/

/-- Places of layers in the bytes of an owner number, in order (R281). -/
def placesOf (owner : Nat) : Nat → List (Nat × Layer) → List (Nat × Nat × Nat × Nat)
  | _, [] => []
  | o, (i, y) :: t =>
    if y.inPannier then placesOf owner o t
    else (i, owner, o, o + y.entry.len 0) :: placesOf owner (o + y.entry.len 0) t

/-- Layers with their numbers from `i`. -/
def numbered (i : Nat) (l : List Layer) : List (Nat × Layer) := (List.range l.length).zipWith (fun j y => (i + j, y)) l

/-- A loaded cassette is RESIDENT (R265), its FINAL decided with the slot's handle; partitions that waited for its reload are
READY and are checked anew (R246, R404). -/
def State.finishLoad (s : State) (l : Load) : State :=
  let b := l.bytes
  let layers := imgLayers b l.pannier
  let us := l.readyAt - ((s.cmd l.order).map Cmd.at_).getD s.now
  let s := s.modSlot l.slot fun x =>
    { x with st := .resident, owner := l.rider, gears := imgGears b, upReset := (imgFlags b).testBit 0, rows := l.rows,
             places := placesOf l.owner 0 (numbered 0 layers), pannier := l.pannier, isUnsigned := imgKey b = 0xFF,
             version := imgModel b, layout := imgLayout b, layers := layers, graphs := l.graphs, adapters := [],
             loadUs := us % 2 ^ 24 }
  let s := { s with loads := s.loads.filter fun x => x.order ≠ l.order }
  let s := (s.lastResult l.slot 0x10 0).raiseBit (0x030 + l.slot) 0
  let s := s.log 1 2 0x8003 l.slot (lowerUs b) l.graphs.length
  s.decide l.order 0 (0x4000_0000 + l.slot)

/-- A granule of a slot's base or patches holds a byte of a layer (R281): granule `j` of an owner number holds a part of its
bytes for `n` channels. -/
def granUsed (places : List (Nat × Nat × Nat × Nat)) (owner j n : Nat) : Bool :=
  places.any fun p => p.2.1 = owner && p.2.2.1 < (j + 1) * granBytes * n && j * granBytes * n < p.2.2.2

/-- Free the granules of a slot that hold no layer (R281). -/
def State.freeUnused (s : State) (n : Nat) : State :=
  let x := s.slotD n
  let chans (o : Nat) : Nat := ((s.mem.allocs.filter fun a => a.cls = .cassette && a.owner = o).map Alloc.chan).eraseDups.length
  s.setMem { s.mem with allocs := s.mem.allocs.filter fun a =>
    !(a.cls = .cassette && ownsBase n a.owner) || granUsed x.places a.owner a.idx (chans a.owner) }

/-- The switch to staged layers (R279, R281). -/
def State.finishReplace (s : State) (l : Load) : State :=
  let x := s.slotD l.slot
  let new := imgLayers l.bytes x.pannier
  let layers := x.layers.take l.first ++ new ++ x.layers.drop (l.first + l.count)
  let kept := x.places.filter fun p => p.1 < l.first || l.first + l.count ≤ p.1
  let s := s.modSlot l.slot fun x =>
    { x with st := .resident, layers := layers, version := imgModel l.bytes,
             places := kept ++ placesOf l.owner 0 (numbered l.first new) }
  let s := ({ s with loads := s.loads.filter fun y => y.order ≠ l.order }).freeUnused l.slot
  let s := (s.lastResult l.slot 0x12 0).count (Reg.CAS_REPLACES l.slot) 1
  (s.raiseBit (0x030 + l.slot) 2).decide l.order 0 0

/-- Loads and replacements that have passed every check take effect (R265, R279), evictions and unloads with them (R275,
R282). -/
def State.finishLoads (s : State) : State :=
  let s := s.loads.foldl (fun s l =>
    if l.stage = .ready && l.readyAt ≤ s.now then
      (if l.op = 0x10 then s.finishLoad l else if l.op = 0x12 then s.finishReplace l else s)
    else s) s
  s.slots.foldl (fun s p =>
    let n := p.1
    let s := p.2.unloads.foldl (fun s u =>
      let s := (s.freeOwner .cassette (ownAdapter n u.1)).modSlot n fun x => { x with adapters := Tab.erase x.adapters u.1 }
      (s.lastResult n 0x14 0).decide u.2 0 0) s
    let s := s.modSlot n fun x => { x with unloads := [] }
    if p.2.st = .evicting then
      let s := (s.loads.filter fun l => l.slot = n).foldl (fun s l => s.failLoad l.order 0x060A) s
      let s := s.setMem { s.mem with allocs := s.mem.allocs.filter fun a => !(a.cls = .cassette && ownSlot a.owner = n) }
      let s := ((s.emptySlot n).lastResult n 0x11 0).raiseBit (0x030 + n) 4
      s.decide p.2.evictOrder 0 0
    else s) s

/-! ### Registers -/

/-- The state codes of Table 9-1. -/
def SlotState.code : SlotState → Nat
  | .empty => 0 | .loading => 1 | .resident => 2 | .replacing => 3 | .needsReload => 4 | .evicting => 5

/-- Granules of a slot's cassette, and the most on any one channel (CAS_GRANULES). -/
def State.slotGrans (s : State) (n : Nat) : Nat × Nat :=
  let l := s.mem.allocs.filter fun a => a.cls = .cassette && ownsBase n a.owner
  (l.length, (List.range s.chanCount).foldl (fun m c => max m (l.filter fun a => a.chan = c).length) 0)

/-- Granules of a slot's adapters (CAS_ADP_GRANULES). -/
def State.slotAdpGrans (s : State) (n : Nat) : Nat :=
  (s.mem.allocs.filter fun a => a.cls = .cassette && ownSlot a.owner = n && !ownsBase n a.owner).length

/-- Partitions built on a slot, and open streams and sequences on it (CAS_USERS). -/
def State.slotUsers (s : State) (n : Nat) : Nat × Nat :=
  let ps := s.prts.filter fun p => p.2.slot = n
  (ps.length, ps.foldl (fun a p => a + (s.strOf p.1).length + (s.seqOf p.1).length) 0)

end Sys2Proof.Machine
end

