-- ==== Sys2Proof/Machine/Admission.lean ====
section
/-! DEFINITION. Admission (R411 to R414): budgets, demands, starts, the check of a candidate and the repeated check of built
partitions; the pannier check of a partition with cold layers (R238, R239). -/
namespace Sys2Proof.Machine
open Sys2Proof

/-! ### Terms -/

/-- Stacks that hold a home channel of partition `p`. -/
def State.prtStacks (s : State) (p : Nat) : List Nat := ((s.prtHomes p).map stackOf).eraseDups

/-- The stroke budget of a partition (R83). -/
def budgetUs (len w h : Nat) : Nat := (len - 100 - w) * (16 - h) / 16

/-- The least of a budget and, for a group's leader, those of the members behind its ports, from the W and h that their TICK flits
report, or at a headwind that is given (R453). -/
def State.groupLeast (s : State) (slot : Nat) (h : Option Nat) (own : Nat) : Nat :=
  if s.grouped slot && s.leads slot then
    (s.groupPorts slot).foldl (fun a p => match Tab.find s.tan.peerHW p with
      | some (hp, w) => min a (budgetUs (tickUs s.tick.length) w (h.getD hp))
      | none => a) own
  else own

/-- The admission budget A_p in µs (R411, R453). -/
def State.admitBudget (s : State) (p : Nat) : Nat :=
  let h := s.fld Reg.PWR_HEADWIND_CTL 0 4
  s.groupLeast (s.slotOf p) (some h) (budgetUs (tickUs s.tick.length) (80 * (s.prtStacks p).length + 20) h)

/-- Greatest key-value work of a sequence at `n` positions: every row of its windows. -/
def worstItem (h n : Nat) : StrokeItem :=
  { handle := h, role := .input, base := 2 ^ 20, tokens := List.replicate n (0, 0), positions := n, turn := 0 }

/-- The units of streams in turn, as many in each stroke as max_positions holds; `fuel` bounds the strokes. -/
def splitUnits (g : Graph) : Nat → List Nat → List (List StrokeItem)
  | 0, _ => []
  | fuel + 1, l =>
    let now := fitItems g.maxPos (l.map (unitItem g))
    if now = [] then [] else now :: splitUnits g fuel (l.drop now.length)

/-- The demand D_p in µs (R412, Table 14-3), with the objects for which `extra` holds beside the admitted ones. Where
positions are not known, a sequence counts every row of its windows. -/
def State.demand (s : State) (extra : Owner → Bool) (p : Nat) : Nat :=
  let g := s.graphOf p
  let gear := s.gearsOf p - 1
  let point := s.fld Reg.CLK_SPOKE_CTL 0 2
  let ps :=
    if g.kind = 0 then
      let l := ((s.strOf p).filter fun x => !s.candidate x.2.own || extra x.2.own).map Prod.fst
      let strokes := splitUnits g l.length l
      g.strokesOwed (tickUs s.tick.length) * strokes.foldl (fun a i => a + s.strokePs p gear point i) 0
    else
      let l := ((s.seqOf p).filter fun x => x.2.st ≠ .ending && (!s.candidate x.2.own || extra x.2.own)).map fun x => seqHandle x.1
      if l = [] then 0
      else
        let one := l.map fun h => worstItem h 1
        let full := match l with
          | [] => []
          | h :: t => worstItem h (g.maxPos - t.length) :: t.map fun h => worstItem h 1
        s.strokePs p gear point full + max 1 (s.fld (Reg.PRT_CTL p) 0 6) * s.strokePs p gear point one
  ceilDiv ps 1_000_000

/-- Producers' handles of the members of partition `p`. -/
def State.producersOf (s : State) (extra : Owner → Bool) (p : Nat) : List Nat :=
  (((s.strOf p).filter fun x => x.2.source = 0xFF && (!s.candidate x.2.own || extra x.2.own)).map fun x => x.2.producer)
    ++ ((s.seqOf p).filter fun x => x.2.producer ≠ 0 && (!s.candidate x.2.own || extra x.2.own)).map fun x => x.2.producer

/-- Partitions that feed partition `p` by handoff. -/
def State.feeds (s : State) (extra : Owner → Bool) (p : Nat) : List Nat :=
  (((s.producersOf extra p).filterMap s.prtOfHandle).filter fun q => q ≠ p).eraseDups

/-- E + D that a peer reported for a producer on another chip, plus 20 µs (R459). -/
def State.remoteEnd (s : State) (l : List Nat) : Nat :=
  l.foldl (fun a h =>
    if h / 2 ^ 28 = 0xF then (s.tan.remote.filter fun e => e.1 / 2 ^ 32 = h % 2 ^ 28).foldl (fun a e => max a (e.2 + 20)) a else a) 0

/-- E_p + D_p (R413); `fuel` bounds the length of a chain of loops. -/
def State.endUs (s : State) (extra : Owner → Bool) : Nat → Nat → Nat
  | 0, p => s.demand extra p
  | fuel + 1, p =>
    let start := (s.feeds extra p).foldl (fun a q => max a (State.endUs s extra fuel q)) (s.remoteEnd (s.producersOf extra p))
    start + s.demand extra p

/-- Loops that loop `p` feeds, directly or through others, itself first. -/
def State.fedBy (s : State) (extra : Owner → Bool) : Nat → Nat → List Nat
  | 0, p => [p]
  | fuel + 1, p =>
    (p :: ((s.prts.map Prod.fst).filter fun q => (s.feeds extra q).contains p).flatMap fun q => State.fedBy s extra fuel q).eraseDups

/-- Loops upstream of loop `p`, itself first. -/
def State.feedersOf (s : State) (extra : Owner → Bool) : Nat → Nat → List Nat
  | 0, p => [p]
  | fuel + 1, p => (p :: (s.feeds extra p).flatMap fun q => State.feedersOf s extra fuel q).eraseDups

/-- Loops in a chain: at most the eight partitions. -/
def chain : Nat := 8

/-! ### The check -/

/-- The last check's figures stand in PRT_ADMIT. -/
def State.noteCheck (s : State) (extra : Owner → Bool) (p : Nat) : State :=
  s.modPrt p fun x => { x with admitEnd := min 0xFFFF (s.endUs extra chain p), admitBud := s.admitBudget p }

/-- Loop `p` fits (R413). -/
def State.loopFits (s : State) (extra : Owner → Bool) (p : Nat) : Bool := s.endUs extra chain p ≤ s.admitBudget p

/-- A loop takes no candidate: over-admitted, or its pannier check fails (R239, R414). -/
def State.closedLoop (s : State) (p : Nat) : Bool :=
  match s.prt p with
  | none => false
  | some x => x.overAdm || (x.panUsed && !x.panOk)

/-- The E + D of a loop goes to the peers that hold consumers of its members (R459). -/
def State.reportEnds (s : State) (p : Nat) : State :=
  s.tan.away.foldl (fun s a =>
    if s.prtOfHandle a.2.1 = some p then
      s.tanSend a.2.2.1 (.report 0xFF a.2.1 (((s.prt p).map Prt.admitEnd).getD 0)) else s) s

/-- Check 11 for the object that command `o` opens on partition `p` (R413): it passes if its loop and every loop it feeds fit
with it. -/
def State.fitCheck (s : State) (o : Owner) (p : Nat) : Bool × State :=
  let extra (x : Owner) : Bool := x.order = o.order
  let fed := s.fedBy extra chain p
  let related := fed ++ s.feedersOf extra chain p
  let s' := fed.foldl (fun s q => s.noteCheck extra q) s
  let over_ := related.any fun q => ((s.prt q).map Prt.overAdm).getD false
  (fed.all (s.loopFits extra) && !over_ && !s.closedLoop p, fed.foldl (fun s q => s.reportEnds q) s')

/-- The repeated check of one partition (R414). -/
def State.recheckOne (s : State) (p : Nat) : State :=
  match s.prt p with
  | none => s
  | some x =>
    let none_ (_ : Owner) : Bool := false
    if !x.recheck || x.st = .building || x.st = .parked || x.st = .discarding then s
    else
      let s := ((s.noteCheck none_ p).reportEnds p).modPrt p fun x => { x with recheck := false }
      if s.loopFits none_ p then s.modPrt p fun x => { x with overAdm := false }
      else ((s.modPrt p fun x => { x with overAdm := true }).recordErrAt (0x028 + p) 0x0A03 0x11).raiseBit (0x028 + p) 4

/-- The repeated checks due at a tick edge. -/
def State.recheckAll (s : State) : State := (s.prts.map Prod.fst).foldl (fun s p => s.recheckOne p) s

/-- Every built partition is to be checked anew at the next tick edge. -/
def State.wantRecheck (s : State) : State := { s with prts := s.prts.map fun p => (p.1, { p.2 with recheck := true }) }

/-- A member has left: its partition is checked anew where it is over-admitted (R414). -/
def State.departed (s : State) (p : Nat) : State :=
  s.modPrt p fun x => { x with recheck := x.recheck || x.overAdm }

/-! ### The pannier check (R238, R239) -/

/-- Every cold layer of a slot passes at every gear, on a row set, with a graph's positions per pass. -/
def State.pannierFits (s : State) (rows gears : Nat) (layers : List Layer) (g : Graph) (pass : Nat → Nat) : Bool :=
  let spokes := max 1 (rowSpokes rows).length
  let mhz := pointMHz (s.fld Reg.CLK_SPOKE_CTL 0 2)
  g.passOrder.all fun l => match layers[l]? with
    | none => true
    | some y => !y.inPannier || (List.range gears).all fun gear =>
        s.fld Reg.LNK_STATUS 1 5 ≠ 0 && s.linkPs (y.entry.len gear) * (spokes * formatRate y.entry.format * mhz)
          ≤ pass l * g.layerMacs l gear * 1_000_000

/-- Positions per pass that a graph declares for a layer: the largest of its tensors' (R238, Table 10-2). -/
def Graph.passPositions (g : Graph) (l : Nat) : Nat := (g.layerList l).foldl (fun a t => max a t.pass) 0

/-- A partition's cold layers pass (STK_PAN_STATUS.ok). -/
def State.pannierOk (s : State) (p : Nat) : Bool :=
  s.pannierFits (((s.prt p).map Prt.rows).getD 0) (s.gearsOf p) (s.layersOf p) (s.graphOf p) (s.graphOf p).passPositions

/-- The pannier check of every partition with cold layers, repeated (R239); an ok bit that clears is raised (R249). -/
def State.repannier (s : State) : State :=
  s.prts.foldl (fun s p =>
    if p.2.panUsed then
      let ok := s.pannierOk p.1
      let s := s.modPrt p.1 fun x => { x with panOk := ok }
      if p.2.panOk && !ok then s.raiseBit 0x050 3 else s
    else s) s

end Sys2Proof.Machine
end

