-- ==== Sys2Proof/Machine/Tandem.lean ====
section
/-! DEFINITION. Tandem operation (R433 to R460): training and narrowing of a port, flits received, pairing, tick alignment, the
control messages of groups, and migration. -/
namespace Sys2Proof.Machine
open Sys2Proof

/-! ### Links that leave UP (R446, R455, R458) -/

/-- Codes of Table 15-8. -/
def tanNoPartner : Nat := 0x0B01
def tanMismatch : Nat := 0x0B02
def tanNotPaired : Nat := 0x0B03
def tanNotLocked : Nat := 0x0B04
def tanNoTarget : Nat := 0x0B05
def tanLate : Nat := 0x0B06
def tanLinkLost : Nat := 0x0B07
def tanGroupReset : Nat := 0x0B09

/-- A migration out ends without success (R458): the command gets the code, and the object stays and joins strokes again. -/
def State.failMigration (s : State) (m : MigOut) (code : Nat) : State :=
  let k := handleIdx m.handle
  let s := { s with tan := { s.tan with migOut := s.tan.migOut.filter fun x => x.order ≠ m.order } }
  let s := if m.handle / 2 ^ 28 = 1 then s.modStr k fun x => { x with migrating := false }
    else s.modSeq k fun x => { x with migrating := false }
  (s.count Reg.TAN_MIG_FAILS 1).decide m.order code 0

/-- As `failMigration`, telling the peer (R458). -/
def State.abandonMigration (s : State) (m : MigOut) (code : Nat) : State :=
  let s := if m.started then (s.tanSend m.port (.migAbandon code)).trace 25 m.port 3 m.handle else s
  s.failMigration m code

/-- A migration in is given up: the object that was to be is gone. -/
def State.dropMigIn (s : State) (m : MigIn) : State :=
  let s := { s with tan := { s.tan with migIn := s.tan.migIn.filter fun x => x ≠ m } }
  if m.handle / 2 ^ 28 = 1 then s.freeStr (handleIdx m.handle) else s.freeSeq (handleIdx m.handle)

/-- The groups over a port are reset on this chip's account (R455), and wait for links and alignment. -/
def State.resetGroups (s : State) (code : Nat) (p : State → Nat → Bool) : State :=
  s.prts.foldl (fun s x =>
    if s.grouped x.2.slot && p s x.2.slot && (x.2.st = .ready || x.2.st = .resetting) then
      ((s.jobFault x.1 code).recordErrAt 0x022 code 0x11).modPrt x.1 fun y => { y with linkWait := true }
    else s) s

/-- A port that was UP is so no more: its groups reset, its migrations end. -/
def State.linkLost (s : State) (p : Nat) : State :=
  let peer := (s.tport p).peerChip
  let s := s.raiseBit (0x020 + p) 1
  let s := s.resetGroups tanLinkLost fun s slot => (s.groupMask slot).testBit peer
  let s := (s.tan.migOut.filter fun m => m.port = p).foldl (fun s m => s.failMigration m tanLinkLost) s
  (s.tan.migIn.filter fun m => m.port = p).foldl (fun s m => s.dropMigIn m) s

/-- A port goes to a state in which it carries nothing. -/
def State.portDown (s : State) (p : Nat) (st : PortState) : State :=
  let was := s.tport p
  let lost := was.st = .up || (was.st = .degrading && was.willUp)
  let s := (s.setTport p { TanPort.zero with root := 0xFF }).portTo p st
  if lost then s.linkLost p else s

/-- Every port goes to OFF (R436). -/
def State.portsOff (s : State) : State :=
  [0, 1].foldl (fun s p => if (s.tport p).st = .off then s else s.portDown p .off) s

/-- A port looks for a partner (R436). -/
def State.detect (s : State) (p : Nat) : State := s.portDown p .detect

/-! ### Training (R437, R438) -/

/-- Width code of TAN_PORT_CTL.max_width as lanes. -/
def State.maxWidth (s : State) (p : Nat) : Nat :=
  match s.fld (Reg.TAN_PORT_CTL p) 1 2 with
  | 0 => 4
  | 1 => 2
  | _ => 1

/-- The pairing record of a port. -/
def State.record (s : State) (p : Nat) : Option TanRecord := Tab.find s.part.tanRecords p

/-- The lanes of a width among those that hold lock. -/
def lanesFor (locked w : Nat) : Option Nat :=
  if w = 4 then (if locked = 0xF then some 0xF else none)
  else if w = 2 then
    (if Nat.land locked 3 = 3 then some 3 else if Nat.land locked 0xC = 0xC then some 0xC else none)
  else ((maskList 4 locked).head?).map fun l => 2 ^ l

/-- The HELLO that this chip sends (Table 15-4). -/
def State.helloOf (s : State) (p : Nat) : TanMsg :=
  .hello s.part.dieId s.chip p (s.maxWidth p) 8 56 s.tick.length (((s.record p).map TanRecord.peerId).getD 0)

/-- The widest lanes for a port. -/
def widest (locked top : Nat) : Option (Nat × Nat) :=
  ([4, 2, 1].filter fun w => w ≤ top).findSome? fun w => (lanesFor locked w).map fun l => (w, l)

/-- Alignment is found on lanes that hold bit lock: in TRAIN the HELLO goes out; after a narrowing the port carries flits again
and sends the unacknowledged ones anew. -/
def State.aligned (s : State) (p lanes : Nat) : State :=
  let x := s.tport p
  if x.st = .train then
    let (c, s) := s.fresh
    (s.setTport p { x with locked := lanes, aligned := true, rttNs := Config.roundTrip c % 65536 }).tanSend p (s.helloOf p)
  else
    let x := { x with locked := lanes, again := x.unacked.map Prod.fst, ackAt := s.now, replayAt := none, replays := 0 }
    ((s.setTport p { x with willUp := false }).portTo p (if x.willUp then .up else .linked)).pump p

/-- The partner's HELLO has arrived (R437). -/
def State.hello (s : State) (p id chip peerPort top credits0 credits1 lenCode recorded : Nat) : State :=
  let x := s.tport p
  match widest x.locked (min top (s.maxWidth p)) with
  | none => (s.portDown p .failed).raiseBit (0x020 + p) 3
  | some (w, lanes) =>
    let known := recorded = s.part.dieId && ((s.record p).map TanRecord.peerId) = some id
    let x := { x with width := w, lanes := lanes, peerId := id, peerChip := chip, peerPort := peerPort, credit0 := credits0,
                      credit1 := credits1, willUp := known }
    let s := { s.setTport p x with tan := { s.tan with leaderLen := if s.fld Reg.TAN_TICK_CTL 1 1 = p then lenCode else s.tan.leaderLen,
                                                       ports := (s.setTport p x).tan.ports } }
    (s.portTo p .linked).pump p

/-- Narrowing (R438): the next narrower width, or FAILED at x1. -/
def State.narrow (s : State) (p locked : Nat) : State :=
  let x := s.tport p
  let next := if x.width = 4 then (if Nat.land locked 3 = 3 then some (2, 3) else if Nat.land locked 0xC = 0xC then some (2, 0xC)
      else (lanesFor locked 1).map fun l => (1, l))
    else if x.width = 2 then (lanesFor (Nat.land locked x.lanes) 1).map fun l => (1, l)
    else none
  let s := (s.count (Reg.TAN_DEGRADES p) 1).raiseBit (0x020 + p) 2
  match next with
  | none => (s.portDown p .failed).raiseBit (0x020 + p) 3
  | some (w, lanes) =>
    let s := s.setTport p { x with width := w, lanes := lanes, locked := locked, willUp := x.st = .up }
    (s.portTo p .degrading).tanSend p (.width w lanes)

/-! ### Flits received (R439 to R442) -/

/-- A flit passes its check and has a type of Table 15-3. -/
def flitOk (f : List Byte) : Bool := f.length = 256 && crc32 (f.take 0xFC) = leAt f 0xFC 4 && leAt f 0 1 ≤ 5

/-- A flit is discarded: the first after an accepted one is answered with nak. -/
def State.discardFlit (s : State) (p : Nat) : State :=
  if (s.tport p).nakOpen then s else (s.modTport p fun x => { x with nakOpen := true }).tanSend p .null

/-- Replay, and narrowing at the replay limit (R438, R441). -/
def State.replayStep (s : State) (p : Nat) : State :=
  if (s.tport p).unacked = [] then s
  else
    let s := s.replay p
    if 8 ≤ (s.tport p).replays then s.narrow p (s.tport p).locked else s

/-- The link layer takes a flit: its check, its acknowledgement and credits, and its sequence number. What its message does is
the message's own command. -/
def State.flitReceive (s : State) (p : Nat) (f : List Byte) : State :=
  if !flitOk f then (s.count (Reg.TAN_CRC_ERRS p) 1).discardFlit p
  else
    let s := s.acked p (leAt f 4 2 % 4096)
    let s := s.modTport p fun x => { x with credit0 := x.credit0 + leAt f 6 1, credit1 := x.credit1 + leAt f 7 1 }
    let s := if (leAt f 1 1).testBit 0 then s.replayStep p else s.pump p
    let type := leAt f 0 1
    if type = 0 || type = 2 then s
    else if leAt f 2 2 % 4096 = (s.tport p).rxNext then
      (s.modTport p fun x => { x with rxNext := (x.rxNext + 1) % 4096, nakOpen := false }).count48 (Reg.TAN_RX_FLITS_LO p) 1
    else s.discardFlit p

/-! ### Pairing (R445, R446) -/

/-- A record is written or erased in the part's store. -/
def State.setRecord (s : State) (p : Nat) (r : Option TanRecord) : State :=
  let l := match r with
    | some x => Tab.put s.part.tanRecords p x
    | none => Tab.erase s.part.tanRecords p
  { s with part := { s.part with tanRecords := l } }

/-- A pairing ends with a failure. -/
def State.failPairing (s : State) (x : Pairing) (code : Nat) : State :=
  ({ s with tan := { s.tan with pairing := s.tan.pairing.filter fun y => y ≠ x } }).decide x.order code 0

/-- Both requests are known: they match and the record is written, or the pairing fails (R445). -/
def State.matchPair (s : State) (p : Nat) : State :=
  match s.tan.pairing.find? fun x => x.port = p && !x.agreed, (s.tport p).req with
  | some x, some (own, peer) =>
    let t := s.tport p
    let s := s.setTport p { t with req := none }
    if own = x.chip && peer = s.chip && own ≠ s.chip && t.peerPort = 1 - p && t.peerId ≠ s.part.dieId then
      let s := s.setRecord p (some { peerId := t.peerId, peerChip := own, ownChip := s.chip })
      let s := { s with tan := { s.tan with pairing := s.tan.pairing.map fun y => if y = x then { y with agreed := true } else y } }
      s.tanSend p (.pairAck s.chip)
    else s.failPairing x tanMismatch
  | _, _ => s

/-- A PAIR_REQ arrives. -/
def State.pairReqArrived (s : State) (p own peer : Nat) : State :=
  (s.modTport p fun x => { x with req := some (own, peer) }).matchPair p

/-- A PAIR_ACK arrives: the port is UP at the next tick edge. -/
def State.pairAckArrived (s : State) (p : Nat) : State :=
  if s.tan.pairing.any fun x => x.port = p && x.agreed then s.modTport p fun x => { x with willUp := true } else s

/-- TAN_PORT_CTL.unpair (R446). -/
def State.unpair (s : State) (p : Nat) : State :=
  let s := s.setRecord p none
  let x := s.tport p
  if x.st = .up then ((s.setTport p { x with willUp := false }).portTo p .linked).linkLost p
  else s.modTport p fun x => { x with willUp := false }

/-- Ports that become UP at a tick edge (R437, R445). -/
def State.portsUp (s : State) : State :=
  [0, 1].foldl (fun s p =>
    let x := s.tport p
    if x.willUp && (x.st = .linked || x.st = .up) then
      let s := (s.setTport p { x with willUp := false }).portTo p .up
      let s := if x.st = .up then s else s.raiseBit (0x020 + p) 0
      (s.tan.pairing.filter fun y => y.port = p && y.agreed).foldl (fun s y => s.failPairing y 0) s
    else s) s

/-! ### Tick alignment (R447 to R449) -/

/-- A REF period in ps (R18): 10 ns at 100 MHz, 26.042 ns at 38.4 MHz. -/
def State.refPs (s : State) : Nat := if s.boot.refSel then 10_000 else 26_042

/-- A skew as the trim of the next tick: whole REF periods, at most 32. -/
def State.trimOf (s : State) (skew : Int) : Int :=
  let p : Int := s.refPs
  let n := (skew * 1000 + (if 0 ≤ skew then p / 2 else -(p / 2))).tdiv p
  max (-32) (min 32 n) * p / 1000

/-- The leader's TICK flit (R448): the skew is measured and the next tick trimmed. -/
def State.followTick (s : State) (number : DWord) (lenCode root : Nat) (skew : Int) : State :=
  let good := -1000 ≤ skew && skew ≤ 1000
  let first := !s.tan.first && !good
  let trim := if first then skew else s.trimOf skew
  let s := { s with tan := { s.tan with got := true, first := true, missing := 0, skewNs := skew, offset := number - s.tick.number,
                                        leaderRoot := root, leaderLen := lenCode, good := if good then s.tan.good + 1 else 0 },
                    tick := { s.tick with trimNs := trim } }
  if first || trim = 0 then s else s.count Reg.TAN_TICK_TRIMS 1

/-- A TICK flit arrives on a port (R447). -/
def State.tickFlit (s : State) (p : Nat) (number : DWord) (lenCode h w root : Nat) (skew : Int) : State :=
  let s := s.modTport p fun x => { x with root := root }
  let s := { s with tan := { s.tan with peerHW := Tab.put s.tan.peerHW p (h, w) } }
  if s.bit Reg.TAN_TICK_CTL 0 && s.fld Reg.TAN_TICK_CTL 1 1 = p then s.followTick number lenCode root skew else s

/-- Lock is due (R448): eight edges in a row within 1 µs. -/
def State.lockDue (s : State) : Bool := s.bit Reg.TAN_TICK_CTL 0 && !s.tan.locked && 8 ≤ s.tan.good

/-- The chip locks, or is refused where its tick source is not REF. -/
def State.lockNow (s : State) : State :=
  if s.tick.source = 0 && !s.tick.fallback then
    ({ s with tan := { s.tan with locked := true } }).raiseBit 0x022 0
  else ({ s with tan := { s.tan with good := 0 } }).recordErrAt 0x022 tanNotLocked 0x11

/-- Lock is to be lost (R448): for a skew above 4 µs (0), two missing TICK flits (1), or different tick lengths (2). -/
def State.unlockDue (s : State) (reason : Nat) : Bool :=
  s.tan.locked && (if reason = 0 then s.tan.skewNs < -4000 || 4000 < s.tan.skewNs
    else if reason = 1 then 2 ≤ s.tan.missing
    else if reason = 2 then s.tan.leaderLen ≠ s.tick.length else false)

/-- Groups that have lost alignment (R455). -/
def State.alignmentLost (s : State) : State := s.resetGroups tanNotLocked fun _ _ => true

/-- Lock is lost. -/
def State.unlockNow (s : State) : State :=
  (({ s with tan := { s.tan with locked := false, good := 0, leaderRoot := 0xFF } }).raiseBit 0x022 1).alignmentLost

/-- The chip is aligned with the chip behind a port (R449). -/
def State.alignedWith (s : State) (p : Nat) : Bool :=
  match s.root with
  | some r => (s.tport p).root = r
  | none => false

/-- Links between members are UP and the members aligned (R452, R455). -/
def State.groupReady (s : State) (slot : Nat) : Bool :=
  s.groupLinked slot && (s.groupPorts slot).all fun p => s.alignedWith p

/-! ### Groups (R452 to R455) -/

/-- The partition of a slot. -/
def State.prtOfSlot (s : State) (slot : Nat) : Option Nat := (s.prts.find? fun x => x.2.slot = slot).map Prod.fst

/-- The port on the far side of one from which a group message came, where a member lies beyond. -/
def State.relayPort (s : State) (slot p : Nat) : List Nat := (s.groupPorts slot).filter fun q => q ≠ p

/-- The leader's STROKE starts the stroke on this member, and goes on round the ring (R434, R453). -/
def State.groupStroke (s : State) (port slot gear number : Nat) (m : TanMsg) : State :=
  let s := (s.relayPort slot port).foldl (fun s q => s.tanSend q m) s
  match s.prtOfSlot slot with
  | none => s
  | some p =>
    match s.prt p with
    | none => s
    | some x =>
      if x.st = .ready && x.stroke.isNone && s.grouped slot then
        let t : Stroke := { kind := .main, gear := gear, items := [], start := s.now, base := 0, crossed := false, waiting := false,
                            number := number }
        (s.setPrt p { x with stroke := some t, strokes := x.strokes + 1, gear := gear }).trace 2 p (strokeArg t) 0
      else s

/-- The leader's COMMIT is held for the edge (R454). -/
def State.groupCommit (s : State) (port slot : Nat) (tick : DWord) : State :=
  let s := (s.relayPort slot port).foldl (fun s q => s.tanSend q (.commit slot tick)) s
  { s with tan := { s.tan with gotCommit := Tab.put s.tan.gotCommit slot tick } }

/-- Another member's cause resets the group (R455). -/
def State.groupReset (s : State) (port slot code : Nat) : State :=
  match s.prtOfSlot slot with
  | none => s
  | some p =>
    match s.prt p with
    | none => s
    | some x =>
      if !s.grouped slot || (x.st = .resetting && x.faultTick) || !(x.st = .ready || x.st = .resetting) then s
      else
        let s := (s.jobFaultHere p tanGroupReset false).recordErrAt 0x022 tanGroupReset 0x11
        let s := (s.count Reg.TAN_GROUP_RESETS 1).raiseBit 0x022 3
        let s := if code = tanLinkLost || code = tanNotLocked then s.modPrt p fun y => { y with linkWait := true } else s
        s.spreadReset slot code (some port)

/-- The leader tells its group that a tick's strokes have ended (R454). -/
def State.leaderCommit (s : State) (p : Nat) : State :=
  match s.prt p with
  | none => s
  | some x =>
    if s.grouped x.slot && s.leads x.slot && x.stroke.isNone && x.strokes ≠ 0 then
      (s.groupPorts x.slot).foldl (fun s q => s.tanSend q (.commit x.slot s.tick.number)) s
    else s

/-- The STROKE of a stroke that the leader has just started goes to the followers (R453). -/
def State.leaderStroke (s : State) (p : Nat) : State :=
  match s.prt p with
  | none => s
  | some x =>
    match x.stroke with
    | none => s
    | some t =>
      if s.grouped x.slot && s.leads x.slot then
        let m : TanMsg := .stroke x.slot t.gear t.number s.tick.number (t.items.map fun i => (handleIdx i.handle % 65536, i.positions))
        (s.groupPorts x.slot).foldl (fun s q => s.tanSend q m) s
      else s

/-! ### Migration out (R457, R458) -/

/-- Layout hash, graph and adapter of an object. -/
def State.migKind (s : State) (h : Nat) : Nat × Nat × Nat :=
  let p := (s.prtOfHandle h).getD 0
  ((s.slotD (s.slotOf p)).layout, ((s.prt p).map Prt.graph).getD 0, s.adapterOf h)

/-- The bytes of a sequence that moves: its table entry, global positions, queue, page-table entries, marks and written
pages (R458). -/
def State.seqImage (s : State) (k : Nat) : List Byte :=
  match s.seq k with
  | none => []
  | some x =>
    let g := s.graphOf x.prt
    s.seqEntry k ++ x.globals.flatMap (leBytes 4) ++ x.queue.flatMap (fun t => leBytes 4 t.1)
      ++ x.pages.flatMap (fun p => leBytes 8 (p.entry g.pageUnit))
      ++ x.pages.flatMap (fun p => (List.range 256).flatMap fun r => leBytes 1 (Tab.get 0 p.marks r))
      ++ (x.pages.filter fun p => p.marks ≠ []).flatMap fun p => pageBytes (g.tensor p.tensor) p

/-- What moves of an object. -/
def State.migData (s : State) (h : Nat) : List Byte :=
  if h / 2 ^ 28 = 1 then ((s.str (handleIdx h)).map s.strBlob).getD [] else s.seqImage (handleIdx h)

/-- The permitted mask of an object's producer (R443); 0 where it has none. -/
def State.producerMask (s : State) (h : Nat) : Nat :=
  let p := if h / 2 ^ 28 = 1 then ((s.str (handleIdx h)).map Stream.producer).getD 0
    else ((s.seq (handleIdx h)).map Seq.producer).getD 0
  if p / 2 ^ 28 = 1 then ((s.str (handleIdx p)).map Stream.perm).getD 0
  else if p / 2 ^ 28 = 2 then ((s.seq (handleIdx p)).map Seq.perm).getD 0 else 0

/-- Edge e of a migration: the offer goes out, and the object joins no stroke from now on. An object in a stroke that crosses the
edge is offered at the next, once it has committed (DEDUCED from R409 and R458, assumption 37). -/
def State.offerMigrations (s : State) : State :=
  s.tan.migOut.foldl (fun s m =>
    let inFlight := if m.handle / 2 ^ 28 = 1 then ((s.str (handleIdx m.handle)).map Stream.inFlight).getD false
      else ((s.seq (handleIdx m.handle)).map Seq.inFlight).getD false
    if m.started || inFlight then s
    else
      let k := handleIdx m.handle
      let s := { s with tan := { s.tan with migOut := s.tan.migOut.map fun (x : MigOut) => if x.order = m.order then { x with started := true } else x } }
      let s := if m.handle / 2 ^ 28 = 1 then s.modStr k fun x => { x with migrating := true }
        else s.modSeq k fun x => { x with migrating := true }
      let (layout, graph, adapter) := s.migKind m.handle
      (s.tanSend m.port (.migOffer m.handle layout graph adapter (s.producerMask m.handle) (s.migData m.handle).length)).trace
        25 m.port 0 m.handle) s

/-- The last moment for MIG_DONE in the current tick (R458). -/
def State.migDeadline (s : State) : Nat := s.tick.lastEdge + tickUs s.tick.length - 100

/-- The peer takes the object: its state goes as XFER flits, and MIG_DONE with it where the time allows. -/
def State.sendMigration (s : State) (m : MigOut) (peer : Nat) : State :=
  let data := s.migData m.handle
  let no := s.tan.xferNo
  let s := { s with tan := { s.tan with xferNo := (no + 1) % 65536 } }
  let endUs := s.now + ceilDiv (ceilDiv data.length 236 * 64) (max 1 (s.portWidth m.port) * 1000)
  let done := endUs ≤ s.migDeadline
  let s := (s.tanSend m.port (.xfer no 0 data)).trace 25 m.port 1 m.handle
  let s := if done then (s.tanSend m.port (.migDone data.length)).trace 25 m.port 2 m.handle else s
  { s with tan := { s.tan with migOut := s.tan.migOut.map fun x =>
      if x.order = m.order then { x with peer := some peer, done := done } else x } }

/-- Input that arrived while an object moved, as the bytes that follow it. -/
def State.lateInput (s : State) (h : Nat) : List Byte :=
  if h / 2 ^ 28 = 1 then
    ((s.str (handleIdx h)).map fun x => x.pend.flatMap fun f => f.data.flatMap (leBytes 4)).getD []
  else ((s.seq (handleIdx h)).map fun x => (x.queue.drop x.com.queued).flatMap fun t => leBytes 4 t.1).getD []

/-- Edge e + 1 on the source: the input follows, MIGRATED and the FINAL are released, and the object is freed. -/
def State.endMigrations (s : State) : State :=
  s.tan.migOut.foldl (fun s m =>
    if !m.done then s
    else
      match m.peer with
      | none => s
      | some peer =>
        let k := handleIdx m.handle
        let no := s.tan.xferNo
        let late := s.lateInput m.handle
        let s := if late = [] then s else s.tanSend m.port (.xfer no 0 late)
        let own := if m.handle / 2 ^ 28 = 1 then (s.str k).map Stream.own else (s.seq k).map Seq.own
        let producer := if m.handle / 2 ^ 28 = 1 then ((s.str k).map Stream.producer).getD 0 else ((s.seq k).map Seq.producer).getD 0
        let s := match own with
          | some o => s.event o 5 0 peer
          | none => s
        let prt := (s.prtOfHandle m.handle).getD 8
        let away := if producer = 0 then s.tan.away else (0xE000_0000 + no, producer, m.port, peer) :: s.tan.away
        let s := { s with tan := { s.tan with migOut := s.tan.migOut.filter (fun (x : MigOut) => x.order ≠ m.order), away := away,
                                              xferNo := (no + 1) % 65536 },
                          streams := s.streams.map fun (x : Nat × Stream) => if x.2.producer = m.handle then
                            (x.1, { x.2 with producer := 0xF000_0000 + m.port }) else x,
                          seqs := s.seqs.map fun (x : Nat × Seq) => if x.2.producer = m.handle then
                            (x.1, { x.2 with producer := 0xF000_0000 + m.port }) else x }
        let s := if m.handle / 2 ^ 28 = 1 then s.freeStr k else s.freeSeq k
        ((s.departed prt).count Reg.TAN_MIG_OUT 1).decide m.order 0 peer) s

/-! ### Migration in (R458, R459) -/

/-- The lowest partition that can take an offered object. -/
def State.migTarget (s : State) (layout graph adapter : Nat) : Option Nat :=
  ((s.prts.filter fun x => x.2.st = .ready && (s.slotD x.2.slot).layout = layout && x.2.graph = graph
    && (adapter = 0xFF || (Tab.find (s.slotD x.2.slot).adapters adapter).isSome)).map Prod.fst).head?

/-- The lowest free index of a table. -/
def freeIndex {A : Type} (t : List (Nat × A)) (n : Nat) : Option Nat := (List.range n).find? fun i => (Tab.find t i).isNone

/-- The identity of an object that arrives: rider 0, completion ring 0 (R459). -/
def migOwner (order tag : Nat) : Owner := { rider := 0, sq := 0, cq := 0, order := order, tag := tag, seq := 0, epoch := 0, op := 0x61 }

/-- An empty stream of partition `p`. -/
def Stream.new (g : Graph) (o : Owner) (p adapter source policy producer : Nat) : Stream :=
  { st := .opening, own := o, prt := p, adapter := adapter, source := source, policy := policy, producer := producer, ptr := none,
    share := 0, chans := [], written := false, wasReset := false, comTick := 0, check := 0, com := zeroCopy g, work := none, pend := [],
    taken := 0, part := [], live := false, inFlight := false, crossing := false, admitted := false, perm := 0,
    outs := [], imp := none, exports := [], closing := none, faultCode := none, migrating := false, dropNow := false,
    dropLast := false, rolled := false }

/-- A sequence at its start. -/
def Seq.new (o : Owner) (p adapter draftGear draftLen : Nat) (spill : Bool) (producer maxNew : Nat) (globals : List Nat) : Seq :=
  let c : SeqCopy := { tail := 0, produced := 0, next := none, turn := false, turnOut := 0, queued := 0, gear := 0 }
  { st := .idle, own := o, prt := p, adapter := adapter, draftGear := draftGear, draftLen := draftLen, spill := spill,
    producer := producer, maxNew := maxNew, globals := globals, cur := c, com := c, queue := [], turnIn := 0, drafts := [],
    pages := [], tag := 2 ^ o.rider, perm := 0, outs := [], inFlight := false, crossing := false, joined := false,
    admitted := false, ending := none, cancel := none, invalid := false, waitFrom := none, migrating := false }

/-- Allocate a stream's area (R342): at once, later once pages are spilled, or not at all. -/
def State.takeArea (s : State) (k p : Nat) : Option State :=
  let homes := s.prtHomes p
  let u := (s.graphOf p).areaShare homes.length
  let set (s : State) (o : Nat) : State :=
    (s.claimArea homes o u).modStr k fun x => { x with ptr := some o, share := u, chans := homes }
  match s.findArea homes u with
  | some o => some (set s o)
  | none =>
    let grans := ceilDiv u 512 + 1
    match s.request homes grans true with
    | (.now, s) => (s.findArea homes u).map (set s)
    | (.later, s) =>
      let w : Want := { cls := .state, owner := k, chans := homes, count := u }
      some ((s.setMem { s.mem with wants := s.mem.wants ++ [w] }).modStr k fun x => { x with share := u, chans := homes })
    | (.no, _) => none

/-- Allocate a sequence's page set (R382, R386). -/
def State.takePages (s : State) (k p : Nat) (globals spill : Bool) : Option State :=
  let g := s.graphOf p
  let set := g.pageSet globals
  let free := (List.range (s.spillSlots p)).filter fun i => !(s.spillUsed p).contains i
  if spill && free.length < set.length then none
  else s.placePages k p g.pageUnit (s.prtHomes p) spill 0 set (if spill then free else [])

/-- Make the entry for an object that arrives; none for want of room. -/
def State.migEntry (s : State) (p handle adapter mask : Nat) : Option (Nat × State) :=
  let (c, s) := s.fresh
  let o := migOwner s.link.accepted (Config.peerTag c % 65536)
  let s := { s with link := { s.link with accepted := s.link.accepted + 1 } }
  if handle / 2 ^ 28 = 1 then
    match freeIndex s.streams 1024 with
    | none => none
    | some k =>
      let (c, s) := s.fresh
      let x := Stream.new (s.graphOf p) o p adapter (if mask = 0 then Config.peerSource c % 16 else 0xFF) 0 0
      let s := s.setStr k { x with migrating := true, perm := mask }
      (s.takeArea k p).map fun s => (strHandle k, s)
  else
    match freeIndex s.seqs 1024 with
    | none => none
    | some k =>
      let s := s.setSeq k { Seq.new o p adapter 0xFF 0 false 0 0 [] with migrating := true, perm := mask }
      (s.takePages k p false false).map fun s => (seqHandle k, s)

/-- An offer arrives (R458): a partition is chosen and the offer answered. -/
def State.migOffered (s : State) (port handle layout graph adapter mask bytes : Nat) : State :=
  match s.migTarget layout graph adapter with
  | none => s.tanSend port (.migRefuse tanNoTarget)
  | some p =>
    let room := s.members p < ((s.prt p).map Prt.maxPel).getD 0
    match if room then s.migEntry p handle adapter mask else none with
    | none => s.tanSend port (.migRefuse 0x030D)
    | some (h, t) =>
      let own := if h / 2 ^ 28 = 1 then (t.str (handleIdx h)).map Stream.own else (t.seq (handleIdx h)).map Seq.own
      let fit := t.fitCheck (own.getD (migOwner 0 0)) p
      if fit.1 then
        let m : MigIn := { port := port, source := handle, handle := h, part := p, adapter := adapter, mask := mask, bytes := bytes,
                           data := [], done := false, tag := (own.map Owner.tag).getD 0 }
        ({ fit.2 with tan := { fit.2.tan with migIn := fit.2.tan.migIn ++ [m] } }).tanSend port (.migAccept h)
      else s.tanSend port (.migRefuse 0x030E)

/-- Migration data arrives: before the commit it builds the object's bytes; after it, the input that followed goes ahead of what
the object has received itself (R458). -/
def State.migArrived (s : State) (port offset : Nat) (data : List Byte) : State :=
  match s.tan.migIn.find? fun m => m.port = port with
  | none => s
  | some m =>
    let put (m : MigIn) : MigIn := { m with data := m.data.take offset ++ data }
    { s with tan := { s.tan with migIn := s.tan.migIn.map fun x => if x = m then put x else x } }

/-- Input that followed an object to this chip, ahead of what it received here. -/
def State.migLateInput (s : State) (h : Nat) (data : List Byte) : State :=
  let words := (List.range (data.length / 4)).map fun i => leAt data (4 * i) 4
  let k := handleIdx h
  if h / 2 ^ 28 = 1 then
    s.modStr k fun x =>
      let n := max 1 ((s.graphOf x.prt).frameBytes / 4)
      let fs := (List.range (words.length / n)).map fun i =>
        ({ data := (words.drop (i * n)).take n, mark := false, tag := 1 } : Frame)
      { x with pend := fs ++ x.pend }
  else (s.modSeq k fun x => { x with queue := words.map (fun t => (t, 1)) ++ x.queue }).wakeSeq k

/-- A page of an arriving sequence: its base, its marks, and its rows where it has any. -/
def takePage (g : Graph) (p : KvPage) (entry : Nat) (marks data : List Byte) : KvPage :=
  let t := g.tensor p.tensor
  let heads := t.dims.getD 0 0
  let dim := t.dims.getD 1 0
  let w := fmtBytes t.fmt
  let at_ (half r : Nat) : List Nat := (List.range heads).flatMap fun h => (List.range dim).map fun e =>
    leAt data (((half * heads + h) * 256 + r) * dim * w + e * w) w
  let ms := (List.range 256).filterMap fun r => match leAt marks r 1 with
    | 0 => none
    | m => some (r, m)
  { p with base := bitsOf entry 8 24, comBase := bitsOf entry 8 24, marks := ms, comMarks := ms,
           rows := if data = [] then [] else ms.map fun m => (m.1, (at_ 0 m.1, at_ 1 m.1)) }

/-- The pages of an arriving sequence in turn: entries, marks, and bytes for those with marks. -/
def takePagesFrom (g : Graph) (entries marks : List Byte) : Nat → List KvPage → List Byte → List KvPage
  | _, [], _ => []
  | i, p :: t, data =>
    let m := slice marks (256 * i) 256
    let n := if zeros m then 0 else g.pageBytes p.tensor
    takePage g p (leAt entries (8 * i) 8) m (data.take n) :: takePagesFrom g entries marks (i + 1) t (data.drop n)

/-- The sequence that a table entry and what follows it describe (R371, R458). -/
def Seq.arrived (g : Graph) (b : List Byte) (remote : Nat) (x : Seq) : Seq :=
  let nGlob := leAt b 0x1C 1
  let nQueue := leAt b 0x14 2
  let q := 32 + 4 * nGlob
  let e := q + 4 * nQueue
  let c : SeqCopy :=
    { tail := leAt b 8 4, produced := leAt b 0x0C 4, next := if leAt b 0x10 4 = 0xFFFF_FFFF then none else some (leAt b 0x10 4),
      turn := (leAt b 7 1).testBit 3, turnOut := leAt b 0x18 2, queued := nQueue, gear := leAt b 0x1D 1 }
  let n := x.pages.length
  { x with st := if c.turn || nQueue ≠ 0 then .running else .idle, draftGear := leAt b 5 1, draftLen := leAt b 6 1,
           producer := if (leAt b 7 1).testBit 1 then remote else 0, maxNew := leAt b 0x16 2,
           globals := (List.range nGlob).map fun i => leAt b (32 + 4 * i) 4, cur := c, com := c,
           queue := (List.range nQueue).map fun i => (leAt b (q + 4 * i) 4, x.tag),
           pages := takePagesFrom g (slice b e (8 * n)) (slice b (e + 8 * n) (256 * n)) 0 x.pages (b.drop (e + 8 * n + 256 * n)) }

/-- The page set of an arriving sequence with global pages, where its table entry shows global positions. -/
def State.globalPages (s : State) (k p n : Nat) : State :=
  if n = 0 then s
  else
    let t := (s.modSeq k fun x => { x with pages := [] }).pruneKv
    (t.takePages k p true false).getD s

/-- Edge e + 1 on the peer: the object is committed, journalled and reported (R458, R459). -/
def State.commitMigIn (s : State) (m : MigIn) : State :=
  let k := handleIdx m.handle
  let g := s.graphOf m.part
  let e : JEntry :=
    { seq := 0, epoch := 0, tick := s.tick.number, type := 0x01, agent := 0x11, code := 0, tag := m.tag, op := 0x61, flags := 4,
      arg0 := m.handle, arg1 := 0, check := 0 }
  let own (o : Owner) : Owner := { o with seq := s.jnl.next, epoch := s.jnl.epoch }
  let rest := s.tan.migIn.filter fun x => x ≠ m
  let last := Tab.put s.tan.lastIn m.port m.handle
  let s := { s with jnl := s.jnl.store e, tan := { s.tan with migIn := rest, lastIn := last } }
  let remote := if m.mask = 0 then 0 else 0xF000_0000 + m.port
  let s := if m.handle / 2 ^ 28 = 1 then
      s.modStr k fun x =>
        let t := blobTaken g (2 ^ x.own.rider) m.data
        { x with st := .running, own := own x.own, com := t.1, comTick := s.tick.number, pend := t.2, written := true, live := true, migrating := false,
                 admitted := true, producer := remote }
    else (s.globalPages k m.part (leAt m.data 0x1C 1)).modSeq k fun x =>
      { Seq.arrived g m.data remote x with own := own x.own, migrating := false, admitted := true }
  let o := if m.handle / 2 ^ 28 = 1 then (s.str k).map Stream.own else (s.seq k).map Seq.own
  let s := match o with
    | some o => s.produce o .final 0x61 0 m.handle [] 0
    | none => s
  (s.count Reg.TAN_MIG_IN 1).raiseBit 0x022 2

/-- Migrations that arrived whole are committed at a tick edge. -/
def State.commitArrivals (s : State) : State :=
  (s.tan.migIn.filter fun m => m.done).foldl (fun s m => s.commitMigIn m) s

/-- XFER data on a port: of a migration in progress, or input that follows one (R458). -/
def State.xferArrived (s : State) (port offset : Nat) (data : List Byte) : State :=
  if s.tan.migIn.any fun m => m.port = port && !m.done then s.migArrived port offset data
  else
    match Tab.find s.tan.lastIn port with
    | some h => s.migLateInput h data
    | none => s

/-- ACT data: handoff items for consumers here of a producer on the chip behind the port, numbered by the consumer's index
(R443, R459). -/
def State.actArrived (s : State) (port num : Nat) (tags : List Nat) (data : List Byte) : State :=
  let words := (List.range (data.length / 4)).map fun i => leAt data (4 * i) 4
  let remote := 0xF000_0000 + port
  match s.str num, s.seq num with
  | some x, _ =>
    if x.producer = remote then s.pushFrame num { data := words, mark := false, tag := orAll tags } else
      match s.seq num with
      | some y => if y.producer = remote then s.queueTokens num (words.map fun t => (t, orAll tags)) else s
      | none => s
  | none, some y => if y.producer = remote then s.queueTokens num (words.map fun t => (t, orAll tags)) else s
  | none, none => s

/-! ### What a tick edge sends (R447) -/

/-- The TICK flits of an edge, with the h in force and the largest W of the partitions. -/
def State.sendTicks (s : State) (h : Nat) : State :=
  let w := s.prts.foldl (fun a x => max a x.2.wTick) 0
  [0, 1].foldl (fun s p =>
    if (s.tport p).st = .linked || (s.tport p).st = .up then
      s.tanSend p (.tick s.tick.number s.tick.length h w (s.root.getD 0xFF))
    else s) s

/-- The alignment work of a tick edge (R448): a missing TICK flit is counted, and lock is gained or lost where due. -/
def State.alignEdge (s : State) : State :=
  if !s.bit Reg.TAN_TICK_CTL 0 then s
  else
    let s := if s.tan.got then { s with tan := { s.tan with got := false } }
      else { s with tan := { s.tan with missing := s.tan.missing + 1, good := 0 } }
    let s := if s.lockDue then s.lockNow else s
    if [0, 1, 2].any s.unlockDue then s.unlockNow else s

/-- TAN_PORT_STATUS (Table 15-9). -/
def State.portStatus (s : State) (p : Nat) : Nat :=
  let x := s.tport p
  x.st.code + x.width * 2 ^ 4 + x.lanes * 2 ^ 8 + x.peerChip * 2 ^ 12 + x.peerPort * 2 ^ 14
    + Bool.num (s.record p).isSome * 2 ^ 15 + x.rttNs * 2 ^ 16

/-- TAN_TICK_STATUS (Table 15-10). -/
def State.tanTickStatus (s : State) : Nat :=
  Bool.num s.tan.locked + Bool.num s.root.isSome * 2 + (s.root.getD 0) * 4 + (s.tan.skewNs % 65536).toNat * 2 ^ 16

end Sys2Proof.Machine
end

