-- ==== Sys2Proof/Machine/Audio.lean ====
section
/-! DEFINITION. The audio section (R463 to R492, R527): sources, sinks and routes, sample values, buffers with their starts,
slips, fades and ramps, stream input frames (R20, R21), link-audio rings, PCM clocks and failed ports. -/
namespace Sys2Proof.Machine
open Sys2Proof

/-! ### Marks for the causes that are raised once (R494 to R496) -/

/-- Raise a cause at its first event after a tick without one. -/
def State.raiseFirst (s : State) (pg cause : Nat) : State :=
  let k := pg * 32 + cause
  let seen := Tab.get false s.aud.flags k || Tab.get false s.aud.prev k
  let s := { s with aud := { s.aud with flags := Tab.put s.aud.flags k true } }
  if seen then s else s.raiseBit pg cause

/-- A tick ends: its marks become those of the tick before. -/
def State.turnMarks (s : State) : State := { s with aud := { s.aud with prev := s.aud.flags, flags := [] } }

/-! ### Sources and sinks (R463 to R466) -/

def State.srcKind (s : State) (i : Nat) : Nat := s.fld (Reg.AUD_SRC i) 0 3
def State.srcIndex (s : State) (i : Nat) : Nat := s.fld (Reg.AUD_SRC i) 4 3
def State.srcSlot (s : State) (i : Nat) : Nat := s.fld (Reg.AUD_SRC i) 8 3
def State.srcStream (s : State) (i : Nat) : Nat := s.fld (Reg.AUD_SRC i) 16 10
def State.srcHold (s : State) (i : Nat) : Bool := s.bit (Reg.AUD_SRC i) 3
def State.sinkKind (s : State) (j : Nat) : Nat := s.fld (Reg.AUD_SINK j) 0 3
def State.sinkIndex (s : State) (j : Nat) : Nat := s.fld (Reg.AUD_SINK j) 4 3
def State.sinkSlot (s : State) (j : Nat) : Nat := s.fld (Reg.AUD_SINK j) 8 3
def State.route (s : State) (j : Nat) : Nat := s.fld (Reg.AUD_SINK j) 16 5

/-- The control and rate registers of a PCM direction: 0 transmit, 1 receive. -/
def pcmCtl (p dir : Nat) : Nat := Reg.PCM_TX_CTL p + 0x20 * dir
def pcmRate (p dir : Nat) : Nat := Reg.PCM_TX_RATE p + 0x20 * dir

/-- The link-audio port, and its channel, that uses a source slot (direction 1) or a sink slot (direction 0). -/
def State.attachedTo (s : State) (dir slot : Nat) : Option (Nat × Nat) :=
  (s.aud.ports.find? fun x => x.2.dir = dir && x.2.first ≤ slot && slot < x.2.first + x.2.channels).map fun x =>
    (x.1, slot - x.2.first)

/-- Nominal rate of a source slot; none where any rate fits it. -/
def State.srcRate (s : State) (i : Nat) : Option Nat :=
  match s.srcKind i with
  | 1 => some (s.fld (Reg.PDM_RATE (s.srcIndex i / 2)) 0 17)
  | 2 => some (s.fld (pcmRate (s.srcIndex i % 2) 1) 0 17)
  | 3 => (s.attachedTo 1 i).bind fun a => (Tab.find s.aud.ports a.1).map AudPort.rate
  | 4 => (s.str (s.srcStream i)).map fun x => (s.graphOf x.prt).outRate
  | _ => none

/-- Nominal rate of a sink slot; a stream sink has its source's (R465). -/
def State.sinkRate (s : State) (j : Nat) : Option Nat :=
  match s.sinkKind j with
  | 1 => some (s.fld (pcmRate (s.sinkIndex j % 2) 0) 0 17)
  | 2 => some (s.fld (Reg.PDM_RATE (4 + s.sinkIndex j / 2)) 0 17)
  | 3 => (s.attachedTo 0 j).bind fun a => (Tab.find s.aud.ports a.1).map AudPort.rate
  | 4 => if s.route j = 0x1F then some 0 else s.srcRate (s.route j)
  | _ => none

/-- A stream is open on sink `j`, with this input rate. -/
def State.sinkStreams (s : State) (j : Nat) : List (Nat × Stream) :=
  s.streams.filter fun x => x.2.source = j && x.2.st ≠ .closing

/-- The rate that a route to sink `j` must have: its own, or for a stream sink that of the streams open on it (R466). -/
def State.sinkNeeds (s : State) (j : Nat) : Option Nat :=
  if s.sinkKind j = 4 then ((s.sinkStreams j).head?).map fun x => (s.graphOf x.2.prt).inRate else s.sinkRate j

/-- Every route joins equal rates (R466). -/
def State.routesOk (s : State) : Bool :=
  (List.range 16).all fun j =>
    s.route j = 0x1F || match s.srcRate (s.route j), s.sinkNeeds j with
      | some a, some b => a = b
      | _, _ => true

/-- No two sinks name one transmit slot or PDM channel (R465). -/
def State.sinksApart (s : State) : Bool :=
  (List.range 16).all fun j => (List.range j).all fun k =>
    s.sinkKind j ≠ s.sinkKind k || !(s.sinkKind j = 1 || s.sinkKind j = 2) || s.sinkIndex j ≠ s.sinkIndex k
      || (s.sinkKind j = 1 && s.sinkSlot j ≠ s.sinkSlot k)

/-- PDM clock bounds (R471). -/
def State.pdmOk (s : State) (d : Nat) : Bool :=
  let fs := s.fld (Reg.PDM_RATE d) 0 17
  let ratio := ([32, 48, 64, 96, 128, 192, 256, 384] : List Nat).getD (s.fld (Reg.PDM_CTL d) 1 3) 0
  !s.bit (Reg.PDM_CTL d) 0 || (8000 ≤ fs && fs ≤ 96000 && 768_000 ≤ fs * ratio && fs * ratio ≤ 4_096_000)

/-- Slot and sample widths of a PCM direction in bits. -/
def State.slotBits (s : State) (p dir : Nat) : Nat := 16 + 8 * s.fld (pcmCtl p dir) 12 2
def State.sampleBits (s : State) (p dir : Nat) : Nat := 16 + 8 * s.fld (pcmCtl p dir) 14 2

/-- Bit clocks of a frame (R474). -/
def State.frameBits (s : State) (p dir : Nat) : Nat := (s.fld (pcmCtl p dir) 8 3 + 1) * s.slotBits p dir

/-- PCM bounds of an enabled direction (R475, Table 16-3). -/
def State.pcmOk (s : State) (p dir : Nat) : Bool :=
  let fs := s.fld (pcmRate p dir) 0 17
  !s.bit (pcmCtl p dir) 0 || (8000 ≤ fs && fs ≤ 96000 && fs * s.frameBits p dir ≤ 24_576_000
    && s.sampleBits p dir ≤ s.slotBits p dir
    && (s.fld (pcmCtl p dir) 2 2 ≠ 0 || s.fld (pcmCtl p dir) 8 3 % 2 = 1))

/-- Fields of the AUD, PDM and PCM registers that have no value above a bound (R494 to R496). -/
def State.audFieldsOk (s : State) : Bool :=
  (List.range 16).all (fun i => s.srcKind i ≤ 4 && s.sinkKind i ≤ 4 && (s.route i < 16 || s.route i = 0x1F))
    && [0, 1].all fun p => s.fld (Reg.PCM_MCLK_CTL p) 1 2 ≠ 3 && [0, 1].all fun d =>
        s.fld (pcmCtl p d) 2 2 ≠ 3 && s.fld (pcmCtl p d) 12 2 ≠ 3 && s.fld (pcmCtl p d) 14 2 ≠ 3

/-- The master clock stays within its bound (R476). -/
def State.mclkOk (s : State) (p : Nat) : Bool :=
  let fs := s.fld (pcmRate p (s.fld (Reg.PCM_MCLK_CTL p) 3 1)) 0 17
  !s.bit (Reg.PCM_MCLK_CTL p) 0 || fs * 128 * 2 ^ s.fld (Reg.PCM_MCLK_CTL p) 1 2 ≤ 49_152_000

/-- What the AUD, PDM and PCM registers hold is permitted as a whole. -/
def State.audioOk (s : State) : Bool :=
  s.audFieldsOk && s.routesOk && s.sinksApart && (List.range 6).all (fun d => s.pdmOk d)
    && [0, 1].all fun p => s.mclkOk p && s.pcmOk p 0 && s.pcmOk p 1

/-! ### Which sources and sinks run -/

/-- A PCM clock at rest. -/
def PcmClock.zero : PcmClock := { lost := false, refSet := false }

/-- The clock of a PCM direction. -/
def State.pcmClock (s : State) (p dir : Nat) : PcmClock := Tab.get PcmClock.zero s.aud.clocks (2 * p + dir)

/-- The state with the clock of a PCM direction replaced. -/
def State.setPcmClock (s : State) (p dir : Nat) (c : PcmClock) : State :=
  { s with aud := { s.aud with clocks := Tab.putD PcmClock.zero s.aud.clocks (2 * p + dir) c } }

/-- A source supplies digital silence (R463, R471, R487): nothing configured, its port disabled, its stream not RUNNING. -/
def State.srcSilent (s : State) (i : Nat) : Bool :=
  match s.srcKind i with
  | 1 => !s.bit (Reg.PDM_CTL (s.srcIndex i / 2)) 0 || !s.bit (Reg.PDM_CTL (s.srcIndex i / 2)) (4 + s.srcIndex i % 2)
  | 2 => !s.bit (pcmCtl (s.srcIndex i % 2) 1) 0
  | 3 => (s.attachedTo 1 i).isNone
  | 4 => match s.str (s.srcStream i) with
    | some x => x.st ≠ .running
    | none => true
  | _ => true

/-- A sink's port runs (R482, R487). -/
def State.sinkRuns (s : State) (j : Nat) : Bool :=
  match s.sinkKind j with
  | 1 => s.bit (pcmCtl (s.sinkIndex j % 2) 0) 0 && !(s.pcmClock (s.sinkIndex j % 2) 0).lost
  | 2 => s.bit (Reg.PDM_CTL (4 + s.sinkIndex j / 2)) 0 && s.bit (Reg.PDM_CTL (4 + s.sinkIndex j / 2)) (4 + s.sinkIndex j % 2)
  | 3 => (s.attachedTo 0 j).isSome
  | _ => false

/-- A sink is tick-fed: its source is a stream's (R482). -/
def State.tickFed (s : State) (j : Nat) : Bool := s.route j < 16 && s.srcKind (s.route j) = 4

/-- A sink at rest. -/
def Sink.zero : Sink :=
  { buf := [], started := false, startAt := none, newest := 0, fade := none, ramp := none, rampNext := false, under := false,
    flooded := false, last := 0, underNow := false, overNow := false, slipNow := false }

def State.sink (s : State) (j : Nat) : Sink := Tab.get Sink.zero s.aud.sinks j
def State.setSink (s : State) (j : Nat) (x : Sink) : State :=
  { s with aud := { s.aud with sinks := Tab.putD Sink.zero s.aud.sinks j x } }

/-- Samples of a time in µs at a sink's rate. -/
def State.sinkSpan (s : State) (j us : Nat) : Nat := (s.sinkRate j).getD 0 * us / 1_000_000

/-- Fade and ramp lengths in ms (Table 16-9). -/
def State.fadeMs (s : State) : Nat := min 16 (max 1 (s.fld Reg.AUD_FADE 0 5))
def State.rampMs (s : State) : Nat := min 16 (max 1 (s.fld Reg.AUD_FADE 8 5))

/-! ### Samples into sinks (R485) -/

/-- A sink overruns: the newest fade_ms of its buffer falls to silence, and it takes nothing until it has drained. -/
def State.overrunSink (s : State) (j : Nat) : State :=
  let x := s.sink j
  let n := min x.buf.length (s.sinkSpan j (s.fadeMs * 1000))
  let keep := x.buf.take (x.buf.length - n)
  let tail := (List.range n).zipWith (fun i b => (Config.gained false b.1 i n, b.2)) (x.buf.drop (x.buf.length - n))
  ((s.setSink j { x with buf := keep ++ tail, flooded := true }).count (Reg.AUD_OVERRUN j) 1).raiseFirst 0x012 1

/-- A sample reaches a sink of kind 1 to 3. -/
def State.pushSink (s : State) (j : Nat) (v : Nat × Nat) : State :=
  let x := s.sink j
  if !s.sinkRuns j then s
  else if x.flooded then
    if x.buf.length ≤ s.sinkSpan j 500 then
      s.setSink j { x with flooded := false, buf := x.buf ++ [v], ramp := some (0, max 1 (s.sinkSpan j (s.rampMs * 1000))) }
    else s
  else if s.sinkSpan j 24_000 ≤ x.buf.length then s.overrunSink j
  else
    let buf := x.buf ++ [v]
    let start := !x.started && !x.under && !s.tickFed j && s.sinkSpan j 500 ≤ buf.length
    let ramp := if start && x.rampNext then some (0, max 1 (s.sinkSpan j (s.rampMs * 1000))) else x.ramp
    s.setSink j { x with buf := buf, started := x.started || start, ramp := ramp, rampNext := x.rampNext && !start }

/-- A sample of a stream sink goes to every stream open on it, once its FINAL has been released (R339, R486). -/
def State.pushStreams (s : State) (j v : Nat) (mark : Bool) : State :=
  (s.sinkStreams j).foldl (fun s x => if x.2.live then s.modStr x.1 fun y => { y with part := y.part ++ [(v, mark)] } else s) s

/-- One sample of source `i` reaches every sink it feeds. -/
def State.fromSource (s : State) (i v tag : Nat) (mark : Bool) : State :=
  (List.range 16).foldl (fun s j =>
    if s.route j ≠ i || s.sinkKind j = 0 then s
    else if s.sinkKind j = 4 then (if s.srcHold i then s else s.pushStreams j v mark)
    else s.pushSink j (v, tag)) s

/-- The privacy gate lets a captured source's samples through (R470, R510): it is open, and the policy admits the source. -/
def State.srcOpen (s : State) (i : Nat) : Bool :=
  s.isl.gate && s.isl.policy.testBit (if s.srcKind i = 1 then s.srcIndex i else 8 + s.srcIndex i % 2)

/-- A captured code of a source as a router sample (R469, R472): a microphone's in units of 2⁻²³ at the decimator's output,
clipped and counted where it reaches ±1; a PCM slot's an integer of the direction's sample width. +0 where the gate does not let
it through (R470, R510). -/
def State.captured (s : State) (i : Nat) (q : Int) : Nat × State :=
  if s.srcKind i = 1 then
    let d := s.srcIndex i / 2
    let clipped := 2 ^ 23 ≤ q.natAbs
    let s := if clipped then (s.count (Reg.PDM_SAT d) 1).raiseFirst (0x018 + d) 0 else s
    let v := if clipped then (if q < 0 then 0xBF7F_FFFF else 0x3F7F_FFFF) else r32 (.ofScaled q (-23))
    (if s.srcOpen i then v else 0, s)
  else if s.srcOpen i then (r32 (.ofScaled q (1 - (s.sampleBits (s.srcIndex i % 2) 1 : Int))), s)
  else (0, s)

/-- The next frame of a link-audio port in the from-host direction: one sample for each of its channels; none where the ring
holds no frame (R492). -/
def State.linkFrame (s : State) (port : Nat) : Option (List Nat × State) :=
  match Tab.find s.aud.ports port with
  | none => none
  | some p => match p.ahead with
    | [] => none
    | f :: t => some (f, { s with aud := { s.aud with ports := Tab.put s.aud.ports port { p with ahead := t } } })

/-- Strobes of a LINK_IN port: each takes one frame for all its channels. -/
def State.linkStrobes (s : State) (port : Nat) : Nat → State
  | 0 => s
  | n + 1 =>
    match s.linkFrame port with
    | none => s
    | some (f, t) =>
      let p := Tab.find s.aud.ports port
      let first := (p.map AudPort.first).getD 0
      let tag := 2 ^ (p.map AudPort.owner).getD 0
      State.linkStrobes ((List.range f.length).foldl (fun s c => s.fromSource (first + c) (f.getD c 0) tag false) t) port n

/-- What a source brought since the last batch. A LINK_IN port's strobes are those of its first source slot. -/
def State.takeCaptured (s : State) (i : Nat) (l : List Int) : State :=
  if s.srcKind i = 3 then
    match s.attachedTo 1 i with
    | some (port, 0) => s.linkStrobes port l.length
    | _ => s
  else if s.srcSilent i || (s.srcKind i = 2 && (s.pcmClock (s.srcIndex i % 2) 1).lost)
      || s.aud.failed.contains (if s.srcKind i = 1 then 0x018 + s.srcIndex i / 2 else 0x016 + s.srcIndex i % 2) then s
  else if s.srcKind i = 1 || s.srcKind i = 2 then
    l.foldl (fun s q => let r := s.captured i q; r.2.fromSource i r.1 0 (!s.isl.gate)) s
  else s

/-! ### Strobes of sinks (R482, R484) -/

/-- A sink underruns (R484): it is counted, and fades over its last sample. -/
def State.underrunSink (s : State) (j : Nat) : State :=
  let x := s.sink j
  let len := max 1 (s.sinkSpan j (s.fadeMs * 1000))
  let step := match x.ramp with
    | some (k, n) => len - len * k / max 1 n
    | none => 0
  let s := s.setSink j { x with under := true, started := false, startAt := none, ramp := none, newest := 0,
                                fade := some { last := x.last, step := step, len := len, held := false } }
  ((s.count (Reg.AUD_UNDERRUN j) 1).raiseFirst 0x012 0).trace 19 j 0 (len - step)

/-- The sample a sink puts out at a strobe. -/
def State.strobe (s : State) (j : Nat) : (Nat × Nat) × State :=
  let x := s.sink j
  match x.fade with
  | some f =>
    let (base, buf) := if f.held then (match x.buf with
      | b :: t => (b.1, t)
      | [] => (f.last, [])) else (f.last, x.buf)
    let f' := if f.step + 1 ≥ f.len then none else some { f with step := f.step + 1 }
    let buf := if f.held && f'.isNone then [] else buf
    ((Config.gained false base f.step f.len, 0), s.setSink j { x with fade := f', buf := buf })
  | none =>
    if !x.started then ((0, 0), s)
    else match x.buf with
      | b :: t =>
        let (v, ramp) := match x.ramp with
          | some (k, n) => (Config.gained true b.1 k n, if k + 1 ≥ n then none else some (k + 1, n))
          | none => (b.1, none)
        ((v, b.2), s.setSink j { x with buf := t, ramp := ramp, last := v, newest := min x.newest t.length })
      | [] =>
        if s.route j = 0x1F || s.srcSilent (s.route j) then ((0, 0), s.setSink j { x with last := 0 })
        else
          let s := s.underrunSink j
          let y := s.sink j
          match y.fade with
          | some f => ((Config.gained false f.last f.step f.len, 0), s.setSink j { y with fade := some { f with step := f.step + 1 } })
          | none => ((0, 0), s)

/-- `n` strobes of a sink, oldest sample first. -/
def State.strobes (s : State) (j : Nat) : Nat → List (Nat × Nat) × State
  | 0 => ([], s)
  | n + 1 =>
    let r := s.strobe j
    let q := State.strobes r.2 j n
    (r.1 :: q.1, q.2)

/-- Conversion to an N-bit integer (R469), with what it counts. -/
def toBits (n v : Nat) : Int × Nat :=
  let r := f32ToSample n v
  (r.1, if r.2 then 1 else 0)

/-- A sample beyond ±0.75 is clipped (R473). -/
def clip75 (v : Nat) : Nat × Nat :=
  if isNan v then (0, 0)
  else if flt 0x3F40_0000 v then (0x3F40_0000, 1)
  else if flt v 0xBF40_0000 then (0xBF40_0000, 1) else (v, 0)

/-- Samples that a sink puts out reach their destination: a pin as integers, or a link-audio port's frames. `quiet` holds for
pins that carry digital silence. -/
def State.putOut (s : State) (j : Nat) (quiet : Bool) (l : List (Nat × Nat)) : State :=
  let vs := if quiet then l.map fun _ => 0 else l.map Prod.fst
  match s.sinkKind j with
  | 1 =>
    let r := vs.map (toBits (s.sampleBits (s.sinkIndex j % 2) 0))
    (s.count (Reg.AUD_CLIP j) ((r.map Prod.snd).foldl (· + ·) 0)).emit (.audio j (r.map Prod.fst))
  | 2 =>
    let d := 4 + s.sinkIndex j / 2
    let r := vs.map clip75
    let n := (r.map Prod.snd).foldl (· + ·) 0
    let s := if n = 0 then s else (s.count (Reg.PDM_SAT d) n).raiseFirst (0x018 + d) 0
    s.emit (.audio j (r.map fun x => (x.1 : Int)))
  | 3 =>
    match s.attachedTo 0 j with
    | some (port, c) =>
      match Tab.find s.aud.ports port with
      | none => s
      | some p =>
        let have_ := p.ahead.length
        let done := (p.ahead.filter fun f => c < f.length).length
        let ahead := (List.range (max have_ (done + vs.length))).map fun i =>
          let f := p.ahead.getD i []
          if done ≤ i && i < done + vs.length then f ++ [vs.getD (i - done) 0] else f
        { s with aud := { s.aud with ports := Tab.put s.aud.ports port { p with ahead := ahead } } }
    | none => s
  | _ => s

/-- Strobes of one sink at time `at_`: the samples it put out. A sink that waits for the start of its first block stays
silent until then (R482). -/
def State.sinkBatch (s : State) (at_ j n : Nat) : List (Nat × Nat) × State :=
  let x := s.sink j
  match x.startAt with
  | some t =>
    if at_ < t then (List.replicate n (0, 0), s)
    else
      let ramp := if x.rampNext then some (0, max 1 (s.sinkSpan j (s.rampMs * 1000))) else x.ramp
      (s.setSink j { x with started := true, startAt := none, ramp := ramp, rampNext := false }).strobes j n
  | none => s.strobes j n

/-! ### Decision points (R483, R484) -/

/-- Slip control and restarts at a decision point of a sink. -/
def State.decision (s : State) (j : Nat) : State :=
  let x := s.sink j
  let held := x.buf.length - x.newest
  let rate := max 1 ((s.sinkRate j).getD 0)
  if x.under then
    if x.fade.isNone && x.buf ≠ [] && !(s.route j < 16 && s.srcHold (s.route j)) then
      let started := !s.tickFed j && s.sinkSpan j 500 ≤ x.buf.length
      s.setSink j { x with under := false, started := started, rampNext := !started,
                           ramp := if started then some (0, max 1 (s.sinkSpan j (s.rampMs * 1000))) else none }
    else s
  else if !x.started || x.buf = [] then s
  else if held * 1_000_000 < 250 * rate then
    ((s.setSink j { x with buf := x.buf.headD (0, 0) :: x.buf }).count (Reg.AUD_SLIP_REPEAT j) 1).raiseFirst 0x012 2 |>.trace 20 j 1 1
  else if 750 * rate < held * 1_000_000 then
    ((s.setSink j { x with buf := x.buf.drop 1 }).count (Reg.AUD_SLIP_DROP j) 1).raiseFirst 0x012 2 |>.trace 20 j 0 1
  else s

/-- A block of a STREAM source reaches a tick-fed sink at the 30 µs point of an edge (R482): a sink that starts keeps the newest
block and plays it from 500 µs after the edge. -/
def State.block (s : State) (j : Nat) (l : List (Nat × Nat)) : State :=
  let s := l.foldl (fun s v => s.pushSink j v) s
  let x := s.sink j
  if !s.sinkRuns j then s
  else if !x.started && x.fade.isNone then
    let drop := x.buf.length - min x.buf.length l.length
    let s := if drop = 0 then s else s.count (Reg.AUD_SLIP_DROP j) drop
    s.setSink j { x with buf := x.buf.drop drop, newest := l.length, startAt := some (s.tick.lastEdge + 500), under := false,
                         rampNext := x.rampNext || x.under }
  else s.setSink j { x with newest := l.length }

/-- A block of a STREAM source reaches a sink that it feeds: a stream's input, or an output buffer. -/
def State.feedSink (s : State) (j : Nat) (l : List (Nat × Nat)) : State :=
  if s.sinkKind j = 4 then l.foldl (fun s v => s.pushStreams j v.1 false) s else s.block j l

/-! ### A batch -/

/-- The part of `len` things that falls in slice `k` of `n`: its start and its length. -/
def slicePart (len k n : Nat) : Nat × Nat := (len * k / n, len * (k + 1) / n - len * k / n)

/-- Slice `k` of `n` of a batch: samples and strobes fall evenly over it (assumption 45). -/
def cutBatch (a : AudioIn) (k n : Nat) : AudioIn :=
  let cut (c : Nat × List Int) : Nat × List Int :=
    let p := slicePart c.2.length k n
    (c.1, (c.2.drop p.1).take p.2)
  { a with captured := a.captured.map cut, strobes := a.strobes.map fun b => (b.1, (slicePart b.2 k n).2) }

/-- Slices of a batch: as many as its longest part has samples. -/
def batchSlices (a : AudioIn) : Nat :=
  max (a.captured.foldl (fun n c => max n c.2.length) 1) (a.strobes.foldl (fun n b => max n b.2) 1)

/-- The captures and strobes of one slice, at time `at_`; what each sink put out is added to `acc`. -/
def State.audioSlice (s : State) (at_ : Nat) (acc : List (Nat × List (Nat × Nat))) (a : AudioIn) :
    List (Nat × List (Nat × Nat)) × State :=
  let s := a.captured.foldl (fun s c => s.takeCaptured c.1 c.2) s
  a.strobes.foldl (fun (acc : List (Nat × List (Nat × Nat)) × State) b =>
    if acc.2.sinkRuns b.1 then
      let r := acc.2.sinkBatch at_ b.1 b.2
      (Tab.put acc.1 b.1 (Tab.get [] acc.1 b.1 ++ r.1), r.2)
    else acc) (acc, s)

/-- The last `k` of `n` slices of a batch since `from_`. -/
def State.audioSlices (a : AudioIn) (from_ n : Nat) (acc : List (Nat × List (Nat × Nat))) : Nat → State →
    List (Nat × List (Nat × Nat)) × State
  | 0, s => (acc, s)
  | k + 1, s =>
    let i := n - (k + 1)
    let r := s.audioSlice (from_ + (s.now - from_) * (i + 1) / n) acc (cutBatch a i n)
    State.audioSlices a from_ n r.1 k r.2

/-- Captures and strobes since the last batch; the samples that each sink put out, for the island to watch. -/
def State.audioBatch (s : State) (a : AudioIn) : List (Nat × List (Nat × Nat)) × State :=
  State.audioSlices a (max s.aud.lastFrame s.tick.lastEdge) (batchSlices a) [] (batchSlices a) s

/-- Whole model frames close at a tick edge (R20, R21); a frame with any sample of a closed gate is marked. -/
def State.closeFrames (s : State) (k : Nat) : State :=
  match s.str k with
  | none => s
  | some x =>
    if x.source = 0xFF then s
    else
      let n := max 1 (((s.graphOf x.prt).tensor (s.graphOf x.prt).inputTensor).size 0)
      let m := x.part.length / n
      let s := s.setStr k { x with part := x.part.drop (m * n) }
      (List.range m).foldl (fun s i =>
        let f := (x.part.drop (i * n)).take n
        s.pushFrame k { data := f.map Prod.fst, mark := f.any Prod.snd, tag := 0 }) s

/-- Every stream's frames of the tick that ends close. -/
def State.closeAll (s : State) : State := (s.streams.map Prod.fst).foldl (fun s k => s.closeFrames k) s

/-! ### Link-audio rings (R490 to R492) -/

/-- Bytes of a sample (Table 16-7). -/
def audBytes : Nat → Nat
  | 0 => 2 | 1 => 3 | _ => 4

/-- Bytes of a frame of a port. -/
def AudPort.frame (p : AudPort) : Nat := p.channels * audBytes p.format

/-- A sample to host memory, with what it counts (R469, Table 16-7). -/
def audEncode (fmt v : Nat) : List Byte × Nat :=
  if fmt = 4 then (if isNan v then (leBytes 4 0, 1) else (leBytes 4 v, 0))
  else
    let r := toBits (if fmt = 0 then 16 else if fmt = 3 then 32 else 24) v
    (leBytes (audBytes fmt) (r.1 % (2 : Int) ^ (8 * audBytes fmt)).toNat, r.2)

/-- A sample from host memory. -/
def audDecode (fmt : Nat) (b : List Byte) : Nat :=
  if fmt = 4 then leNat b
  else
    let n : Nat := if fmt = 0 then 16 else if fmt = 3 then 32 else 24
    let q := leNat b % 2 ^ n
    r32 (.ofScaled (if q < 2 ^ (n - 1) then (q : Int) else (q : Int) - 2 ^ n) (1 - (n : Int)))

/-- Fill of a ring: how far position `a` lies ahead of `b`, at most the area. -/
def ringFill (area aOff aLaps bOff bLaps : Nat) : Nat :=
  min area ((((aLaps + 2 ^ 32 - bLaps) % 2 ^ 32) * area + aOff) - bOff)

/-- A ring position moved on by `n` bytes. -/
def ringStep (area off laps n : Nat) : Nat × Nat := ((off + n) % max 1 area, (laps + (off + n) / max 1 area) % 2 ^ 32)

/-- Write bytes into a ring's area at an offset, wrapping. -/
def State.ringWrite (s : State) (rider addr area off : Nat) (b : List Byte) : State :=
  let first := b.take (area - off)
  (s.dmaWrite rider (addr + 64 + off) first).dmaWrite rider (addr + 64) (b.drop first.length)

/-- The control block that the FL640 writes (Table 16-6). -/
def State.audControl (s : State) (p : AudPort) : List Byte :=
  leBytes 4 p.devOff ++ leBytes 4 p.devLaps ++ leBytes 8 s.tick.number.toNat ++ leBytes 2 ((s.now - s.tick.lastEdge) % 65536)
    ++ leBytes 2 (Bool.num p.starved) ++ leBytes 12 0

/-- A to-host port at a router-frame edge: its frames go to the ring as far as it has room. -/
def State.audToHost (s : State) (i : Nat) (p : AudPort) (host : List Byte) : State :=
  let (hOff, hLaps) := if 8 ≤ host.length then (leAt host 0 4, leAt host 4 4) else (p.hostOff, p.hostLaps)
  let room := p.area - ringFill p.area p.devOff p.devLaps hOff hLaps
  let whole := p.ahead.filter fun f => f.length = p.channels
  let n := if s.mayIssue p.owner then min whole.length (room / max 1 p.frame) else 0
  let enc := (whole.take n).map fun f => f.map (audEncode p.format)
  let s := (List.range p.channels).foldl (fun s c =>
    s.count (Reg.AUD_CLIP (p.first + c)) (enc.foldl (fun a f => a + (f.getD c ([], 0)).2) 0)) s
  let bytes := enc.flatMap fun f => f.flatMap Prod.fst
  let pos := ringStep p.area p.devOff p.devLaps bytes.length
  let p' : AudPort := { p with devOff := pos.1, devLaps := pos.2, hostOff := hOff, hostLaps := hLaps, ahead := p.ahead.drop n,
                               starved := n < whole.length }
  let s := s.ringWrite p.owner p.addr p.area p.devOff bytes
  ({ s with aud := { s.aud with ports := Tab.put s.aud.ports i p' } }).dmaWrite p.owner p.addr (s.audControl p')

/-- A from-host port at a router-frame edge: the host's position is read, then up to 2 ms of frames ahead. -/
def State.audFromHost (s : State) (i : Nat) (p : AudPort) (host : List Byte) : State :=
  if host.length < 8 || !s.mayIssue p.owner then s
  else
    let hOff := leAt host 0 4
    let hLaps := leAt host 4 4
    let fill := ringFill p.area hOff hLaps p.devOff p.devLaps
    let want := p.rate * 2 / 1000 - p.ahead.length
    let n := min want (fill / max 1 p.frame)
    let b := slice host 8 (n * p.frame)
    let w := audBytes p.format
    let frames := (List.range (b.length / max 1 p.frame)).map fun k => (List.range p.channels).map fun c =>
      audDecode p.format (slice b (k * p.frame + c * w) w)
    let pos := ringStep p.area p.devOff p.devLaps (frames.length * p.frame)
    let p' : AudPort := { p with devOff := pos.1, devLaps := pos.2, hostOff := hOff, hostLaps := hLaps, ahead := p.ahead ++ frames,
                                 starved := p.ahead = [] && frames = [] }
    ({ s with aud := { s.aud with ports := Tab.put s.aud.ports i p' } }).dmaWrite p.owner p.addr (s.audControl p')

/-- Every link-audio port at a router-frame edge. -/
def State.audRings (s : State) (a : AudioIn) : State :=
  s.aud.ports.foldl (fun s x =>
    let host := Tab.get [] a.rings x.1
    if x.2.dir = 0 then s.audToHost x.1 x.2 host else s.audFromHost x.1 x.2 host) s

/-- LNK_AUD_SET settings take effect (R489, R121). -/
def State.applyPorts (s : State) : State :=
  let s := s.aud.setting.foldl (fun s x =>
    let l := Tab.erase s.aud.ports x.1
    { s with aud := { s.aud with ports := match x.2 with | some p => Tab.put l x.1 p | none => l } }) s
  { s with aud := { s.aud with setting := [] } }

/-! ### Routes, holds and ports at a router-frame edge (R467, R468, R487) -/

/-- A route change of a sink is counted and shown (R468). -/
def State.rerouted (s : State) (j old new : Nat) : State :=
  let s := s.count (Reg.AUD_ROUTE_CHANGES j) 1
  let s := if old < 16 then s.count (Reg.AUD_SRC_REROUTES old) 1 else s
  let s := if new < 16 then s.count (Reg.AUD_SRC_REROUTES new) 1 else s
  s.trace 21 j new 0

/-- Sinks after the registers have changed: those that stopped are at rest, those that started are fresh, and those whose
source or kind changed start anew with what they hold; holds begin and end. `old` is the state before. -/
def State.resetSinks (s old : State) : State :=
  (List.range 16).foldl (fun s j =>
    let s := if old.route j ≠ s.route j then s.rerouted j (old.route j) (s.route j) else s
    let x := s.sink j
    let hold (t : State) : Bool := t.route j < 16 && t.srcHold (t.route j)
    if !s.sinkRuns j || s.sinkKind j ≠ old.sinkKind j then s.setSink j Sink.zero
    else if !old.sinkRuns j then s.setSink j Sink.zero
    else if hold s && !x.under then
      s.setSink j { x with under := true, started := false, startAt := none,
                           fade := some { last := x.last, step := 0, len := max 1 (s.sinkSpan j (s.fadeMs * 1000)), held := true } }
    else if old.route j ≠ s.route j && !x.under then
      s.setSink j { x with started := x.started && s.sinkSpan j 500 ≤ x.buf.length }
    else s) s

/-! ### PCM clocks (R479 to R481) -/

/-- A measurement of a slaved direction, in 0.01 Hz. -/
def State.measure (s : State) (p dir rate : Nat) : State :=
  let c := s.pcmClock p dir
  let meas := Reg.PCM_TX_MEAS p + 0x20 * dir
  let ref := Reg.PCM_TX_REF p + 0x20 * dir
  let s := s.wr meas (BitVec.ofNat 32 (rate % 2 ^ 24))
  if !c.refSet then (s.setPcmClock p dir { c with refSet := true }).wr ref (BitVec.ofNat 32 (rate % 2 ^ 24))
  else
    let r := (s.rd ref).toNat
    let thr := max 1 (s.fld (Reg.PCM_RATE_THR p) 0 16)
    if thr * r < (if r ≤ rate then rate - r else r - rate) * 1_000_000 then
      (s.wr ref (BitVec.ofNat 32 (rate % 2 ^ 24))).raiseBit (0x016 + p) dir
    else s

/-- The tick falls back to REF (R481). -/
def State.tickFallback (s : State) : State :=
  let s := { s with tick := { s.tick with source := 0, fallback := true } }
  (s.count Reg.AUD_TICK_LOST 1).raiseBit 0x012 3

/-- The tick source code of a PCM direction (R481): 1 to 4 as A transmit, A receive, B transmit, B receive. -/
def tickSource (p dir : Nat) : Nat := 1 + 2 * p + dir

/-- A slaved direction has lost its clock (R480). -/
def State.clockLost (s : State) (p dir : Nat) : State :=
  let s := s.setPcmClock p dir { (s.pcmClock p dir) with lost := true }
  let s := (s.count (Reg.PCM_CLK_LOST p) 1).raiseBit (0x016 + p) (2 + dir)
  if dir = 0 then (List.range 16).foldl (fun s j =>
    if s.sinkKind j = 1 && s.sinkIndex j % 2 = p then s.setSink j Sink.zero else s) s else s

/-- Edges return: measurement restarts (R480). -/
def State.clockReturn (s : State) (p dir : Nat) : State :=
  s.setPcmClock p dir { (s.pcmClock p dir) with lost := false, refSet := false }

/-! ### Failed ports (R527) -/

/-- The port of a page fails: it is disabled abruptly and stays so until cold reset. -/
def State.failPort (s : State) (pg : Nat) : State :=
  if s.aud.failed.contains pg then s
  else
    let old := s
    let s := { s with aud := { s.aud with failed := pg :: s.aud.failed } }
    let s := if pg < 0x018 then (s.setFld (pcmCtl (pg - 0x016) 0) 0 1 0).setFld (pcmCtl (pg - 0x016) 1) 0 1 0
      else s.setFld (Reg.PDM_CTL (pg - 0x018)) 0 1 0
    let s := (s.recordErrAt pg 0x0D01 0x13).journal 0x16 0x10 4 pg 0
    let s := s.resetSinks old
    if pg < 0x018 && (s.tick.source = tickSource (pg - 0x016) 0 || s.tick.source = tickSource (pg - 0x016) 1) then s.tickFallback
    else s

/-! ### Registers -/

/-- PCM_x_STATUS (Table 16-11). -/
def State.pcmStatus (s : State) (p dir : Nat) : Nat :=
  let on := s.bit (pcmCtl p dir) 0
  let c := s.pcmClock p dir
  let master := s.bit (pcmCtl p dir) 1
  Bool.num (on && !c.lost) + 2 * Bool.num (on && (master || !c.lost)) + 4 * Bool.num (on && !master && c.refSet)

/-- PDM_STATUS (Table 16-10). -/
def State.pdmStatus (s : State) (d : Nat) : Nat :=
  Bool.num (s.bit (Reg.PDM_CTL d) 0) + 2 * Bool.num (d < 4 && s.isl.gate)

end Sys2Proof.Machine
end

