-- ==== Sys2Proof/Machine/Island.lean ====
section
/-! DEFINITION. The safety island (R497 to R519, R529, R530): claims lost, the kickstand with the work it ends, the acoustic
ceiling, the privacy interlock, the rider tag check, the thermal monitor and the self-tests. -/
namespace Sys2Proof.Machine
open Sys2Proof

/-! ### Claims lost (R115) -/

/-- The claim on page `pg` ends without commit: the code is recorded with the former owner as agent. -/
def State.dropClaim (s : State) (pg code : Nat) : State :=
  match Tab.find s.regs.claims pg with
  | none => s
  | some c =>
    let s := { s with regs := { s.regs with claims := Tab.erase s.regs.claims pg } }
    let s := s.setFld (hdrOff pg 0x028) 0 8 0xFF
    (s.recordErrAt pg code c.owner).raiseBit pg 29

/-- Every claim whose owner satisfies `p` is lost (Table 4-5). -/
def State.loseClaims (s : State) (p : Nat → Bool) : State :=
  s.regs.claims.foldl (fun s c => if p c.2.owner then s.dropClaim c.1 0x0104 else s) s

/-! ### Journal and records of the island -/

/-- A SAFETY entry (Table 17-5), submitted by the island with agent 0x20 (R500). -/
def State.safety (s : State) (code arg0 arg1 : Nat) : State := s.journal 0x14 0x20 code arg0 arg1

/-- An error of the SAF page with agent 0xFF. -/
def State.safErr (s : State) (code : Nat) : State := s.recordErrAt 0x005 code 0xFF

/-- Causes of the kickstand in force (Table 17-2). -/
def State.kickCauses (s : State) : Nat := s.fld Reg.SAF_KICK 0 10

/-! ### Work that the kickstand ends (R529, R530) -/

/-- Every stroke stops; streams and sequences stand at their last commit. -/
def State.kickLoops (s : State) : State :=
  let s := s.prts.foldl (fun s p => (s.stopStroke p.1).modPrt p.1 fun x =>
    { x with stroke := none, round := none, faultAt := none, cleared := none, faultWait := none }) s
  let s := s.streams.foldl (fun s x =>
    (s.setStr x.1 { x.2 with work := none, taken := 0, outs := [], inFlight := false, crossing := false }).rollLinks
      (strHandle x.1)) s
  s.seqs.foldl (fun s x => s.setSeq x.1 { x.2.restore with inFlight := false, crossing := false }) s

/-- What an undecided command had begun is undone; an image transfer of it fails with `code`. -/
def State.undoCommand (s : State) (c : Cmd) (code : Nat) : State :=
  let k := handleIdx c.desc.target
  let s := if (s.load c.own.order).isSome then s.failLoad c.own.order code else s
  let s := s.streams.foldl (fun s x =>
    if x.2.own.order = c.own.order && (x.2.ptr.isNone || s.candidate x.2.own) then s.freeStr x.1
    else if x.2.closing = some c.own.order then s.setStr x.1 { x.2 with st := .running, closing := none }
    else s.setStr x.1 { x.2 with exports := x.2.exports.filter fun e => e.order ≠ c.own.order }) s
  let s := s.seqs.foldl (fun s x =>
    if x.2.own.order = c.own.order && s.candidate x.2.own then s.freeSeq x.1
    else if x.2.cancel = some c.own.order then s.setSeq x.1 { x.2 with cancel := none }
    else s) s
  let s := s.prts.foldl (fun s p =>
    if p.2.order ≠ c.own.order then s
    else if p.2.st = .building then { s with prts := Tab.erase s.prts p.1 }
    else if p.2.st = .discarding then s.setPrt p.1 { p.2 with st := .ready }
    else s) s
  let s := s.slots.foldl (fun s x =>
    let x' := { x.2 with unloads := x.2.unloads.filter fun u => u.2 ≠ c.own.order }
    if x.2.st = .evicting && x.2.evictOrder = c.own.order then s.setSlot x.1 { x' with st := .resident } else s.setSlot x.1 x') s
  let s := if c.desc.opcode = 0x50 then { s with aud := { s.aud with setting := Tab.erase s.aud.setting k } } else s
  { s with tan := { s.tan with pairing := s.tan.pairing.filter fun x => x.order ≠ c.own.order,
                                        migOut := s.tan.migOut.filter fun m => m.order ≠ c.own.order } }

/-- An undecided command is undone and ends with KICKSTAND. -/
def State.kickCommand (s : State) (c : Cmd) : State := (s.undoCommand c 0x0406).decide c.own.order 0x0406 0

/-- Every undecided command with opcode 0x10 to 0x61 ends with KICKSTAND. -/
def State.kickCommands (s : State) : State :=
  (s.link.cmds.filter fun c => c.open_ && 0x10 ≤ c.desc.opcode && c.desc.opcode ≤ 0x61).foldl (fun s c => s.kickCommand c) s

/-- Every sequence ends with END, status KICKSTAND, and its pages are free (R396). -/
def State.kickSeqs (s : State) : State :=
  s.seqs.foldl (fun s x => (s.event x.2.own 1 0x0406 x.2.com.produced).freeSeq x.1) s

/-- Streams, their areas and every partition are gone (R530, R68). -/
def State.kickClear (s : State) : State :=
  let s := s.kickSeqs
  let s := s.streams.foldl (fun s x => s.freeStr x.1) s
  let s := { s with prts := [], flights := [], links := [] }
  s.pruneAreas.pruneKv

/-! ### The kickstand (R501 to R504) -/

/-- What the hardware does as the kickstand comes into force (R502, R68): pins and gate follow from `kickRun`; the state of
power is the kickstand from now on. A requested transition that it stops counts as refused (DESIGN CHOICE, assumption 30). -/
def State.kickForce (s : State) : State :=
  let was := s.isl.gate
  let s := if s.fld Reg.PWR_STATE 4 3 = 1 && s.pwr.request.isNone then (s.setFld Reg.PWR_STATE 4 3 5).raiseBit 0x001 1 else s
  let s := { s with isl := { s.isl with kickRun := true, gate := false, closing := s.isl.sink },
                    pwr := { s.pwr with st := .kick, wakeNext := none,
                                        trans := some { src := s.pwr.st, dst := .kick, since := s.now, done := false } } }
  let s := s.setFld Reg.SAF_STATUS 0 1 1
  let s := if was then (s.raiseBit 0x012 4).trace 22 0 0 0 else s
  let s := s.loseClaims fun _ => true
  let s := s.kickLoops.kickCommands
  s.portsOff

/-- A cause of the kickstand arises (R501 to R503). A cause already in force adds nothing. -/
def State.kick (s : State) (cause : Nat) : State :=
  if s.kickCauses.testBit cause then s
  else
    let causes := setBit s.kickCauses cause
    let s := if cause = 4 ∨ cause = 7 then s.safErr 0x0C05 else s
    let again := s.pwr.st = .kick && s.isl.kickRun
    let s := (s.safety 1 causes 0).raiseBit 0x005 0
    (if again then s else s.kickForce).wr Reg.SAF_KICK (BitVec.ofNat 32 causes)

/-- A cause clears; with the last one the kickstand is released (R503, R530, R68). -/
def State.unkick (s : State) (cause : Nat) : State :=
  if !s.kickCauses.testBit cause then s
  else
    let causes := clearBit s.kickCauses cause
    let s :=
      if causes ≠ 0 then s
      else
        let s := s.kickClear
        let s := { s with isl := { s.isl with kickRun := false },
                          pwr := { s.pwr with trans := some { src := .kick, dst := .serve, since := s.now, done := false } } }
        let s := s.setFld Reg.SAF_STATUS 0 1 0
        (s.safety 2 0 0).raiseBit 0x005 1
    s.wr Reg.SAF_KICK (BitVec.ofNat 32 causes)

/-! ### The acoustic ceiling (R505 to R509) -/

/-- The pin output, and its slot, that a sink serves: 0 and 1 PCM transmit, 2 and 3 PDM outputs. -/
def State.pinOf (s : State) (j : Nat) : Option (Nat × Nat) :=
  match s.sinkKind j with
  | 1 => some (s.sinkIndex j % 2, s.sinkSlot j)
  | 2 => some (2 + s.sinkIndex j / 2 % 2, s.sinkIndex j % 2)
  | _ => none

/-- Square, in units of 2⁻²⁹⁸, of a sample as it stands at serialiser entry, after its conversion. -/
def State.entrySquare (s : State) (j v : Nat) : Nat :=
  match s.sinkKind j with
  | 1 =>
    let n := s.sampleBits (s.sinkIndex j % 2) 0
    ((toBits n v).1.natAbs * 2 ^ (150 - n)) ^ 2
  | 2 =>
    match v32 (clip75 v).1 with
    | .fin _ a d e => (a * 2 ^ (e + 149).toNat / (d * 2 ^ (-(e + 149)).toNat)) ^ 2
    | _ => 0
  | _ => 0

/-- A meter at rest. -/
def Meter.zero : Meter := { recent := [], part := 0, long := [] }

/-- A pin output at rest. -/
def PinOut.zero : PinOut := { meters := [], hit := none, muted := false, mutedAt := 0, clear := false }

/-- Pin output `o`. -/
def State.pinOut (s : State) (o : Nat) : PinOut := Tab.get PinOut.zero s.isl.outs o

/-- The state with a pin output replaced. -/
def State.setPinOut (s : State) (o : Nat) (x : PinOut) : State :=
  { s with isl := { s.isl with outs := Tab.put s.isl.outs o x } }

/-- Sample rate of pin output `o`. -/
def State.pinRate (s : State) (o : Nat) : Nat :=
  if o < 2 then s.fld (pcmRate o 0) 0 17 else s.fld (Reg.PDM_RATE (2 + o)) 0 17

/-- A 16-bit field as a signed number. -/
def signed16 (v : Nat) : Int := if v % 65536 < 32768 then v % 65536 else (v % 65536 : Int) - 65536

/-- The limit in force of a meter, 0 short and 1 long, in units of 0.25 dB (R509): the lesser of the working and the stored
limit. -/
def State.ceiling (s : State) (o which : Nat) : Int :=
  min (signed16 (s.fld (Reg.SAF_CEIL_LIMIT o) (16 * which) 16)) (signed16 (Word.fld (Tab.get 0 s.part.ceilMax o) (16 * which) 16))

/-- The mean square `sum` / (`n` 2²⁹⁸) exceeds 0.5 × 10^(q/80) (R505): a level of q units of 0.125 dB. -/
def above (sum n : Nat) (q : Int) : Bool :=
  if 0 ≤ q then n ^ 80 * 2 ^ (297 * 80) * 10 ^ q.toNat < sum ^ 80 else n ^ 80 * 2 ^ (297 * 80) < sum ^ 80 * 10 ^ (-q).toNat

/-- The level as a count of 0.25 dB, to the nearest, from −384 to +12 (R505). -/
def levelQ (sum n : Nat) : Int :=
  -384 + ((List.range 396).filter fun (i : Nat) => above sum n (2 * ((i : Int) - 384) + 1)).length

/-- Samples of the short window (R505). -/
def State.shortLen (s : State) (o : Nat) : Nat := max 1 (ceilDiv (s.pinRate o * 2) 1000)

/-- Sum of a list. -/
def total (l : List Nat) : Nat := l.foldl (· + ·) 0

/-- The short window's level exceeds its limit in some slot; the highest level is given. -/
def State.shortHit (s : State) (o : Nat) (l : List (Nat × Meter)) : Option Int :=
  let n := s.shortLen o
  let q := s.ceiling o 0
  let over_ := l.filter fun m => above (total m.2.recent) n (2 * q)
  match over_ with
  | [] => none
  | m :: t => some (levelQ (t.foldl (fun a x => max a (total x.2.recent)) (total m.2.recent)) n)

/-- One sample for each slot enters the meters. -/
def meterIn (n : Nat) (meters : List (Nat × Meter)) (l : List (Nat × Nat)) : List (Nat × Meter) :=
  l.foldl (fun ms x =>
    let m := Tab.get Meter.zero ms x.1
    Tab.put ms x.1 { m with recent := (x.2 :: m.recent).take n, part := m.part + x.2 }) meters

/-- Samples at serialiser entry of output `o`, as (slot, squares) rows, oldest first: how many samples pass before the output
is muted (R506). -/
def State.watch (s : State) (o : Nat) (rows : List (Nat × List Nat)) : Nat → Nat → Nat × State
  | 0, i => (i, s)
  | left + 1, i =>
    let x := s.pinOut o
    let now := rows.map fun r => (r.1, if x.muted then 0 else r.2.getD i 0)
    let ms := meterIn (s.shortLen o) x.meters now
    if x.muted then
      let r := State.watch (s.setPinOut o { x with meters := ms }) o rows left (i + 1)
      (i, r.2)
    else match s.shortHit o ms with
      | none => State.watch (s.setPinOut o { x with meters := ms }) o rows left (i + 1)
      | some q =>
        let t := s.setPinOut o { x with meters := ms, hit := some (0, q), muted := true, mutedAt := s.now }
        let r := State.watch t o rows left (i + 1)
        (i + 1, r.2)

/-- An exceedance is recorded (R506). -/
def State.recordHit (s : State) (o : Nat) : State :=
  let x := s.pinOut o
  match x.hit with
  | none => s
  | some (which, q) =>
    let lvl := (q % 65536).toNat
    let s := s.setPinOut o { x with hit := none }
    let s := s.wr (Reg.SAF_CEIL_STATE o) (BitVec.ofNat 32 (1 + 2 * which + lvl * 2 ^ 16))
    let s := (s.count (Reg.SAF_CEIL_MUTES o) 1).safErr 0x0C01
    (s.safety 3 o lvl).raiseBit 0x005 2

/-- Exceedances that no command has recorded yet. -/
def State.recordHits (s : State) : State := (List.range 4).foldl (fun s o => s.recordHit o) s

/-- The long window's sum of a meter (R505): the latest 30 s in parts of 2 ms. -/
def Meter.longSum (m : Meter) : Nat := total m.long

/-- The long meters of output `o` are evaluated (R505, R506): the samples since the last evaluation join the window. -/
def State.evalLong (s : State) (o : Nat) : State :=
  let x := s.pinOut o
  let ms := x.meters.map fun m => (m.1, { m.2 with part := 0, long := (m.2.part :: m.2.long).take 15_000 })
  let s := s.setPinOut o { x with meters := ms }
  if x.muted then s
  else
    let n := max 1 (s.pinRate o * 30)
    let top := ms.foldl (fun a (m : Nat × Meter) => max a m.2.longSum) 0
    if above top n (2 * s.ceiling o 1) then
      (s.setPinOut o { x with meters := ms, hit := some (1, levelQ top n), muted := true, mutedAt := s.now }).recordHit o
    else
      let short := ms.foldl (fun a (m : Nat × Meter) => max a (total m.2.recent)) 0
      s.setFld (Reg.SAF_CEIL_STATE o) 16 16 ((levelQ short (s.shortLen o)) % 65536).toNat

/-- SAF_TEST.ceiling: one evaluation at +3 dBFS, a level of 12 (Table 17-7). -/
def State.testCeiling (s : State) (o : Nat) : State :=
  let x := s.pinOut o
  if x.muted then s
  else if s.ceiling o 0 < 12 then (s.setPinOut o { x with hit := some (0, 12), muted := true, mutedAt := s.now }).recordHit o
  else if s.ceiling o 1 < 12 then (s.setPinOut o { x with hit := some (1, 12), muted := true, mutedAt := s.now }).recordHit o
  else s

/-- Every sink of output `o` restarts with a rising gain (R508). -/
def State.restartPin (s : State) (o : Nat) : State :=
  (List.range 16).foldl (fun s j =>
    if (s.pinOf j).map Prod.fst = some o then
      s.setSink j { s.sink j with started := false, startAt := none, fade := none, ramp := none, under := false, rampNext := true }
    else s) s

/-- A clear that waited acts at the router-frame edge (R508). -/
def State.clearMute (s : State) (o : Nat) : State :=
  let x := s.pinOut o
  if !x.clear then s
  else
    let s := s.setPinOut o { x with clear := false }
    if !x.muted then s
    else
      let n := max 1 (s.pinRate o * 30)
      if x.meters.any fun m => above m.2.longSum n (2 * s.ceiling o 1) then s.badVal 0 (Reg.SAF_CEIL_STATE o)
      else
        let s := s.setPinOut o { meters := x.meters.map fun m => (m.1, { m.2 with recent := [] }), hit := none, muted := false,
                                 mutedAt := 0, clear := false }
        ((s.setFld (Reg.SAF_CEIL_STATE o) 0 1 0).restartPin o).safety 7 o 0

/-- What the sinks put out in a batch passes the island: pins are metered and muted (R505, R506), and silent in the kickstand
(R488, R502). -/
def State.serialise (s : State) (l : List (Nat × List (Nat × Nat))) : State :=
  let dead := s.isl.kickRun || s.pwr.st = .kick
  let pins := l.filter fun x => (s.pinOf x.1).isSome
  let s := (l.filter fun x => (s.pinOf x.1).isNone).foldl (fun s x => s.putOut x.1 false x.2) s
  (List.range 4).foldl (fun s o =>
    let mine := pins.filter fun x => (s.pinOf x.1).map Prod.fst = some o
    if mine = [] then s
    else
      let rows := mine.map fun x => (((s.pinOf x.1).map Prod.snd).getD 0,
        x.2.map fun v => if dead then 0 else s.entrySquare x.1 v.1)
      let n := mine.foldl (fun a x => max a x.2.length) 0
      let r := s.watch o rows n 0
      mine.foldl (fun s x =>
        s.putOut x.1 dead (x.2.take r.1 ++ (x.2.drop r.1).map fun _ => (0, 0))) r.2) s

/-- A batch of the audio section, with what the island makes of it. -/
def State.playBatch (s : State) (a : AudioIn) : State :=
  let s := s.recordHits
  let r := s.audioBatch a
  r.2.serialise r.1

/-! ### The privacy interlock (R510 to R514) -/

/-- A privacy fault is latched. -/
def State.privFault (s : State) : Bool := s.bit Reg.SAF_PRIV 2

/-- Latch a privacy fault of a kind (R512, R513); one already latched stays as it is. -/
def State.latchPriv (s : State) (kind : Nat) : State :=
  if s.privFault then s
  else
    let s := (s.setFld Reg.SAF_PRIV 2 1 1).setFld Reg.SAF_PRIV 3 2 kind
    ((s.safErr 0x0C02).safety 4 kind 0).raiseBit 0x005 3

/-- The conditions of R511, step 1. -/
def State.gateWanted (s : State) : Bool :=
  s.bit Reg.AUD_GATE 0 && s.isl.policy ≠ 0 && !s.privFault && !s.isl.kickRun && s.pwr.st ≠ .kick

/-- The gate and the lamp at a router-frame edge (R511, R512). -/
def State.gateEdge (s : State) : State :=
  let i := s.isl
  let s := { s with isl :=
    if i.lampFault then { i with lampFault := false, gate := false, sink := false, closing := false, lit := 0, dark := 0 }
    else if i.gate then (if s.gateWanted then i else { i with gate := false, closing := true })
    else
      let j := if i.closing then { i with closing := false, sink := false, lit := 0, dark := 0 } else i
      if j.sink then
        (if !s.gateWanted then { j with sink := false, lit := 0, dark := 0 } else if 5 ≤ j.lit then { j with gate := true } else j)
      else if s.gateWanted then { j with sink := true, lit := 0, dark := 0 }
      else j }
  if i.gate = s.isl.gate then s else (s.raiseBit 0x012 4).trace 22 0 (Bool.num s.isl.gate) 0

/-- A policy that waited applies (R510). -/
def State.policyEdge (s : State) : State :=
  match s.isl.polNext with
  | none => s
  | some p => { s with isl := { s.isl with policy := p, polNext := none } }

/-- One sample of the sink current and of the voltage across the lamp (R47, R512). -/
def State.senseLamp (s : State) (current : Bool) (mv : Nat) : State :=
  let i := s.isl
  let lit := current && 1200 ≤ mv && mv ≤ 3600 && i.forceDark = 0
  let dark := if lit then 0 else i.dark + 1
  let s := { s with isl := { i with sense := mv, lit := if lit then i.lit + 1 else 0, dark := dark, forceDark := i.forceDark - 1 } }
  if dark = 5 && !s.privFault then
    ({ s with isl := { s.isl with lampFault := true } }).latchPriv 1
  else s

/-! ### The rider tag check (R515 to R517) -/

/-- A block of an object fails the tag check (R517): counted and recorded, the destination's owner as agent. -/
def State.tagFails (s : State) (handle tag agent : Nat) : State :=
  let s := s.count Reg.SAF_TAG_MISMATCHES 1
  let s := (s.wr Reg.SAF_TAG_LAST (BitVec.ofNat 32 (tag % 65536))).wr Reg.SAF_TAG_LAST_HANDLE (BitVec.ofNat 32 handle)
  let s := s.recordErrAt 0x005 0x0C03 agent
  (s.safety 5 handle (tag % 65536)).raiseBit 0x005 4

/-- A tag lies within a permitted mask. -/
def tagWithin (tag mask : Nat) : Bool := Nat.land tag mask = tag

/-! ### Thermal (R518) -/

/-- A sample of the island's sensor, in quarter degrees. -/
def State.islandTemp (s : State) (q : Int) : State :=
  let hot := if 440 ≤ q then s.isl.hot + 1 else 0
  let cool := if q < 380 then some (s.isl.coolFrom.getD s.now) else none
  let s := s.setFld Reg.SAF_TEMP 0 16 (q % 65536).toNat
  let s := { s with isl := { s.isl with hot := hot, coolFrom := cool } }
  if 4 ≤ hot then s.kick 4 else s

/-- The island's sensor, as last sampled. -/
def State.islandQ (s : State) : Int := signed16 (s.fld Reg.SAF_TEMP 0 16)

/-- The comparison with THM sensor 8 (R518). -/
def State.compareSensors (s : State) : State :=
  let t := Tab.get { temp := 0, valid := false, flagged := false } s.sensors 8
  if !t.valid then s
  else
    let n := if 40 < (s.islandQ - t.temp).natAbs then s.isl.apart + 1 else 0
    let s := { s with isl := { s.isl with apart := n } }
    if 3 ≤ n then s.kick 7 else s

/-! ### Self-tests (R519) -/

/-- A run of the self-tests ends with a mask of failed tests: 1 start-up, 2 periodic. -/
def State.selfTests (s : State) (failed when_ : Nat) : State :=
  let s := s.count Reg.SAF_SELFTEST_RUNS 1
  let s := s.setFld Reg.SAF_TEMP 31 1 (Bool.num (!failed.testBit 9))
  if failed = 0 then s
  else
    let s := s.setFld Reg.SAF_SELFTEST 0 10 failed
    let s := (s.safety 6 failed when_).safErr 0x0C04
    let s := if failed.testBit 7 then s.latchPriv (if when_ = 1 then 3 else 2) else s
    let s := if failed.testBit 9 then s.kick 7 else s
    let s := if failed.testBit 2 then s.kick 8 else s
    if (List.range 10).any fun t => failed.testBit t && t ≠ 2 && t ≠ 7 && t ≠ 9 then s.kick (when_ - 1) else s

end Sys2Proof.Machine
end

