-- ==== Sys2Proof/Machine/Power.lean ====
section
/-! DEFINITION. Supply, clocks, heat and power states (R60 to R94, R145 to R147, R233): sensors and the headwind governor,
the DVFS point, the tick's windows, requests for power states, transitions and wake causes, and the tick generator's
control. -/
namespace Sys2Proof.Machine
open Sys2Proof

/-! ### Sensors (R81, R88) -/

/-- Sensor `i` is fitted (Table 3-10). -/
def sensorFitted (v : Variant) (i : Nat) : Bool :=
  i ≤ 8 || (9 ≤ i && i < 9 + v.stacks) || i = 13 || (i = 14 && v.tandem)

/-- The die that carries a sensor: 0 compute, 9 to 12 one for each weight stack, 13 host, 14 tandem. -/
def sensorDie (i : Nat) : Nat := if i ≤ 8 then 0 else i

/-- A sensor before its first sample. -/
def Sensor.zero : Sensor := { temp := 0, valid := false, flagged := false }

/-- Sensor `i`. -/
def State.sensor (s : State) (i : Nat) : Sensor := Tab.get Sensor.zero s.sensors i

/-- The greater of two values; the first where they are equal. -/
def hotter (a b : Option (Int × Nat)) : Option (Int × Nat) :=
  match a, b with
  | some x, some y => if x.1 < y.1 then some y else some x
  | some x, none => some x
  | none, y => y

/-- The hottest valid sensor for which `p` holds, with its index. -/
def State.hottest (s : State) (p : Nat → Bool) : Option (Int × Nat) :=
  ((List.range 16).filter fun i => p i && (s.sensor i).valid).foldl (fun a i => hotter a (some ((s.sensor i).temp, i))) none

/-- What the governor takes for a fitted sensor (R88). -/
def State.sensorValue (s : State) (i : Nat) : Int :=
  if (s.sensor i).valid then (s.sensor i).temp
  else match s.hottest fun j => sensorDie j = sensorDie i with
    | some x => x.1 + 12
    | none => 4 * s.fld Reg.THM_CTL 8 8

/-- Hottest value over the fitted sensors, with the index it stands for. -/
def State.hottestValue (s : State) : Option (Int × Nat) :=
  ((List.range 16).filter (sensorFitted s.part.variant)).foldl (fun a i => hotter a (some (s.sensorValue i, i))) none

/-- One sample of every sensor (R81, R88): the readings are those of the sensors that pass their plausibility check. -/
def State.sampleSensors (s : State) (readings : List (Nat × Int)) : State :=
  let s := ((List.range 16).filter (sensorFitted s.part.variant)).foldl (fun s i =>
    let x := s.sensor i
    match Tab.find readings i with
    | some q => { s with sensors := Tab.put s.sensors i { x with temp := q, valid := true } }
    | none =>
      let s := { s with sensors := Tab.put s.sensors i { x with valid := false, flagged := true } }
      if x.flagged then s else s.raiseBit 0x003 3) s
  match s.hottestValue with
  | none => s
  | some x =>
    if s.gov.seen && x.1 ≤ s.gov.tmax then s
    else { s with gov := { s.gov with tmax := x.1, tmaxIdx := x.2, seen := true } }

/-- THM_SENSOR[i]. -/
def State.sensorWord (s : State) (i : Nat) : Nat :=
  ((s.sensor i).temp % 65536).toNat + Bool.num (s.sensor i).valid * 2 ^ 31

/-! ### The governor (R82 to R86) -/

/-- The power component in force: a decay that is due counts from the edge that made it due. -/
def Governor.power (g : Governor) : Nat := if 8 ≤ g.lowEdges then g.hPower - 1 else g.hPower

/-- The thermal component in force. -/
def Governor.thermal (g : Governor) : Nat := if 8 ≤ g.coolEdges then g.hThermal - 1 else g.hThermal

/-- The DVFS cap in force. -/
def Governor.capNow (g : Governor) : Nat :=
  if 10 ≤ g.hotEdges then g.cap - 1 else if 100 ≤ g.easyEdges then min 3 (g.cap + 1) else g.cap

/-- Headwind in force (R82). -/
def Governor.headwind (g : Governor) : Nat := max g.power g.thermal

/-- A due decay of the power component is taken (R82); its count restarts. -/
def Governor.settlePower (g : Governor) : Governor :=
  if 8 ≤ g.lowEdges then { g with hPower := g.hPower - 1, lowEdges := 0 } else g

/-- A due decay of the thermal component is taken (R82). -/
def Governor.settleThermal (g : Governor) : Governor :=
  if 8 ≤ g.coolEdges then { g with hThermal := g.hThermal - 1, coolEdges := 0 } else g

/-- A due change of the cap is taken (R85); both counts restart after a change. -/
def Governor.settleCap (g : Governor) : Governor :=
  if g.capNow ≠ g.cap then { g with cap := g.capNow, hotEdges := 0, easyEdges := 0 }
  else { g with hotEdges := g.hotEdges % 10, easyEdges := g.easyEdges % 100 }

/-- The thermal target for a Tmax in quarter degrees (R82). -/
def thermalTarget (tmax : Int) (warn hot : Nat) : Nat :=
  if tmax < 4 * warn then 0 else min 12 (1 + (tmax - 4 * warn).toNat * 11 / (4 * hot - 4 * warn))

/-- The average power after a tick: `len` and `window` in µs, powers in nW (R82). -/
def nextAvg (avg tick len window : Nat) : Nat :=
  if avg ≤ tick then avg + (tick - avg) * len / max 1 window else avg - min avg ((avg - tick) * len / max 1 window)

/-- P_tick in nW. -/
def tickPower (uJ lenUs : Nat) : Nat := uJ * 1_000_000_000 / max 1 lenUs

/-- The governor at a tick edge (R82, R85, R86): `over` is Tmax at or above 105 °C. -/
def Governor.edge (g : Governor) (pTick len window limit : Nat) (tmax : Int) (warn hot : Nat) : Governor :=
  let g := g.settlePower.settleThermal.settleCap
  let avg := nextAvg g.pAvg pTick len window
  let target := thermalTarget tmax warn hot
  let hot105 := 420 ≤ tmax
  let g := { g with pAvg := avg,
                    hPower := if limit < avg then min 12 (g.hPower + 1) else g.hPower,
                    lowEdges := if limit < avg then 0 else if avg * 10 ≤ 9 * limit then g.lowEdges + 1 else 0,
                    hThermal := if hot105 then 12 else max g.hThermal target,
                    coolEdges := if !hot105 && target < g.hThermal then g.coolEdges + 1 else 0,
                    cap := if hot105 then 0 else g.cap }
  let h := g.headwind
  let press := h = 12 && (limit < avg || 4 * (hot : Int) ≤ tmax)
  let ease := h ≤ 8 && tmax < 4 * (hot : Int) - 12 && avg * 10 < 9 * limit
  { g with hotEdges := if press && !hot105 then g.hotEdges + 1 else 0, easyEdges := if ease then g.easyEdges + 1 else 0 }

/-- The governor's work at a tick edge: the energy of the tick just ended, P_tick and P_avg, Tmax, the headwind with what it
counts and raises (R82 to R86, R94). -/
def State.govern (s : State) (uJ : Nat) : State :=
  let warn := s.fld Reg.THM_CTL 0 8
  let hot := s.fld Reg.THM_CTL 8 8
  let len := tickUs s.tick.length
  let tmax := if s.gov.seen then s.gov.tmax else s.gov.lastTmax
  let capWas := s.gov.capNow
  let pTick := tickPower uJ len
  let g := s.gov.edge pTick len (s.fld Reg.PWR_LIMIT 16 12 * 1000) (s.fld Reg.PWR_LIMIT 0 16 * 1_000_000) tmax warn hot
  let overAllow := s.fld Reg.PWR_HEADWIND_CTL 0 4 < g.headwind
  let over105 := 420 ≤ tmax
  let warned := 4 * (warn : Int) ≤ tmax
  let isHot := 4 * (hot : Int) ≤ tmax
  let was := s.gov
  let s := { s with gov := { g with overAllow := overAllow, over105 := over105, warned := warned, wasHot := isHot, seen := false,
                                    lastTmax := tmax } }
  let s := s.count48 Reg.PWR_ENERGY_LO uJ
  let s := s.wr Reg.PWR_AVG (BitVec.ofNat 32 (min 65535 (g.pAvg / 1_000_000) + min 65535 (pTick / 1_000_000) * 65536))
  let w := (tmax % 65536).toNat + was.tmaxIdx * 2 ^ 16
  let s := s.wr Reg.THM_MAX (BitVec.ofNat 32 w)
  let peak := s.rd Reg.THM_PEAK
  let s := if peak = 0 || signed16 (Word.fld peak 0 16) < tmax then s.wr Reg.THM_PEAK (BitVec.ofNat 32 w) else s
  let s := if warned then s.count Reg.THM_WARN_TICKS 1 else s
  let s := if warned && !was.warned then s.raiseBit 0x003 0 else s
  let s := if isHot && !was.wasHot then s.raiseBit 0x003 1 else s
  let s := if over105 && !was.over105 then (s.raiseBit 0x003 2).journal 0x15 0x21 2 was.tmaxIdx 0 else s
  let s := if overAllow then s.count Reg.PWR_OVER_ALLOWANCE 1 else s
  let s := if overAllow && !was.overAllow then s.raiseBit 0x001 3 else s
  if g.capNow ≠ capWas then s.raiseBit 0x002 2 else s

/-- PWR_HEADWIND. -/
def State.headwindWord (s : State) : Nat := s.gov.headwind + s.gov.power * 2 ^ 4 + s.gov.thermal * 2 ^ 8

/-! ### The DVFS point (R76 to R78, R85) -/

/-- Every loop's obligation fits its budget at point `pt` (R78). -/
def State.pointFits (s : State) (pt : Nat) : Bool :=
  let t := s.setFld Reg.CLK_SPOKE_STATUS 0 2 pt
  t.prts.all fun x => x.2.st ≠ .ready || t.predictAll x.1 x.2.gear (t.obligation x.1) ≤ x.2.budget * 1_000_000

/-- The point for the tick that the edge begins (R78); in LISTEN point 0 (Table 3-8); while the SERVE hub restarts the point
stays, but is lowered to the cap (R85). -/
def State.pointFor (s : State) : Nat :=
  let cap := s.gov.capNow
  if s.restarting 1 then min s.point cap
  else if s.pwr.st = .listen then 0
  else
    let hi := min (s.fld Reg.CLK_SPOKE_CTL 0 2) cap
    let lo := min (s.fld Reg.CLK_SPOKE_CTL 4 2) (s.fld Reg.CLK_SPOKE_CTL 0 2)
    if s.bit Reg.CLK_SPOKE_CTL 8 then hi
    else ((List.range 4).find? fun p => lo ≤ p && p ≤ hi && s.pointFits p).getD hi

/-- The point is chosen and the clock switched (R77). -/
def State.choosePoint (s : State) : State :=
  let p := s.pointFor
  if p = s.point then s
  else ((s.setFld Reg.CLK_SPOKE_STATUS 0 2 p).count Reg.CLK_SPOKE_CHANGES 1).trace 14 0 p s.gov.capNow

/-! ### Windows of a tick (R146, R147, R233, R234) -/

/-- Stack `k` is under hot refresh (R233). -/
def State.hotStack (s : State) (k : Nat) : Bool := !(s.sensor (9 + k)).valid || 340 ≤ (s.sensor (9 + k)).temp

/-- The channel of stack `k` whose window runs in the tick that begins: the first that wants one. -/
def State.nextWindow (s : State) (k : Nat) : Option Nat :=
  (List.range 8).findSome? fun i =>
    if (s.chan (8 * k + i)).due && (s.chan (8 * k + i)).st = .active then some (8 * k + i) else none

/-- The windows of the tick that the edge begins: retraining, at most one on a stack, and hot refresh. A window still running
stands for one that was not run; while the BOOT hub restarts none begins. -/
def State.openWindows (s : State) : State :=
  let all := List.range s.part.variant.stacks
  let s := (List.range s.chanCount).foldl (fun s n =>
    if (s.chan n).window then s.setChan n { s.chan n with window := false } else s) s
  let s := if s.restarting 0 then s else all.foldl (fun s k =>
    match s.nextWindow k with
    | some n => s.setChan n { s.chan n with window := true }
    | none => s) s
  let hot := if s.pwr.st = .serve || s.pwr.st = .listen then listMask (all.filter s.hotStack) else 0
  let old := s.mem.hot
  let s := s.setMem { s.mem with hot := hot }
  (maskList 4 hot).foldl (fun s k =>
    let s := s.count (Reg.STK_REFRESH_WINDOWS k) 1
    if old.testBit k then s else s.raiseBit (0x050 + k) 1) s

/-- The term W of a partition in µs (R234). -/
def State.windowUs (s : State) (p : Nat) : Nat :=
  let homes := s.prtHomes p
  80 * (homes.filter fun n => (s.chan n).window).length + (if homes.any fun n => s.mem.hot.testBit (stackOf n) then 20 else 0)

/-- Budgets and windows of every partition for the tick that begins; the last tick's measures are set aside (R83, R427). -/
def State.setBudgets (s : State) : State :=
  let h := s.gov.headwind
  s.prts.foldl (fun s x =>
    let w := s.windowUs x.1
    s.modPrt x.1 fun y =>
      { y with lastBud := y.budget, lastUsed := y.usedPs / 1_000_000, lastStrokes := y.strokes, lastIn := y.inLast,
               budget := s.groupLeast y.slot none (budgetUs (tickUs s.tick.length) w h), wTick := w, strokes := 0, mains := 0, usedPs := 0, inLast := 0,
               overTick := y.overNow, overNow := false, judged := false, faultTick := false,
               maxStrokes := max 1 (s.fld Reg.SRV_STROKE_CTL 0 6) }) s

/-! ### Channels and power (R63, R64) -/

/-- Channel `n` is to be active in the power state in force. -/
def State.channelOn (s : State) (n : Nat) : Bool :=
  match s.pwr.st with
  | .serve => s.prts.any fun x => (s.prtHomes x.1).contains n
  | .listen => (s.homesOf (2 ^ s.fld Reg.PWR_LISTEN_CTL 0 3)).contains n
  | .kick | .aon | .off => false

/-- Channels are active or in self-refresh as Table 3-2 states. -/
def State.settleChannels (s : State) : State :=
  (List.range s.chanCount).foldl (fun s n =>
    let c := s.chan n
    let st : ChanState := if s.channelOn n then .active else .selfRefresh
    if c.survives && c.st ≠ st then s.setChan n { c with st := st } else s) s

/-- The stack's temperature where its sensor is valid. -/
def State.stackTemp (s : State) (k : Nat) : Option Int := if (s.sensor (9 + k)).valid then some (s.sensor (9 + k)).temp else none

/-- Channels that were switched off are powered and trained (Table 3-5); those of a lost row stay off. -/
def State.powerChannels (s : State) : State :=
  (List.range s.chanCount).foldl (fun s n =>
    let c := s.chan n
    if c.st = .off && s.homed n ≠ [] then
      s.setChan n { c with st := .selfRefresh, trainedAt := s.now, trainedT := s.stackTemp (stackOf n), due := false }
    else s) s

/-- Every channel is switched off and loses its contents: partitions are discarded, slots emptied and the hubs' logs go (R64,
R268, R545). -/
def State.stacksOff (s : State) : State :=
  let s := (s.prts.map Prod.fst).foldl (fun s p => s.dropPrt p) s
  let s := s.loads.foldl (fun s l => s.failLoad l.order 0x0401) s
  let s := (s.slots.map Prod.fst).foldl (fun s n => s.emptySlot n) s
  let s := s.setMem { s.mem with allocs := [], wants := [] }
  let s := (List.range s.chanCount).foldl (fun s n =>
    if (s.chan n).survives then s.setChan n { s.chan n with st := .off, bad := [], window := false } else s) s
  { s with trc := { s.trc with logs := [] } }

/-! ### Transitions (R65 to R72) -/

/-- Codes of PWR_STATE.state (Table 3-3). -/
def PowerState.code : PowerState → Nat | .off => 0 | .aon => 1 | .listen => 2 | .serve => 3 | .kick => 4

/-- The power state of a code. -/
def PowerState.ofCode (n : Nat) : PowerState := if n = 1 then .aon else if n = 2 then .listen else .serve

/-- A transition starts. -/
def State.beginTransition (s : State) (dst : PowerState) : State :=
  { s with pwr := { s.pwr with trans := some { src := s.pwr.st, dst := dst, since := s.now, done := false } } }

/-- Outcome of a request: 2 done, 3 unmet, 4 invalid, 5 kickstand; with its interrupt (R67, R92). -/
def State.requestEnds (s : State) (code : Nat) : State :=
  (s.setFld Reg.PWR_STATE 4 3 code).raiseBit 0x001 (if code = 2 then 0 else 1)

/-- The request whose transition now is complete is done. -/
def State.requestDone (s : State) : State := if s.fld Reg.PWR_STATE 4 3 = 1 && s.pwr.request.isNone then s.requestEnds 2 else s

/-- A tandem port is up (Table 3-4). -/
def State.portIsUp (s : State) (p : Nat) : Bool := (s.tport p).st = .up || ((s.tport p).st = .degrading && (s.tport p).willUp)

/-- A partition has no member and no open stream. -/
def State.prtQuiet (s : State) (p : Nat) : Bool := s.members p = 0 && s.strOf p = [] && s.seqOf p = []

/-- Every audio port is disabled. -/
def State.portsDisabled (s : State) : Bool :=
  s.aud.ports = [] && ([0, 1].all fun p => !s.bit (Reg.PCM_TX_CTL p) 0 && !s.bit (Reg.PCM_RX_CTL p) 0)
    && ((List.range 4).all fun d => s.fld (Reg.PDM_CTL d) 0 2 = 0) && ([4, 5].all fun d => s.fld (Reg.PDM_CTL d) 0 2 = 0)

/-- The listen partition's row set. -/
def State.listenRows (s : State) : Nat := 2 ^ s.fld Reg.PWR_LISTEN_CTL 0 3

/-- Entry conditions (Table 3-4). -/
def State.entryMet (s : State) (dst : PowerState) : Bool :=
  match dst with
  | .listen => (s.prts.any fun x => x.2.rows = s.listenRows && x.2.st ≠ .building && x.2.st ≠ .discarding)
      && (s.prts.all fun x => x.2.rows = s.listenRows || s.prtQuiet x.1) && [0, 1].all fun p => !s.portIsUp p
  | .aon => (s.prts.all fun x => s.prtQuiet x.1) && s.portsDisabled && ([0, 1].all fun p => !s.portIsUp p) && s.tick.source = 0
  | .serve | .kick | .off => true

/-- LISTEN comes into force (Table 3-5): partitions other than the listen partition are parked, and tandem ports go off. -/
def State.enterListen (s : State) : State :=
  let s := (s.beginTransition .listen).portsOff
  let s := { s with pwr := { s.pwr with st := .listen } }
  s.prts.foldl (fun s x =>
    if x.2.rows ≠ s.listenRows && x.2.st = .ready then s.setPrt x.1 { x.2 with st := .parked, round := none } else s) s

/-- AON comes into force after the commit (Table 3-5, R71, R115, R545, R553): the tick stops, claims are lost and staging is
discarded. -/
def State.enterAon (s : State) : State :=
  let s := (s.beginTransition .aon).portsOff
  let s := { s with pwr := { s.pwr with st := .aon, aonSince := s.now, wakeNext := none },
                    tick := { s.tick with running := false } }
  let s := s.loseClaims fun _ => true
  let s := if s.bit Reg.PWR_STATE_CTL 3 then s else s.stacksOff
  let n := s.trc.staged.length + s.trc.fired.length
  let s := { s with trc := { s.trc with staged := [], fired := [], lost := s.trc.lost + n, resume := s.trc.running || s.trc.resume,
                                        running := false } }
  if n = 0 then s else s.count Reg.TRC_DROPPED n

/-- SERVE comes into force: parked partitions serve again, and enabled tandem ports look for their partners (R66, R436). -/
def State.enterServe (s : State) : State :=
  let s := { s with pwr := { s.pwr with st := .serve, trans := none } }
  let s := s.prts.foldl (fun s x => if x.2.st = .parked then s.setPrt x.1 { x.2 with st := .ready } else s) s
  let s := if s.part.variant.tandem then
      [0, 1].foldl (fun s p => if s.bit (Reg.TAN_PORT_CTL p) 0 && (s.tport p).st = .off then s.detect p else s) s
    else s
  let s := (s.loads.filter fun l => l.stage = .waiting).foldl (fun s l => s.startLoad l) s
  s.requestDone

/-- A wake cause occurs (R69): its bit is set and the wake interrupt raised. -/
def State.wakeBit (s : State) (i : Nat) : State :=
  (s.wr Reg.PWR_WAKE_CAUSE (BitVec.ofNat 32 (setBit (s.rd Reg.PWR_WAKE_CAUSE).toNat i))).raiseBit 0x001 2

/-- State that a wake from AON enters. -/
def State.wakeTarget (s : State) : PowerState := if s.fld Reg.PWR_STATE_CTL 4 2 = 3 then .serve else .listen

/-- An enabled cause acts (R68, R69): from AON to the wake target, from LISTEN to SERVE; during an entry, once that is
complete. -/
def State.wake (s : State) : State :=
  let goal : PowerState := if s.pwr.st = .aon then s.wakeTarget else .serve
  match s.pwr.trans with
  | none => if s.pwr.st = .aon || s.pwr.st = .listen then s.beginTransition goal else s
  | some t =>
    if t.dst = s.pwr.st && (t.dst = .aon || t.dst = .listen) then
      { s with pwr := { s.pwr with wakeNext := some goal.code } }
    else s

/-- Cause `i` of Table 3-6, with its enable bit in PWR_WAKE_EN, acts in AON, and where `listen` holds in LISTEN too.
A listen_event wakes the host where LNK_WAKE_CTL asks for it (R183). -/
def State.wakeCause (s : State) (i : Nat) (listen : Bool) : State :=
  let s := s.wakeBit i
  let s := if i = 3 && s.bit Reg.LNK_WAKE_CTL 0 then s.wakeHost else s
  let enabled := i = 0 || i = 5 || s.bit Reg.PWR_WAKE_EN i
  if enabled && (s.pwr.st = .aon || (listen && s.pwr.st = .listen)) then s.wake else s

/-- The request is decided at a tick edge (R67, Table 3-4). A request that would start a transition waits for one that
runs. -/
def State.evalRequest (s : State) : State :=
  match s.pwr.request with
  | none => s
  | some (target, at_) =>
    if s.now < at_ + 100 || s.restarting 1 then s
    else
      let t := { s with pwr := { s.pwr with request := none } }.setFld Reg.PWR_STATE_CTL 31 1 0
      let dst := PowerState.ofCode target
      if target = 0 || 3 < target then t.requestEnds 4
      else if s.isl.kickRun then t.requestEnds 5
      else if s.pwr.st = dst then t.requestEnds 2
      else if s.pwr.st = .listen && dst = .serve then (t.wakeBit 5).wake
      else if s.pwr.trans.isSome then s
      else if !s.entryMet dst then t.requestEnds 3
      else match dst with
        | .listen => t.enterListen
        | .aon => t.enterAon
        | .serve | .kick | .off => t

/-- A transition's actions are complete (Table 3-5). Leaving AON starts the tick generator and measures the residency (R71). -/
def State.transitionDone (s : State) (t : Transition) : State :=
  let s := if t.dst ≠ .aon && !s.tick.running then
      ({ s with tick := { s.tick with running := true } }).wr64 Reg.PWR_AON_TIME_LO ((s.now - s.pwr.aonSince) * 32768 / 1_000_000)
    else s
  let inForce := t.dst = s.pwr.st
  let s := if t.dst = .aon || t.dst = .kick then s else s.powerChannels
  let s := { s with pwr := { s.pwr with trans := if inForce then none else some { t with done := true } } }
  let s := if inForce && t.dst ≠ .kick then s.requestDone else s
  let s := if inForce then s.settleChannels else s
  match s.pwr.wakeNext with
  | some g => if inForce then ({ s with pwr := { s.pwr with wakeNext := none } }).beginTransition (PowerState.ofCode g) else s
  | none => s

/-- At a tick edge a completed transition's new state comes into force (Table 3-5). -/
def State.powerEdge (s : State) : State :=
  match s.pwr.trans with
  | none => s
  | some t =>
    if !t.done then s
    else match t.dst with
      | .serve => s.enterServe.settleChannels
      | .listen => ({ s with pwr := { s.pwr with st := .listen, trans := none } }).settleChannels
      | .aon | .kick | .off => s

/-! ### VIN and REF -/

/-- A measurement of VIN (R61). -/
def State.measureVin (s : State) (mv : Nat) : State :=
  let s := s.setFld Reg.PWR_VIN 0 16 mv
  let warn := s.fld Reg.PWR_VIN 16 16
  if mv < warn && s.pwr.vinArmed then
    (({ s with pwr := { s.pwr with vinArmed := false } }).raiseBit 0x001 4).journal 0x15 0x21 1 mv 0
  else if warn + 100 < mv then { s with pwr := { s.pwr with vinArmed := true } }
  else s

/-- REF is lost after lock (R74). -/
def State.refLost (s : State) : State :=
  let s := (s.setFld Reg.CLK_REF_STATUS 2 1 1).journal 0x15 0x21 3 0 0
  (s.raiseBit 0x002 3).kick 3

/-! ### The tick generator's control (R18, R80) -/

/-- A selection of the tick's source stands (R18, R481): REF, or an enabled direction with a whole number of frames in a
tick. -/
def State.slavedOk (s : State) (length source : Nat) : Bool :=
  source = 0 || (source ≤ 4 && s.bit (pcmCtl ((source - 1) / 2) ((source - 1) % 2)) 0
    && s.fld (pcmRate ((source - 1) / 2) ((source - 1) % 2)) 0 17 * tickUs length % 1_000_000 = 0)

/-- A refused length and source (R18, R93). -/
def State.tickRefused (s : State) : State := ({ s with tick := { s.tick with refused := true } }).raiseBit 0x002 0

/-- A written length and source: registered, or refused with everything as it was (R18, R481). -/
def State.tickCtl (s : State) (w : Word) : State :=
  if s.slavedOk (Word.fld w 0 2) (Word.fld w 4 3) then
    { s with tick := { s.tick with pend := some (Word.fld w 0 2, Word.fld w 4 3, s.now), refused := false } }
  else s.tickRefused

/-- A change registered at least 100 µs before the edge takes effect at it (R18); the direction it names must be enabled still
(DEDUCED from R481, assumption 31). -/
def State.tickApply (s : State) : State :=
  match s.tick.pend with
  | none => s
  | some (length, source, at_) =>
    if s.now < at_ + 100 then s
    else if !s.slavedOk length source then ({ s with tick := { s.tick with pend := none } }).tickRefused
    else
      let t := { s with tick := { s.tick with length := length, source := source, pend := none, fallback := false } }
      (if length = s.tick.length then t else t.wantRecheck).raiseBit 0x002 1

/-- CLK_TICK_STATUS. -/
def State.tickStatus (s : State) : Nat :=
  s.tick.length + s.tick.source * 2 ^ 4 + Bool.num s.tick.pend.isSome * 2 ^ 8 + Bool.num s.tick.refused * 2 ^ 9
    + Bool.num s.tick.fallback * 2 ^ 10

/-- CLK_REF_STATUS. -/
def State.refStatus (s : State) : Nat :=
  Bool.num s.boot.refSel + (if s.bit Reg.CLK_REF_STATUS 2 then 0 else Bool.num s.boot.refLocked) * 2 + s.fld Reg.CLK_REF_STATUS 2 1 * 4
    + (if s.pwr.st = .listen then 0 else 1) * 2 ^ 4 + Bool.num (s.boot.refLocked && 5 ≤ s.boot.stage && s.boot.stage ≠ 8) * 2 ^ 8
    + Bool.num s.boot.refSel * 2 ^ 9

/-! ### Retraining (R145 to R147) -/

/-- Channel `n` is to be retrained (R145): its period has run out, or its stack's temperature has moved. -/
def State.retrainWanted (s : State) (n : Nat) : Bool :=
  let c := s.chan n
  let period := max 1 (s.fld Reg.HUB_RETRAIN_CTL 0 4) * 1_000_000
  let delta : Int := 4 * max 2 (s.fld Reg.HUB_RETRAIN_CTL 8 4)
  let moved := match s.stackTemp (stackOf n), c.trainedT with
    | some t, some u => delta ≤ t - u || delta ≤ u - t
    | _, _ => false
  (s.pwr.st = .serve || s.pwr.st = .listen) && c.st = .active && (c.trainedAt + period ≤ s.now || moved)

/-- A channel last trained without a valid reading takes the first valid one as its reference (R145). -/
def State.takeReferences (s : State) : State :=
  (List.range s.chanCount).foldl (fun s n =>
    match (s.chan n).trainedT, s.stackTemp (stackOf n) with
    | none, some t => s.setChan n { s.chan n with trainedT := some t }
    | _, _ => s) s

/-- A retraining window ends (R147). -/
def State.retrainEnds (s : State) (n : Nat) (pass : Bool) : State :=
  let c := s.chan n
  let s := (s.log 0 2 0x8005 n (Bool.num (!pass)) 0).trace 16 n (Bool.num (!pass)) 0
  let s := s.count Reg.HUB_RETRAINS 1
  if pass then
    s.setChan n { c with window := false, due := false, fails := 0, trainedAt := s.now, trainedT := s.stackTemp (stackOf n) }
  else
    let s := (s.setChan n { c with window := false, fails := c.fails + 1 }).count Reg.HUB_RETRAIN_FAILS 1
    let s := s.raiseBit 0x008 5
    if 3 ≤ c.fails + 1 then s.failChannel n else s

end Sys2Proof.Machine
end

