-- ==== Sys2Proof/Machine/Reset.lean ====
section
/-! DEFINITION. Resets (R128 to R130, R148 to R152, R177 to R179): rider resets, the host-link reset, hub restarts and what a
device reset clears. -/
namespace Sys2Proof.Machine
open Sys2Proof

/-! ### Registers returned to their reset values -/

/-- Every register whose offset satisfies `p` holds its reset value again. -/
def State.resetRegs (s : State) (p : Nat → Bool) : State :=
  { s with regs := { s.regs with vals := s.regs.vals.filter fun x => !p x.1 } }

/-- Pages that a device reset keeps (Table 5-1): PWR, CLK, THM, RST, SAF, JNL, PRS and LNK. -/
def keptPage (pg : Nat) : Bool := (1 ≤ pg && pg ≤ 7) || pg = 0x00C

/-- The registers of RDR[n] that a reset of rider n returns to their reset values (R101, R177): RDR_CTL, the rings, the
moderation registers, HDR_INT_ENABLE and HDR_SCRATCH. -/
def riderReg (n off : Nat) : Bool :=
  off / 0x1000 = 0x040 + n
    && (off % 0x1000 = 0x014 || off % 0x1000 = 0x02C || off % 0x1000 = 0x044 || (0x100 ≤ off % 0x1000 && off % 0x1000 < 0x800))

/-! ### Host messages -/

/-- An LTR message is sent when its choice of value changes (R181): the active value while an enabled rider has a link-audio
port running or a DMA request queued. -/
def State.ltrUpdate (s : State) : State :=
  if !s.link.pf.ltrEn || !s.linkUp then s
  else
    let active := (s.aud.ports.any fun x => s.riderExists x.2.owner) || s.link.reads.any fun x => s.riderExists x.1
    if s.link.ltrActive = some active then s
    else
      let o := if active then 0 else 16
      ({ s with link := { s.link with ltrActive := some active } }).emit
        (.ltr (s.fld Reg.LNK_LTR o 10) (s.fld Reg.LNK_LTR (o + 10) 3))

/-- Tracing ends with rider 0, the link or the device (R553): staging is discarded without being counted. -/
def State.stopTrace (s : State) : State :=
  let s := s.setFld Reg.TRC_CTL 0 1 0
  { s with trc := { s.trc with fired := [], staged := [], running := false, full := false, resume := false, lost := 0 } }

/-- A journal dump is abandoned (R210). -/
def State.stopDump (s : State) : State := { s with jnl := { s.jnl with dumping := none } }

/-! ### Rider reset (R177, R178) -/

/-- The host context of rider `n` is cleared (R177, R107, R123). -/
def State.riderClear (s : State) (n : Nat) : State :=
  let s := s.resetRegs (riderReg n)
  let s := { s with regs := { s.regs with heldLo := s.regs.heldLo.filter fun x => x.1.1 ≠ n } }
  let s := if n = 0 then s.stopTrace.stopDump else s
  { s with link := { s.link with
      vecs := s.link.vecs.filter fun x => x.1.1 ≠ n
      msix := s.link.msix.filter fun x => x.1.1 ≠ n
      fetchStop := s.link.fetchStop.filter fun x => x.1 ≠ n
      reported := s.link.reported.filter fun r => r.rider ≠ n
      backlog := Tab.erase s.link.backlog n
      high := s.link.high.filter fun m => m ≠ n } }

/-- The status that ends a sequence of a reset rider: its END is not written (R178). -/
def silentEnd : Nat := 0x10000

/-- The work of rider `n` ends (R178): commands are aborted without an entry, sequences leave, streams close, its link-audio
ports and claims go. -/
def State.riderWork (s : State) (n : Nat) : State :=
  let s := (s.link.cmds.filter fun c => c.own.rider = n).foldl (fun s c =>
    (if c.open_ then s.undoCommand c 0x0401 else s).abandon c.own.order) s
  let s := { s with link := { s.link with entries := s.link.entries.filter fun e => e.rider ≠ n } }
  let s := s.seqs.foldl (fun s x => if x.2.own.rider = n then s.endSeq x.1 silentEnd else s) s
  let s := s.streams.foldl (fun s x =>
    if x.2.own.rider = n then s.modStr x.1 fun y => { y with st := .closing, closing := some y.own.order } else s) s
  let s := { s with aud := { s.aud with ports := s.aud.ports.filter fun p => p.2.owner ≠ n } }
  s.loseClaims fun a => a = n

/-- Transfers that a reset of the host side cuts (R177, R179, Table 6-6): the spills and prefetches of key-value pages start
again at a tick edge. -/
def State.cutPages (s : State) : State :=
  { s with seqs := s.seqs.map fun (x : Nat × Seq) => (x.1, { x.2 with pages := x.2.pages.map fun (p : KvPage) =>
      if p.loc = .spilling then { p with loc := .stack, want := true }
      else if p.loc = .prefetching then { p with loc := .pannier, held := false } else p }) }

/-- Rider `n`'s reset starts. Its transfers not yet issued are cancelled; the reads issued end within the reset. -/
def State.riderReset (s : State) (n : Nat) : State :=
  if (Tab.find s.link.resetting n).isSome then s
  else
    let s := (s.riderWork n).riderClear n
    let s := if n = 0 then s.cutPages else s
    { s with link := { s.link with resetting := Tab.put s.link.resetting n s.now } }

/-- The end of rider `n`'s reset (R177): reads in flight are retired, reset_done is raised and the reset counted and
journalled. The end of a host-link reset of a rider does none of this (R179). -/
def State.riderResetEnd (s : State) (n : Nat) : State :=
  let own := (Tab.find s.link.resetting n).isSome
  let s := { s with link := { s.link with resetting := Tab.erase s.link.resetting n,
                                          hostReset := Tab.erase s.link.hostReset n,
                                          reads := Tab.erase s.link.reads n } }
  if own then ((s.count (Reg.RDR_RESETS n) 1).raiseBit (0x040 + n) 0).journal 0x10 0x10 3 n 0 else s

/-- What an FLR returns of a function's configuration (PRESUMED from PCI Express Base 5.0, assumption 32): everything but
Max_Payload_Size. -/
def State.flrConfig (s : State) (n : Nat) : State :=
  { s with link := { s.link with fns := Tab.put s.link.fns n { FnCfg.zero with mps := (s.fn n).mps } } }

/-- VF Enable is cleared with the riders it made (R165, R177); the functions go, and come back as after an FLR (assumption 32). -/
def State.vfClear (s : State) : State :=
  let s := ((List.range 15).map (· + 1)).foldl (fun s n => if s.riderExists n then (s.riderReset n).flrConfig n else s) s
  { s with link := { s.link with pf := { s.link.pf with vfEnable := false } } }

/-- A function-level reset of function `n` (R177). -/
def State.flr (s : State) (n : Nat) : State :=
  if n = 0 then ((s.riderReset 0).vfClear).flrConfig 0 else (s.riderReset n).flrConfig n

/-! ### The host-link reset (R179) -/

/-- Endings that a rider reset had begun and not yet finished do not take place. -/
def State.undoEndings (s : State) : State :=
  let s := s.seqs.foldl (fun s x =>
    if x.2.ending = some silentEnd then
      let s := s.modSeq x.1 fun y => { y with ending := none, st := if y.inFlight then .running else .idle }
      if x.2.inFlight then s else s.wakeSeq x.1
    else s) s
  s.streams.foldl (fun s x =>
    if x.2.closing = some x.2.own.order then s.modStr x.1 fun y => { y with st := .running, closing := none } else s) s

/-- Functions and link controls at reset. -/
def PfCfg.zero : PfCfg := { vfEnable := false, numVFs := 0, ari := false, ltrEn := false, aspmL1 := false, l1ss := 0 }

/-- The transfer of a state blob ends (R363, R365): the checks of Table 12-7 decide; `blob` is none where it did not
complete. -/
def State.importDone (s : State) (k : Nat) (blob : Option (List Byte)) : State :=
  match s.str k with
  | none => s
  | some x => match x.imp with
    | some (.reading _ len) =>
      let s := s.readEnds x.own.rider
      match s.importCheck x blob len with
      | none =>
        let t := blobTaken (s.graphOf x.prt) (2 ^ x.own.rider) (blob.getD [])
        s.setStr k { x with imp := some (.passed t.1 t.2) }
      | some c =>
        if x.policy = 1 then (s.setStr k { x with imp := none }).faultStr k c
        else (s.setStr k { x with imp := some (.failed c) }).recordErrAt 0x010 c 0x11
    | _ => s

/-- The image and state-blob reads of every rider are cut (R179): a blob's transfer has not completed, and an image's data
never arrives. -/
def State.cutReads (s : State) : State :=
  let s := { s with loads := s.loads.map fun (l : Load) => { l with cut := l.cut || (l.stage ≠ LoadStage.waiting && l.stage ≠ LoadStage.ready) } }
  s.streams.foldl (fun (s : State) (x : Nat × Stream) => s.importDone x.1 none) s.cutPages

/-- The host link is reset: 0 PERST_N, 1 ULNK_RST_N, 2 hot reset, 3 link loss. -/
def State.hostLinkReset (s : State) (cause : Nat) : State :=
  let riders := (List.range 16).filter fun n => s.riderExists n || (Tab.find s.link.resetting n).isSome
  let was := s.linkUp
  let s := s.undoEndings.cutReads
  let s := (List.range 16).foldl (fun s n => (s.backlog n).foldl (fun s e => s.dropEntry e true) s) s
  let s := s.loseClaims fun a => a < 16
  let s := (List.range 16).foldl (fun s n => s.riderClear n) s
  let s := { s with link := { s.link with
      fns := [], pf := PfCfg.zero, msix := [], vecs := [], backlog := [], resetting := [], ltrActive := none
      hostReset := riders.map fun n => (n, s.now)
      perstLow := s.link.perstLow || cause ≤ 1
      wasReset := true
      discard := s.link.accepted } }
  let s := (s.setFld Reg.LNK_STATUS 0 1 0).setPm 0
  let s := if was then s.raiseBit 0x00C 1 else s
  (s.count Reg.LNK_HOST_RESETS 1).journal 0x10 0x10 4 0 0

/-- PERST_N or ULNK_RST_N rises: training may begin, and the wake terminal is released (R183). -/
def State.perstRises (s : State) : State := { s with link := { s.link with perstLow := false, wakePin := false } }

/-- LNK_STATUS.speed of a rate code. -/
def State.setLink (s : State) (width rate : Nat) : State := (s.setFld Reg.LNK_STATUS 1 5 width).setFld Reg.LNK_STATUS 6 3 rate

/-- The link reaches L0 (R179): a reset that has acted is shown as host_reset. -/
def State.linkReaches (s : State) (width rate : Nat) : State :=
  let s := (s.setLink width rate).setFld Reg.LNK_STATUS 0 1 1
  let s := s.raiseBit 0x00C 0
  let s := if s.link.wasReset then ({ s with link := { s.link with wasReset := false } }).raiseBit 0x00C 4 else s
  { s with link := { s.link with idleSince := s.now } }.repannier

/-- Width or rate change after training (R164, R239). -/
def State.linkChanges (s : State) (width rate : Nat) : State :=
  (((s.setLink width rate).raiseBit 0x00C 2).count Reg.LNK_RETRAINS 1).repannier

/-! ### Hub restarts (R148 to R152) -/

/-- A device reset is asked for (R130, R153, R157); ignored while one runs or is already asked for. -/
def State.wantReset (s : State) (cause : Nat) : State :=
  if s.boot.resetting || s.boot.resetReq.isSome then s
  else { s with boot := { s.boot with resetReq := some cause } }

/-- A firmware store operation in progress fails with INTERRUPTED (Table 5-8). -/
def State.interruptFw (s : State) : State :=
  match s.boot.op with
  | none => s
  | some o => { s with boot := { s.boot with op := some { o with result := 0x0B } } }

/-- The hub's latest log entry was being written: its check is not there (R544). -/
def State.tearLog (s : State) (h : Nat) : State :=
  let r := Tab.get LogRing.zero s.trc.logs h
  let p := (r.next + 2047) % 2048
  match Tab.find r.pos p with
  | none => s
  | some e => { s with trc := { s.trc with logs := Tab.put s.trc.logs h { r with pos := Tab.put r.pos p { e with whole := false } } } }

/-- Hub `h` begins a restart for a cause: 1 requested, 2 watchdog, 3 fault. A restarting or held hub does not. -/
def State.beginRestart (s : State) (h cause : Nat) (torn : Bool) : State :=
  let x := s.hub h
  if x.run ≠ .running then s
  else
    let recent := s.now :: x.recent.filter fun t => s.now < t + 1_000_000
    let s := if torn then s.tearLog h else s
    let x' : Hub := { run := .restarting, cause := cause, since := s.now, sinceTick := s.tick.number, recent := recent, missed := false }
    let s := { s with hubs := Tab.put s.hubs h x' }
    let s := s.count (Reg.HUB_RESTARTS h) 1
    let s := s.wr64 (Reg.HUB_LAST_TICK_LO h) s.tick.number.toNat
    let s := ((s.setFld (Reg.HUB_CTL h) 0 1 0).raiseBit (0x008 + h) 0).trace 15 h 0 0
    let s := s.loseClaims fun a => a = 0x10 + h
    let s := { s with regs := { s.regs with heldLo := s.regs.heldLo.filter fun y => y.1.1 ≠ 0x10 + h } }
    let s := if h = 0 then
        ((List.range s.chanCount).foldl (fun s n =>
          if (s.chan n).window then s.setChan n { s.chan n with window := false, due := true } else s) s).interruptFw
      else s
    if 3 ≤ recent.length then s.wantReset 5 else s

/-- A HUB_RESTART entry names the hub as its agent and the tick at which the restart began (R152). -/
def State.journalRestart (s : State) (h : Nat) (x : Hub) (us : Nat) : State :=
  let e : JEntry :=
    { seq := 0, epoch := 0, tick := x.sinceTick, type := 0x11, agent := 0x10 + h, code := x.cause, tag := 0, op := 0, flags := 0,
      arg0 := us % 2 ^ 32, arg1 := 0, check := 0 }
  { s with jnl := s.jnl.store e }

/-- Hub `h` runs again (R149 to R152); what it drives carries on. -/
def State.endRestart (s : State) (h : Nat) : State :=
  let x := s.hub h
  let us := s.now - x.since
  let s := { s with hubs := Tab.put s.hubs h { x with run := .running, missed := false } }
  let s := s.wr (Reg.HUB_LAST_DURATION h) (BitVec.ofNat 32 (min us (2 ^ 24 - 1)))
  let s := (s.raiseBit (0x008 + h) 1).trace 15 h 1 us
  let s := if x.missed then (s.count (Reg.HUB_OVERLONG h) 1).raiseBit (0x008 + h) 2 else s
  let s := s.journalRestart h x us
  let (c, s) := s.fresh
  let s := (s.log h 2 0x8001 1 x.cause 0).log h 2 0x8002 (Config.restoreUs c) 0 0
  if h = 1 then
    let s := { s with prts := s.prts.map fun (p : Nat × Prt) => (p.1, { p.2 with heldHub := p.2.heldHub.map fun _ => s.now }) }
    s.waitedFaults.boundaries
  else if h = 2 then ({ s with prts := s.prts.map fun (p : Nat × Prt) => (p.1, { p.2 with heldHub := none }) }).boundaries
  else if h = 3 then
    let late := s.aud.late
    late.foldl (fun s b => s.feedSink b.1 b.2)
      { s with aud := { s.aud with late := [] } }
  else s

/-- The hold of partition `p` has lasted 2 ms (R150). -/
def State.heldLong (s : State) (p : Prt) : Bool := match p.heldHub with | some t => t + 2000 ≤ s.now | none => false

/-- The PAGE hub has been away for 2 ms since a hold began (R150). -/
def State.holdOver (s : State) : Bool := s.restarting 2 && s.prts.any fun (p : Nat × Prt) => s.heldLong p.2

/-- Every held partition is reset (R150); the spec names no fault code for it, so the code is a free value. -/
def State.resetHeld (s : State) : State :=
  let (c, s) := s.fresh
  s.prts.foldl (fun s (p : Nat × Prt) =>
    if p.2.heldHub.isSome then (s.jobFault p.1 (Config.holdCode c % 65536)).modPrt p.1 fun x => { x with heldHub := none } else s) s

/-! ### Device reset (R129) -/

/-- Everything a device reset clears (Table 5-1, R129). Of the writes that wait for a restarting hub, only the one whose value
the new firmware has to act on is kept: a tick selection (R103). -/
def State.deviceClear (s : State) : State :=
  let s := s.closeWindow.interruptFw.stopDump
  let s := (s.link.cmds.map fun c => c.own.order).foldl (fun s o => s.abandon o) s
  let s := s.loseClaims fun _ => true
  let s := s.stopTrace.portsOff
  let s := s.resetRegs fun o => !keptPage (o / 0x1000)
  { s with
    debug := false
    regs := { s.regs with
      heldLo := [], claims := [], commits := []
      audio := s.regs.audio.filter fun x => x.off / 0x1000 = 0x005
      hubActs := s.regs.hubActs.filter fun x => x.2.off = Reg.CLK_TICK_CTL }
    link := { s.link with vecs := [], fetchStop := [], cmds := [], entries := [], backlog := [], reported := [], bufs := [],
                          high := [], paused := false, reads := [], resetting := [], hostReset := [] }
    mem := { s.mem with allocs := [], wants := [], renumber := [], hot := 0 }
    slots := [], loads := [], prts := [], streams := [], seqs := [], links := [], flights := []
    aud := { s.aud with sinks := [], ports := [], setting := [], clocks := [], late := [], flags := [], prev := [] }
    trc := { s.trc with logs := [], latched := none, enable := 0, filter := 0, dropNow := false, dropLast := false, objs := [],
                        objLast := none, snap := none }
    tan := { s.tan with pairing := [], locked := false, good := 0, missing := 0, got := false, first := false, leaderRoot := 0xFF,
                        migOut := [], migIn := [], gotCommit := [], remote := [], peerHW := [], lastIn := [], away := [] }
    hubs := [] }

end Sys2Proof.Machine
end

