-- ==== Sys2Proof/Machine/Boot.lean ====
section
/-! DEFINITION. Cold boot, device reset and firmware (R44, R48, R51, R60, R131 to R144, R153 to R157, R212, R568): the release of
cold reset, what boot finds broken, the choice of a bank, the interface handshake and the firmware store's operations. -/
namespace Sys2Proof.Machine
open Sys2Proof

/-! ### Answers of commands that touch the part or the tick generator -/

/-- The state `f` gives, with the queue, the clock, the tick number and the part's fuses as before: what a register write, a
firmware operation or a device reset can change at most. -/
def State.keepReg (f : State → State) (s : State) : State :=
  let t := f s
  { t with
    pending := s.pending
    now := s.now
    tick := { t.tick with number := s.tick.number }
    part := { t.part with variant := s.part.variant, sealFuse := s.part.sealFuse, repairFuses := s.part.repairFuses,
                          revoked := s.part.revoked, dieId := s.part.dieId, bootKeys := s.part.bootKeys } }

/-- As `run`, for such an effect. -/
def runReg (f : State → State) (s : State) : Answer := if s.alive then .next (State.keepReg f s) else .next s

/-- As `runIf`, for such an effect. -/
def runRegIf (p : State → Bool) (f : State → State) (s : State) : Answer :=
  if !s.alive then .next s else if p s then .next (State.keepReg f s) else .fault .noSuchEvent

/-! ### Firmware banks (R136, R140) -/

/-- Bank `i`. -/
def Part.bank (p : Part) (i : Nat) : Bank := if i = 0 then p.bank0 else p.bank1

/-- The part with bank `i` replaced. -/
def Part.setBank (p : Part) (i : Nat) (b : Bank) : Part := if i = 0 then { p with bank0 := b } else { p with bank1 := b }

/-- The state with bank `i` replaced. -/
def State.setBank (s : State) (i : Nat) (b : Bank) : State := { s with part := s.part.setBank i b }

/-- The bank in state `st`, the lower where both are. -/
def Part.bankIn (p : Part) (st : BankState) : Option Nat :=
  if p.bank0.st = st then some 0 else if p.bank1.st = st then some 1 else none

/-- The ACTIVE bank, or the STANDBY bank if no bank is ACTIVE. -/
def Part.fallback (p : Part) : Option Nat :=
  match p.bankIn .active with
  | some i => some i
  | none => p.bankIn .standby

/-- The target bank of a write (R155). -/
def Part.target (p : Part) : Option Nat :=
  [BankState.empty, .failed, .trial, .standby].findSome? fun st => p.bankIn st

/-- Codes of Table 5-3. -/
def BankState.code : BankState → Nat | .empty => 0 | .active => 1 | .standby => 2 | .trial => 3 | .failed => 4

/-- Codes of Table 5-7. -/
def FwState.code : FwState → Nat | .booting => 0 | .recovery => 1 | .waitDriver => 2 | .running => 3 | .refused => 4

/-- fw_version of a bank; 0 if EMPTY (Table 5-12). -/
def Bank.version (b : Bank) : Nat := if b.st = .empty then 0 else fwVersion b.image

/-! ### Reports of boot -/

/-- The firmware state changes; HUB[0] says so (R158). -/
def State.setFw (s : State) (fw : FwState) : State :=
  if s.boot.fw = fw then s else ({ s with boot := { s.boot with fw := fw } }).raiseBit 0x008 3

/-- A FIRMWARE journal entry (Table 7-9). -/
def State.fwEntry (s : State) (code : Nat) : State :=
  s.journal 0x12 0x10 code (fwVersion s.boot.image) (s.fld Reg.HUB_FW_STATUS 8 8)

/-- A hub is released with its log's first entry (Tables 5-2, 19-2). -/
def State.releaseHub (s : State) (h : Nat) : State :=
  ({ s with hubs := Tab.put s.hubs h { Hub.zero with run := .running } }).log h 2 0x8001 0 0 0

/-! ### Self-tests of spokes and channels (R133, R134, R329) -/

/-- Row `r` loses its spare or is lost, by the number of its spokes that work and its rim link (R133, R329). -/
def State.judgeRow (s : State) (rimFails : List Nat) (r : Nat) : State :=
  let n := (s.workCols r).length
  if s.rowLost r then s
  else if rimFails.contains r || n < 8 then
    (s.setMem { s.mem with rowLost := setBit s.mem.rowLost r }).journal 0x16 0x10 3 r 0
  else
    let s := if n = 8 then s.setMem { s.mem with spareUsed := setBit s.mem.spareUsed r } else s
    s.renumberRow r

/-- Spoke `k` fails its self-test: mapped out and journalled; a spoke mapped out by a fuse is not tested (R133). -/
def State.spokeFails (s : State) (k : Nat) : State :=
  if (s.spoke k).st = .fused then s
  else (s.setSpoke k { s.spoke k with st := .failed, cause := 4 }).journal 0x16 0x10 1 k 0

/-- The spoke self-test and the rim link test: what fails is mapped out, and every row is judged. -/
def State.testSpokes (s : State) (b : BootIn) : State :=
  let s := b.failedSpokes.foldl (fun s k => s.spokeFails k) s
  (List.range 8).foldl (fun s r => s.judgeRow b.failedRim r) s

/-- Channel `n` is trained; one that homes no spoke is the channel of a lost row and is off (R334). -/
def State.trainChannel (s : State) (n : Nat) : State :=
  s.setChan n { Channel.zero with st := if s.homed n = [] then .off else .selfRefresh, trainedAt := s.now, trainedT := s.stackTemp (stackOf n) }

/-- Training and memory test of every channel (R134). -/
def State.testChannels (s : State) (b : BootIn) : State :=
  let s := (List.range s.chanCount).foldl (fun s n => s.trainChannel n) s
  b.failedChannels.foldl (fun s n => s.failChannel n) s

/-! ### Cold reset (R60, R131, R568) -/

/-- The block in cold reset again: everything at its reset value, with what the model and the part keep. -/
def State.coldReset (s : State) (cause : Nat) : State :=
  let r := State.resetOf s.part
  { r with pending := s.pending, now := s.now, freeCtr := s.freeCtr, out := s.out,
           boot := { r.boot with resetCause := cause, since := s.now } }

/-- RESET_N keeps the journal with the JNL page's own registers, and RST_RESETN_COUNT (Table 5-1, R216); the presence window
closes with its entry (R212). -/
def State.resetnReset (s : State) : State :=
  let t := s.closeWindow
  let r := t.coldReset 2
  let n := min (2 ^ 32 - 1) ((t.rd Reg.RST_RESETN_COUNT).toNat + 1)
  { r with
    jnl := { t.jnl with dumping := none }
    regs := { r.regs with vals := Tab.put (r.regs.vals ++ t.regs.vals.filter fun x => x.1 / 0x1000 = 0x006 && 0x40 ≤ x.1 % 0x1000)
                                    Reg.RST_RESETN_COUNT (BitVec.ofNat 32 n) }
    boot := { r.boot with resetnAt := some s.now } }

/-- VIN is lost: OFF, with nothing kept but the part (R60). -/
def State.vinLost (s : State) : State :=
  let r := s.coldReset 1
  { r with pwr := { r.pwr with st := .off } }

/-- REF is locked and edge 0 issued (Table 5-2). -/
def State.startTick (s : State) : State :=
  ({ s with tick := { s.tick with number := 0, running := true, lastEdge := s.now, lastUs := 0 },
            boot := { s.boot with refLocked := true },
            aud := { s.aud with lastFrame := s.now } }).emit .tickOut

/-- Boot from the release of cold reset to the end of stage 3 (Table 5-2, R44, R51, R74, R133, R134). Factory test and a REFCLK
that is not there stop it. -/
def State.coldBoot (s : State) (b : BootIn) : State :=
  let s := { s with boot := { s.boot with refSel := b.refSel, testEn := b.testEn, since := s.now, presStuck := b.presLow,
                                          presLow := b.presLow, highSince := if b.presLow then none else some s.now } }
  if b.testEn then { s with pwr := { s.pwr with factory := true } }
  else if b.refSel && !b.refClk then { s with boot := { s.boot with stage := 1 } }
  else
    let s := s.startTick
    let s := { s with boot := { s.boot with stage := 3 } }.releaseHub 0
    let s := s.part.repairFuses.foldl (fun s k => s.setSpoke k { s.spoke k with st := .fused, cause := 5 }) s
    (s.testSpokes b).testChannels b

/-! ### Choice of a bank (R140) -/

/-- The first bank of a list that passes Table 5-6; those before it are FAILED. -/
def State.tryBanks (s : State) : List Nat → Option Nat × State
  | [] => (none, s)
  | i :: t =>
    if (fwCheck s.part (s.part.bank i).image).isNone then (some i, s)
    else (s.setBank i { s.part.bank i with st := .failed }).tryBanks t

/-- The banks to try after bank `i`: the other, where it is ACTIVE or STANDBY. -/
def Part.others (p : Part) (i : Nat) : List Nat :=
  [1 - i].filter fun j => (p.bank j).st = .active || (p.bank j).st = .standby

/-- The candidates in order, with a TRIAL bank's attempt counted, or that bank FAILED and fell_back set (R140, R156). -/
def State.candidates (s : State) : List Nat × State :=
  match s.part.bankIn .trial with
  | some i =>
    let b := s.part.bank i
    if b.attempts < 3 then (i :: s.part.others i, s.setBank i { b with attempts := b.attempts + 1 })
    else
      let s := s.setBank i { b with st := .failed }
      (s.part.fallback.toList, { s with boot := { s.boot with fellBack := true } })
  | none => (match s.part.fallback with
      | some i => i :: s.part.others i
      | none => [], s)

/-- Bank selection with the image's checks: the hubs start, or firmware enters RECOVERY (R140, R141). -/
def State.selectBank (s : State) : State :=
  let s := { s with boot := { s.boot with fellBack := false, trial := false, image := [] } }
  let r := s.candidates
  match r.2.tryBanks r.1 with
  | (none, s) =>
    let s := { s with boot := { s.boot with stage := 8, booted := 0 } }
    (s.setFw .recovery).fwEntry 5
  | (some i, s) =>
    let b := s.part.bank i
    let s := if b.st = .standby then s.setBank i { b with st := .active } else s
    let s := { s with boot := { s.boot with stage := 5, booted := i, trial := b.st = BankState.trial, image := b.image } }
    let s := if s.boot.fellBack then s.fwEntry 4 else s
    [1, 2, 3].foldl (fun s h => s.releaseHub h) s

/-! ### The interface handshake (R143, R144) -/

/-- The result of an offer in HUB_IFACE_CTL. -/
def State.offerResult (s : State) (result minor : Nat) : State :=
  s.wr Reg.HUB_IFACE_CTL (BitVec.ofNat 32 (result * 2 ^ 4 + minor * 2 ^ 16))

/-- An offer is evaluated. In RECOVERY it has a result and changes no state (DEDUCED, assumption 33). -/
def State.evaluateOffer (s : State) : State :=
  let s := { s with boot := { s.boot with offer := false } }
  let drv := s.rd Reg.HUB_IFACE_DRIVER
  if Word.fld drv 16 16 = fwMajor s.boot.image then
    let s := (s.offerResult 1 (min (Word.fld drv 0 16) (fwMinor s.boot.image))).fwEntry 1
    let s := { s with boot := { s.boot with refuseAt := none } }
    match s.boot.fw with
    | .waitDriver => s.setFw .running
    | .refused => ({ s with boot := { s.boot with admitHold := true } }).setFw .running
    | .booting | .recovery | .running => s
  else
    let s := (s.offerResult 2 (s.fld Reg.HUB_IFACE_CTL 16 16)).fwEntry 2
    match s.boot.fw with
    | .waitDriver => s.setFw .refused
    | .running => { s with boot := { s.boot with refuseAt := some (Word.fld drv 16 16) } }
    | .booting | .recovery | .refused => s

/-- HUB_IFACE_CTL.offer is set (R143): held in BOOTING, evaluated at once in the other states. -/
def State.makeOffer (s : State) : State :=
  if s.boot.fw = .booting then
    ({ s with boot := { s.boot with offer := true } }).setFld Reg.HUB_IFACE_CTL 0 1 1
  else s.evaluateOffer

/-- A refusal waiting for its tick edge, and a hold of admission, come to their end (R144). -/
def State.handshakeEdge (s : State) : State :=
  let s := { s with boot := { s.boot with admitHold := false } }
  match s.boot.refuseAt with
  | none => s
  | some _ => ({ s with boot := { s.boot with refuseAt := none } }).setFw .refused

/-- WAIT_DRIVER is reached (Table 5-2, R129). -/
def State.reachWaitDriver (s : State) : State :=
  let device := s.boot.resetting
  let s := { s with boot := { s.boot with stage := 7, resetting := false } }
  let s := s.wr Reg.HUB_BOOT_TIME (BitVec.ofNat 32 (min (2 ^ 24 - 1) (s.now - s.boot.since)))
  let s := s.journal 0x10 0x10 (if device then 2 else 1) s.boot.resetCause 0
  let s := s.setFw .waitDriver
  let s := if device then s.raiseBit 0x004 0 else s
  let s := { (if s.regs.hubActs.isEmpty then s else s.tickCtl (s.rd Reg.CLK_TICK_CTL)) with regs := { s.regs with hubActs := [] } }
  if s.boot.offer then s.evaluateOffer else s

/-! ### The firmware store (R153 to R156) -/

/-- A result that ends an operation at once: nothing was started. -/
def State.fwRefuse (s : State) (result : Nat) : State := (s.setFld Reg.HUB_FW_STATUS 8 8 result).raiseBit 0x008 4

/-- The operation's state permits it (Table 5-9). -/
def fwAllowed (op : Nat) (fw : FwState) : Bool :=
  match op with
  | 1 | 5 => fw ≠ .booting
  | 2 => fw = .running || fw = .refused
  | 3 => fw = .running
  | 4 => fw = .recovery
  | _ => false

/-- The first check that an image fails before it is run or written (Table 5-6, R154); `image` is none where host memory
could not be read. -/
def State.imageResult (s : State) (image : Option (List Byte)) : Nat :=
  let len := s.fld Reg.HUB_FW_LEN 0 24
  if len < 0x100 || 0x40_0000 < len then 0x03
  else match image with
    | none => 0x0E
    | some b => if leAt b 8 4 ≠ len then 0x03 else (fwCheck s.part b).getD 0

/-- The image's bytes are asked of host memory for rider 0 (R154). -/
def State.fwRead (s : State) : State :=
  let len := s.fld Reg.HUB_FW_LEN 0 24
  if 0x100 ≤ len && len ≤ 0x40_0000 && s.mayIssue 0 then
    s.wakeLink.emit (.hostRead 0 (s.rd64 Reg.HUB_FW_ADDR_LO / 256 * 256) len)
  else s

/-- Scratch for staging an image (R154, R224): on the first surviving channel with room (DESIGN CHOICE, assumption 34); none
where no channel has room. -/
def State.stage (s : State) (len : Nat) : Option Nat × State :=
  let k := ceilDiv len granBytes
  match (List.range s.chanCount).find? fun n => (s.chan n).survives && k ≤ (s.freeGrans n).length with
  | none => (none, s)
  | some n => (some (2 ^ 32 + s.mem.nextAge), s.takeGrans [n] k .scratch (2 ^ 32 + s.mem.nextAge))

/-- An operation starts. -/
def State.fwStart (s : State) (op target : Nat) (image : List Byte) (result : Nat) (scratch : Option Nat) : State :=
  { s with boot := { s.boot with op := some { op := op, target := target, image := image, result := result, scratch := scratch } } }

/-- Write: the image is staged and checked; from the start of programming the target bank is EMPTY (R154). -/
def State.fwWrite (s : State) (image : Option (List Byte)) (stored : Bool) : State :=
  let r := s.imageResult image
  let s := s.useWindow.fwRead
  let b := image.getD []
  let st := if image.isNone then (none, s) else s.stage b.length
  match s.part.target with
  | none => st.2.fwStart 1 0 b (if r = 0 then 0x0A else r) st.1
  | some i =>
    let t := if r = 0 then st.2.setBank i { st := .empty, attempts := 0, image := [] } else st.2
    t.fwStart 1 i b (if r = 0 && !stored then 0x0A else r) st.1

/-- A store operation that has run ends: its result, its interrupt and its journal entry (R156, R158). -/
def State.fwReport (s : State) (result : Nat) : State :=
  ((s.setFld Reg.HUB_FW_STATUS 8 8 result).raiseBit 0x008 4).fwEntry 3

/-- A go in HUB_FW_CTL (R153, R141). -/
def State.fwGo (s : State) (op : Nat) (image : Option (List Byte)) (stored : Bool) : State :=
  if op = 0 || 6 ≤ op then s.fwRefuse 0x0F
  else if s.boot.op.isSome then s.fwRefuse 0x02
  else if !fwAllowed op s.boot.fw then s.fwRefuse 0x0D
  else if op = 2 && s.part.bankIn .standby = none then s.fwRefuse 0x0C
  else if op = 3 && !s.boot.trial then s.fwRefuse 0x0C
  else if op ≤ 2 && s.windowStatus.isSome then (s.countRefused (s.windowStatus.getD 0)).fwRefuse 0x01
  else
    let s := s.setFld Reg.HUB_FW_STATUS 16 16 0
    if op = 1 then s.fwWrite image stored
    else if op = 2 then s.useWindow.fwStart 2 ((s.part.bankIn .standby).getD 0) [] 0 none
    else if op = 3 then s.fwStart 3 s.boot.booted [] 0 none
    else if op = 4 then s.fwRead.fwStart 4 0 (image.getD []) (s.imageResult image) none
    else (s.fwReport 0).wantReset 4

/-- What a successful operation does (Table 5-9, R141, R155). -/
def State.fwEffect (s : State) (o : FwOp) : State :=
  let p := s.part
  match o.op with
  | 1 => (s.setBank o.target { st := .trial, attempts := 0, image := o.image }).setFld Reg.HUB_FW_STATUS 16 16 (o.image.length / 1024)
  | 2 => s.setBank o.target { p.bank o.target with st := .trial, attempts := 0 }
  | 3 =>
    let s := match p.bankIn .active with
      | some i => s.setBank i { p.bank i with st := .standby }
      | none => s
    { s.setBank o.target { p.bank o.target with st := .active, attempts := 0 } with boot := { s.boot with trial := false } }
  | 4 =>
    let s := { s with boot := { s.boot with stage := 5, image := o.image, trial := false } }
    [1, 2, 3].foldl (fun s h => s.releaseHub h) (s.setFw .booting)
  | _ => s

/-- The running operation ends (R154, R156). -/
def State.fwEnd (s : State) : State :=
  match s.boot.op with
  | none => s
  | some o =>
    let s := { s with boot := { s.boot with op := none } }
    let s := match o.scratch with
      | some w => s.freeOwner .scratch w
      | none => s
    let s := if o.result = 0 then s.fwEffect o else s
    let s := s.fwReport o.result
    if o.result = 0 && o.op ≤ 2 && s.bit Reg.HUB_FW_CTL 8 then s.wantReset 4 else s

/-- HUB_FW_STATE. -/
def State.fwStateWord (s : State) : Nat :=
  s.boot.fw.code + s.boot.stage * 2 ^ 4 + s.boot.booted * 2 ^ 8 + Bool.num s.boot.trial * 2 ^ 9
    + (if s.boot.trial then (s.part.bank s.boot.booted).attempts else 0) * 2 ^ 10 + Bool.num s.boot.fellBack * 2 ^ 12

/-! ### Device reset (R129, R157) -/

/-- The device reset that was asked for begins; it ends at WAIT_DRIVER. -/
def State.deviceReset (s : State) (b : BootIn) : State :=
  match s.boot.resetReq with
  | none => s
  | some cause =>
    let s := ((s.interruptFw.fwEnd).deviceClear).count Reg.RST_DEVICE_COUNT 1
    let s := s.setFld Reg.RST_CTL 0 1 0
    let s := { s with boot := { s.boot with
      stage := 3, since := s.now, resetting := true, resetReq := none, resetCause := cause, offer := false, refuseAt := none,
      admitHold := false, op := none, image := [], trial := false, fellBack := false, heldImage := none } }
    let s := (s.setFw .booting).releaseHub 0
    s.testSpokes b

/-! ### Presence (R33, R212) -/

/-- A counted press (R212): discarded before the PRS page is usable; else the window opens anew and the press wakes. -/
def State.press (s : State) : State :=
  let s := { s with boot := { s.boot with highSince := some s.now } }
  if s.boot.stage < 2 then s.journal 0x13 0x21 3 0 0
  else
    let s := { s.closeWindow with window := some { since := s.now, used := 0 } }
    let s := (s.count Reg.PRS_WINDOWS 1).wr64 Reg.PRS_LAST_LO s.tick.number.toNat
    let s := (s.journal 0x13 0x21 1 0 0).raiseBit 0x007 0
    s.wakeCause 1 false

/-- A press can be counted now: PRES_N is not stuck, and was high for 50 ms and low for at least 45 ms since it was last seen
high (R212). -/
def State.pressable (s : State) : Bool :=
  match s.boot.highSince with
  | none => false
  | some t => t + 95_000 ≤ s.now

/-! ### Meanings -/

/-- VIN_RISE. -/
def execVinRise (s : State) : Answer :=
  if s.pwr.st = .off then .next (s.coldReset 1) else .fault .noSuchEvent

/-- VIN_LOSS. -/
def execVinLoss (s : State) : Answer := .next (if s.pwr.st = .off then s else s.vinLost)

/-- RESET_N_PULSE: shorter than 1 µs or too soon after the last, nothing; 10 µs and more, a cold reset; between, a free value
decides (R568). -/
def execResetNPulse (lowUs : Nat) (s : State) : Answer :=
  let soon := match s.boot.resetnAt with
    | none => false
    | some t => s.now < t + 100
  if s.pwr.st = .off || lowUs = 0 || soon then .next s
  else if 10 ≤ lowUs then .next s.resetnReset
  else
    let r := s.fresh
    .next (if Config.shortPulseResets r.1 then r.2.resetnReset else r.2)

/-- COLD_RESET: the release. -/
def execColdReset (b : BootIn) (s : State) : Answer :=
  if !s.alive then .next s
  else if s.boot.stage = 0 && s.boot.fw = .booting then
    .next { s.coldBoot b with pending := s.pending, now := s.now, part := s.part, tick := { (s.coldBoot b).tick with number := 0 } }
  else .fault .noSuchEvent

/-- ISLAND_STARTUP_TESTS. -/
def execIslandStartupTests (failed : Nat) (s : State) : Answer :=
  runIf (fun s => !s.isl.started) (fun s =>
    let s := { s with isl := { s.isl with started := true } }
    let s := (s.selfTests failed 1).setFld Reg.SAF_STATUS 1 2 (if failed = 0 then 3 else 1)
    if s.kickCauses = 0 then { s with isl := { s.isl with kickRun := false } } else s) s

/-- FW_BANK_SELECT. -/
def execFwBankSelect (s : State) : Answer :=
  runRegIf (fun s => s.boot.fw = .booting && s.boot.stage = 3) State.selectBank s

/-- BOOT_WAIT_DRIVER. -/
def execBootWaitDriver (s : State) : Answer :=
  runRegIf (fun s => s.boot.fw = .booting && s.boot.stage = 5) State.reachWaitDriver s

/-- DEVICE_RESET. -/
def execDeviceReset (b : BootIn) (s : State) : Answer :=
  runRegIf (fun s => s.boot.resetReq.isSome) (fun s => s.deviceReset b) s

/-- FW_OP_DONE. -/
def execFwOpDone (s : State) : Answer := runRegIf (fun s => s.boot.op.isSome) State.fwEnd s

/-- PRESENCE_PRESS. -/
def execPresencePress (s : State) : Answer := runAt (fun s => (s.boot.highSince.getD 0) + 95_000) State.pressable State.press s

/-- PRESENCE_WINDOW_EXPIRE: 30 s after it opened. -/
def execPresenceWindowExpire (s : State) : Answer :=
  runAt (fun s => match s.window with | some w => w.since + 30_000_000 | none => 0) (fun s => s.window.isSome) State.closeWindow s

/-- PRES_N_RELEASE. -/
def execPresNRelease (s : State) : Answer :=
  runIf (fun s => s.boot.presStuck) (fun s =>
    { s with boot := { s.boot with presStuck := false, presLow := false, highSince := some s.now } }) s

end Sys2Proof.Machine
end

