-- ==== Sys2Proof/Machine/Regs.lean ====
section
/-! DEFINITION. What registers read (R97, R101, R104, R109): the common header, every field that shows another part of the
state, shadows and waiting values, and the statistics counters of a page with their clears (R117). No read changes
anything. -/
namespace Sys2Proof.Machine
open Sys2Proof

/-! ### Statistics counters of a page (R117, R554) -/

/-- The 32-bit counters of a block by offset. -/
def Block.counters (b : Block) (inst : Nat) : List Nat :=
  let run (o n : Nat) : List Nat := (List.range n).map fun i => o + 4 * i
  match b with
  | .pwr => [0x07C]
  | .clk => [0x060]
  | .thm => [0x04C]
  | .rst => [0x048, 0x04C]
  | .saf => [0x058, 0x068] ++ run 0x0B0 4
  | .jnl => [0x08C]
  | .prs => [0x048, 0x04C, 0x050]
  | .hub => [0x048, 0x04C] ++ (if inst = 0 then [0x140, 0x144] else [])
  | .lnk => run 0x054 5
  | .trc => [0x06C, 0x078]
  | .srv => run 0x048 3
  | .drl => run 0x044 4
  | .str => run 0x080 4
  | .kvc => run 0x098 6
  | .aud => [0x048] ++ run 0x200 16 ++ run 0x240 16 ++ run 0x280 16 ++ run 0x2C0 16 ++ run 0x300 16 ++ run 0x340 16
      ++ run 0x380 16
  | .pcm => [0x088, 0x08C]
  | .pdm => [0x04C]
  | .tan => run 0x050 3
  | .tanc => [0x054] ++ run 0x060 5
  | .prt => run 0x068 3
  | .cas => [0x06C]
  | .rdr => run 0x050 3
  | .stk => [0x048] ++ (if inst = 0 then [0x10C, 0x110] ++ run 0x140 8 ++ run 0x160 8 else [])
  | .chn => [0x054, 0x058]
  | .spk => [0x060, 0x064, 0x06C, 0x070, 0x074, 0x078]
  | .idn => []

/-- The 48-bit counters of a block, by the offset of their _LO. -/
def Block.counters48 (b : Block) (inst : Nat) : List Nat :=
  match b with
  | .pwr => [0x074]
  | .trc => [0x064]
  | .kvc => [0x080, 0x088, 0x090]
  | .tan => [0x05C, 0x064]
  | .stk => if inst = 0 then [0x104] else []
  | .chn => [0x04C]
  | .spk => [0x048, 0x050, 0x058]
  | _ => []

/-- A counter of page `pg` is at its maximum (HDR_STATUS.sat); the object counters stand on the TRC page (R555). -/
def State.anySat (s : State) (pg : Nat) (b : Block) (inst : Nat) : Bool :=
  (b.counters inst).any (fun o => s.rd (0x1000 * pg + o) = 0xFFFF_FFFF)
    || (b.counters48 inst).any (fun o => s.rd64 (0x1000 * pg + o) % 2 ^ 48 = 2 ^ 48 - 1)
    || (b = .trc && s.trc.objs.any fun x => x.2.contains (2 ^ 32 - 1))

/-- What each bit of a clear register returns to zero, as offsets of its page: both words of a pair. -/
def clears (b : Block) (o : Nat) : List (List Nat) :=
  let run (o n : Nat) : List Nat := (List.range n).map fun i => o + 4 * i
  match b, o with
  | .pwr, 0x080 => [[0x074, 0x078], [0x07C]]
  | .thm, 0x050 => [[0x048], [0x04C]]
  | .rst, 0x050 => [[0x048], [0x04C]]
  | .hub, 0x05C => [[0x048], [0x04C]]
  | .hub, 0x148 => [[0x140], [0x144]]
  | .lnk, 0x068 => [[0x054], [0x058], [0x05C], [0x060], [0x064]]
  | .rdr, 0x05C => [[0x050], [0x054], [0x058]]
  | .jnl, 0x090 => [[0x08C]]
  | .prs, 0x05C => [[0x048], [0x04C], [0x050]]
  | .stk, 0x04C => [[0x048]]
  | .stk, 0x180 => [[0x104, 0x108], [0x10C], [0x110], run 0x140 8, run 0x160 8]
  | .chn, 0x064 => [[0x04C, 0x050], [0x054], [0x058]]
  | .cas, 0x074 => [[0x06C]]
  | .str, 0x090 => [[0x080], [0x084], [0x088], [0x08C]]
  | .kvc, 0x0B0 => [[0x080, 0x084], [0x088, 0x08C], [0x090, 0x094], [0x098], [0x09C, 0x0A0], [0x0A4], [0x0A8], [0x0AC]]
  | .prt, 0x074 => [[0x068], [0x06C], [0x070]]
  | .srv, 0x054 => [[0x048], [0x04C], [0x050]]
  | .drl, 0x054 => [[0x044], [0x048], [0x04C], [0x050]]
  | .tan, 0x06C => [[0x050], [0x054], [0x058], [0x05C, 0x060], [0x064, 0x068]]
  | .tanc, 0x074 => [[0x054], [0x060], [0x064], [0x068], [0x06C], [0x070]]
  | .aud, 0x04C => [run 0x200 16, run 0x240 16, run 0x280 16, run 0x2C0 16, run 0x300 16, run 0x340 16, run 0x380 16, [0x048]]
  | .pdm, 0x050 => [[0x04C]]
  | .pcm, 0x090 => [[0x088], [0x08C]]
  | .saf, 0x070 => [[0x058], [0x068], run 0x0B0 4]
  | .trc, 0x0DC => [[0x064, 0x068], [0x06C], [0x078]]
  | .spk, 0x07C => [[0x048, 0x04C], [0x050, 0x054], [0x058, 0x05C], [0x060], [0x064], [0x06C], [0x070], [0x074, 0x078]]
  | _, _ => []

/-! ### The common header (Table 4-2) -/

/-- Block interrupt causes of a page. -/
def causesOf (b : Block) (inst : Nat) : Nat :=
  match b with
  | .idn => 0 | .pwr => 5 | .clk => 4 | .thm => 4 | .rst => 1 | .saf => 5 | .jnl => 4 | .prs => 3
  | .hub => if inst = 0 then 6 else 3
  | .lnk => 5 | .trc => 4 | .srv => 2 | .drl => 3 | .str => 4 | .kvc => 4 | .aud => 5 | .pcm => 5 | .pdm => 1
  | .tan => 5 | .tanc => 4 | .prt => 5 | .cas => 5 | .rdr => 3
  | .stk => if inst = 0 then 5 else 2
  | .chn => 4 | .spk => 5

/-- Implemented bits of HDR_INT_STATUS and HDR_INT_ENABLE. -/
def intMask (b : Block) (inst : Nat) : Nat := 2 ^ causesOf b inst - 1 + 0xE000_0000

/-- HDR_ID. -/
def hdrId (v : Variant) (b : Block) (inst : Nat) : Nat :=
  b.code + inst * 2 ^ 8 + 2 ^ 16 + Bool.num (b.present v inst) * 2 ^ 24

/-- HDR_CAP. -/
def hdrCap (b : Block) (inst : Nat) : Nat :=
  Bool.num b.claimable + Bool.num (b.counters inst ≠ [] || b.counters48 inst ≠ []) * 2
    + (match b.cls with | .m => 0 | .s => 1 | .o => 2) * 4 + causesOf b inst * 2 ^ 4

/-- The claim held on a page. -/
def State.claimOf (s : State) (pg : Nat) : Option Claim := Tab.find s.regs.claims pg

/-- A commit is being applied on a page. -/
def State.commitBusy (s : State) (pg : Nat) : Bool := (Tab.find s.regs.commits pg).isSome

/-- A header register. -/
def State.hdrWord (s : State) (pg : Nat) (b : Block) (inst o : Nat) : Nat :=
  if o = 0x000 then hdrId s.part.variant b inst
  else if o = 0x004 then hdrCap b inst
  else if o = 0x00C then
    Bool.num (s.anySat pg b inst) + Bool.num (s.claimOf pg).isSome * 2 + Bool.num (s.commitBusy pg) * 4
      + Bool.num (match hubOf b inst with | some h => s.restarting h | none => false) * 8
  else if o = 0x018 then 0
  else if o = 0x024 then Bool.num (s.claimOf pg).isSome
  else if o = 0x028 then ((s.claimOf pg).map Claim.owner).getD 0xFF + s.fld (hdrOff pg 0x028) 8 8 * 2 ^ 8
  else (s.rd (hdrOff pg o)).toNat

/-! ### Fields that show the state -/

/-- Codes of Table 14-2. -/
def PrtState.code : PrtState → Nat
  | .free => 0 | .building => 1 | .ready => 2 | .parked => 3 | .resetting => 4 | .waitReload => 5 | .halted => 6
  | .discarding => 7

/-- The low and high word of a 64-bit number by offset. -/
def half (v lo o : Nat) : Nat := if o = lo then v % 2 ^ 32 else v / 2 ^ 32 % 2 ^ 32

/-- Word `k` of bytes. -/
def wordOf (b : List Byte) (k : Nat) : Nat := leAt b (4 * k) 4

/-- The partition whose rows include row `r`. -/
def State.prtOfRow (s : State) (r : Nat) : Option Nat := (s.prts.find? fun p => p.2.rows.testBit r).map Prod.fst

/-- Row `r` is powered (Table 3-2). -/
def State.rowOn (s : State) (r : Nat) : Bool :=
  (s.pwr.st = .serve && (s.prtOfRow r).isSome) || (s.pwr.st = .listen && s.listenRows.testBit r)

/-- SPK_STATE (Table 11-9). A spoke that has failed is in no partition, as the worked case of chapter 11 reads it. -/
def State.spkState (s : State) (k : Nat) : Nat :=
  let r := k / 9
  let c := k % 9
  let prt := if (s.spoke k).st = .good || (s.spoke k).st = .spare then s.prtOfRow r else none
  let numbered := s.logicalOf r c
  let code := match (s.spoke k).st with
    | .failed => 2
    | .fused => 3
    | .good | .spare => if s.rowLost r then 4 else if numbered.isSome then 1 else 0
  code + r * 2 ^ 4 + numbered.getD 0xF * 2 ^ 8 + c * 2 ^ 12 + prt.getD 0 * 2 ^ 16
    + Bool.num prt.isSome * 2 ^ 19 + Bool.num (numbered.isSome && s.rowOn r) * 2 ^ 20

/-- PRS_STATUS (Table 7-11). -/
def State.prsStatus (s : State) : Nat :=
  let w := match s.window with
    | none => 0
    | some w => 1 + (8 - min 8 w.used) * 2 ^ 3 + min 300 ((w.since + 30_000_000 - s.now) / 100_000) * 2 ^ 16
  w + Bool.num s.boot.presLow * 2 + Bool.num s.boot.presStuck * 4 + Bool.num s.debugOpen * 2 ^ 7

/-- The 32 bytes of a log entry (Table 19-1); an entry whose check was never written shows a free value there. -/
def LogEntry.bytes (e : LogEntry) (h : Nat) : List Byte :=
  let b := leBytes 4 e.seq ++ leBytes 1 h ++ leBytes 1 e.level ++ leBytes 2 e.code ++ leBytes 8 e.tick.toNat ++ leBytes 4 e.sub
    ++ leBytes 4 e.arg0 ++ leBytes 4 e.arg1 ++ leBytes 2 e.arg2
  b ++ leBytes 2 (if e.whole then crc16 b else Config.tornCheck e.seq)

/-- The latched journal entry's status (R210, R211). -/
def State.jnlReadStatus (s : State) : Nat :=
  match s.jnl.latched with
  | none => 0
  | some e => if e.seq = 0 then 0 else 1 + Bool.num (e.check = crc16 e.body) * 2

/-- The partition's page. -/
def State.prtWord (s : State) (p o : Nat) : Option Nat :=
  let x := s.prt p
  let f (g : Prt → Nat) : Option Nat := some ((x.map g).getD 0)
  match o with
  | 0x040 => f fun x => x.st.code + Bool.num x.overAdm * 8 + x.rows * 2 ^ 8 + x.slot * 2 ^ 16 + x.graph * 2 ^ 20 + x.maxPel * 2 ^ 24
  | 0x048 => f fun x => s.members p + x.lastIn * 2 ^ 8
  | 0x04C => f fun x => min 0xFFFF x.admitEnd + min 0xFFFF x.admitBud * 2 ^ 16
  | 0x050 => f fun x => min 0xFFFF x.lastBud + min 0xFFFF x.lastUsed * 2 ^ 16
  | 0x054 => f fun x => x.lastStrokes
  | 0x058 | 0x05C => f fun x => half x.spillBase 0x058 o
  | 0x060 => f fun x => x.spillLen
  | 0x064 => f fun x => x.faultCode
  | _ => none

/-- The slot's page. -/
def State.casWord (s : State) (n o : Nat) : Option Nat :=
  let x := s.slotD n
  match o with
  | 0x040 => some (x.st.code + x.gears * 2 ^ 4 + Bool.num x.upReset * 2 ^ 7 + x.rows * 2 ^ 8 + x.owner * 2 ^ 16
      + Bool.num x.pannier * 2 ^ 20 + Bool.num x.isUnsigned * 2 ^ 21)
  | 0x044 => some x.version
  | 0x048 | 0x04C => some (half x.layout 0x048 o)
  | 0x050 => some (x.layers.length + x.graphs.length * 2 ^ 16)
  | 0x054 => some ((s.slotGrans n).1 + (s.slotGrans n).2 * 2 ^ 16)
  | 0x058 | 0x05C => some (half (listMask (x.adapters.map Prod.fst)) 0x058 o)
  | 0x060 => some (s.slotAdpGrans n)
  | 0x064 => some ((s.slotUsers n).1 + (s.slotUsers n).2 * 2 ^ 8)
  | 0x068 => some (min (2 ^ 24 - 1) x.loadUs)
  | 0x070 => some (x.lastCode + x.lastOp * 2 ^ 16)
  | 0x100 => some s.part.sigPolicy
  | 0x104 => some (listMask ((List.range 8).filter fun k =>
      s.boot.image ≠ [] && (Config.cassetteKey (BitVec.ofNat 32 (fwVersion s.boot.image)) k).isSome))
  | 0x108 =>
    let bits (p : SlotState → Bool) : Nat := listMask ((List.range 16).filter fun k => p (s.slotD k).st)
    some (bits (fun st => st = .resident || st = .replacing) + bits (fun st => st = .needsReload) * 2 ^ 16)
  | _ => none

/-- The rider's page. -/
def State.rdrWord (s : State) (n o : Nat) : Option Nat :=
  let resetting := (Tab.find s.link.resetting n).isSome
  let reads := Tab.get 0 s.link.reads n
  if o = 0x040 then
    some ((if resetting then 2 else Bool.num (s.riderExists n)) + Bool.num (s.fn n).d3hot * 4 + Bool.num (s.fn n).bme * 8
      + Bool.num (s.fn n).msixEn * 16)
  else if o = 0x044 then some (Bool.num resetting)
  else if o = 0x048 then some (min 0x3FF reads)
  else if o = 0x04C then some (s.backlog n).length
  else if 0xF00 ≤ o && o < 0xF40 then
    some (listMask ((List.range 32).filter fun j =>
      let pg := 8 * (o - 0xF00) + j
      (pageOf pg).isSome && pageRider pg = n && s.pagePending pg))
  else none

/-- What a register shows of the rest of the state; none: its stored word is what it reads. -/
def State.liveWord (s : State) (b : Block) (inst o : Nat) : Option Nat :=
  match b, o with
  | .idn, 0x040 => some (s.part.variant.stacks + (match s.part.variant.hostDie with | .h => 1 | .u => 2) * 2 ^ 4
      + Bool.num s.part.variant.tandem * 2 ^ 8)
  | .idn, 0x044 => some (Bool.num s.boot.refSel + Bool.num s.boot.testEn * 2 + Bool.num s.part.sealFuse * 4
      + Bool.num s.boot.presStuck * 8)
  | .pwr, 0x040 => some (s.pwr.st.code + s.fld Reg.PWR_STATE 4 3 * 2 ^ 4)
  | .pwr, 0x06C => some s.headwindWord
  | .clk, 0x040 => some s.refStatus
  | .clk, 0x044 | .clk, 0x048 => some (half s.tick.number.toNat 0x044 o)
  | .clk, 0x050 => some s.tickStatus
  | .clk, 0x05C => some (s.point + s.gov.capNow * 2 ^ 4)
  | .rst, 0x044 => some s.boot.resetCause
  | .saf, 0x040 => some (Bool.num s.isl.kickRun + s.fld Reg.SAF_STATUS 1 2 * 2)
  | .saf, 0x050 => some (Bool.num (5 ≤ s.isl.lit) + Bool.num s.isl.sink * 2 + s.fld Reg.SAF_PRIV 2 3 * 4
      + min 255 (s.isl.sense / 20) * 2 ^ 8)
  | .saf, 0x054 => some s.isl.policy
  | .jnl, 0x040 => some (s.jnl.pos.length + s.jnl.write * 2 ^ 16)
  | .jnl, 0x044 => some s.pendingCmds
  | .jnl, 0x048 | .jnl, 0x04C => some (half (s.jnl.next + s.jnl.epoch * 2 ^ 48) 0x048 o)
  | .jnl, 0x054 => some s.jnlReadStatus
  | .jnl, 0x088 => some (Bool.num s.jnl.dumping.isSome * 2 + s.jnl.dumpRes * 2 ^ 8)
  | .prs, 0x040 => some s.prsStatus
  | .hub, 0x040 => some ((match (s.hub inst).run with | .running => 0 | .restarting => 1 | .held => 2) + (s.hub inst).cause * 2 ^ 4)
  | .hub, 0x100 => some s.fwStateWord
  | .hub, 0x104 => some (fwVersion s.boot.image)
  | .hub, 0x108 => some (fwMinor s.boot.image + fwMajor s.boot.image * 2 ^ 16)
  | .hub, 0x114 => some (s.part.bank0.st.code + s.part.bank1.st.code * 2 ^ 4)
  | .hub, 0x118 => some s.part.bank0.version
  | .hub, 0x11C => some s.part.bank1.version
  | .hub, 0x130 => some ((match s.boot.op with | some p => p.op + 8 | none => 0) + s.fld Reg.HUB_FW_STATUS 8 24 * 2 ^ 8)
  | .hub, 0x138 => some (s.mem.spareUsed + s.mem.rowLost * 2 ^ 8)
  | .lnk, 0x040 => some ((s.rd Reg.LNK_STATUS).toNat % 2 ^ 11
      + Bool.num (!s.boot.refSel && s.part.variant.hostDie = .h) * 2 ^ 11)
  | .lnk, 0x050 => some (min 256 (s.link.reads.foldl (fun a x => a + x.2) 0))
  | .trc, 0x060 => some (Bool.num (s.trc.running && !s.trc.full) + Bool.num s.trc.full * 2 + s.trc.staged.length * 4)
  | .trc, 0x074 => some (match s.trc.latched with
      | none => 0
      | some e => if e.seq = 0 then 0 else 1 + Bool.num e.whole * 2)
  | .trc, 0x0D8 => some (Bool.num s.trc.snap.isSome * 2 + s.fld Reg.TRC_SNAP_CTL 8 16 * 2 ^ 8)
  | .srv, 0x044 =>
    let bits (p : Prt → Bool) : Nat := listMask ((s.prts.filter fun x => p x.2).map Prod.fst)
    some (bits (fun _ => true) + bits (fun x => x.st = .resetting) * 2 ^ 8 + bits Prt.overAdm * 2 ^ 16)
  | .str, 0x040 => some (s.streams.length + (s.streams.filter fun x => x.2.st = .fault).length * 2 ^ 16)
  | .str, 0x048 => some (s.streams.foldl (fun a x => a + x.2.units) 0)
  | .kvc, 0x040 => some (s.seqs.length + (s.seqs.filter fun x => x.2.st = .prefetch).length * 2 ^ 16)
  | .kvc, 0x048 => some (s.seqs.foldl (fun a x => a + (x.2.pages.filter fun p => p.valid && p.held).length) 0)
  | .kvc, 0x04C => some (s.seqs.foldl (fun a x => a + (x.2.pages.filter fun p => p.valid && p.loc = .pannier).length) 0)
  | .aud, 0x044 => some (s.fld Reg.AUD_GATE 0 1 + Bool.num s.isl.gate * 2 ^ 8)
  | .pdm, 0x048 => some (s.pdmStatus inst)
  | .pcm, 0x048 => some (s.pcmStatus inst 0)
  | .pcm, 0x068 => some (s.pcmStatus inst 1)
  | .tan, 0x044 => some (s.portStatus inst)
  | .tan, 0x048 | .tan, 0x04C => some (half (((s.record inst).map TanRecord.peerId).getD 0) 0x048 o)
  | .tanc, 0x048 => some s.tanTickStatus
  | .tanc, 0x04C | .tanc, 0x050 => some (half s.tan.offset.toNat 0x04C o)
  | .tanc, 0x058 | .tanc, 0x05C => some (half s.part.dieId 0x058 o)
  | .prt, o => s.prtWord inst o
  | .cas, o => s.casWord inst o
  | .rdr, o => s.rdrWord inst o
  | .stk, 0x040 => some (s.stkStatus inst)
  | .stk, 0x044 => some (s.stkFree inst)
  | .stk, 0x100 =>
    let bits (p : Prt → Bool) : Nat := listMask ((s.prts.filter fun x => p x.2).map Prod.fst)
    some (bits Prt.panOk + bits Prt.panUsed * 2 ^ 8 + Bool.num s.reachable * 2 ^ 16)
  | .chn, 0x040 => some (s.chnState inst)
  | .chn, 0x044 => some (s.chnUseA inst)
  | .chn, 0x048 => some (s.chnUseB inst)
  | .spk, 0x040 => some (s.spkState inst)
  | .spk, 0x044 => some (s.spoke inst).cause
  | .saf, o => if 0x0A0 ≤ o && o < 0x0B0 then
      some ((s.rd (0x05000 + o)).toNat + Bool.num (s.pinOut ((o - 0x0A0) / 4)).clear * 4) else none
  | .thm, o => if 0x080 ≤ o && o < 0x0C0 then some (s.sensorWord ((o - 0x080) / 4)) else none
  | .jnl, o => if 0x060 ≤ o && o < 0x080 then
      some (match s.jnl.latched with | some e => wordOf e.bytes ((o - 0x060) / 4) | none => 0) else none
  | .drl, o => if 0x080 ≤ o && o < 0x0A0 then
      some (match s.prt ((o - 0x080) / 4) with
        | some x => x.gear + x.hold * 2 ^ 4 + x.corr / 256 * 2 ^ 8
        | none => 0x100 * 2 ^ 8) else none
  | .trc, o =>
    if 0x080 ≤ o && o < 0x0A0 then
      some (match s.trc.latched with | some e => wordOf (e.bytes (s.fld Reg.TRC_LOG_READ 0 2)) ((o - 0x080) / 4) | none => 0)
    else if 0x0C0 ≤ o && o < 0x0D0 then
      let r := Tab.get LogRing.zero s.trc.logs ((o - 0x0C0) / 4)
      some (r.next + Bool.num r.wrapped * 2 ^ 11)
    else none
  | _, _ => none

/-! ### Reading (R97, R99, R100, R104, R109, R112) -/

/-- A page answers in the firmware state (R132, R142). -/
def State.responds (s : State) (b : Block) (inst : Nat) : Bool :=
  s.boot.fw = .running || b = .idn || b = .prs || b = .jnl || (b = .hub && inst = 0)

/-- Whether the class of a page permits an access (R98). A hub does not write the SAF page's own registers, and the debug port
and other agents are treated as hubs (R51 leaves the port's accesses open). -/
def permitted (agent : Nat) (b : Block) (inst o : Nat) (write : Bool) : Bool :=
  if 0x10 ≤ agent then !(write && b = .saf && 0x40 ≤ o)
  else if agent = 0 then true
  else match b.cls with
    | .m => false
    | .s => !write
    | .o => agent = inst

/-- W1S bits written while the page's hub restarts, which stay set until it acts (R103). -/
def State.heldTriggers (s : State) (off : Nat) (r : RegSpec) : Nat :=
  s.regs.hubActs.foldl (fun a x => if x.2.off = off then Nat.lor a (Nat.land x.2.val.toNat r.w1s) else a) 0

/-- A register's value before a waiting router-frame write applies: the latest waiting value (R110, R467). -/
def State.waiting (s : State) (off : Nat) : Option Word :=
  (s.regs.audio.reverse.find? fun x => x.off = off || (x.hi.isSome && x.off + 4 = off)).map fun x => x.val

/-- The word of a present, responding page's register, as an agent reads it. -/
def State.word (s : State) (agent pg : Nat) (b : Block) (inst o : Nat) : Nat :=
  if o < 0x40 then s.hdrWord pg b inst o
  else match (b.regs inst).find? fun r => r.covers o with
    | none => 0
    | some r =>
      let off := 0x1000 * pg + o
      let stored := ((s.waiting off).getD (s.rd off)).toNat
      let v := match s.liveWord b inst o with
        | none => stored
        | some v => v - Nat.land v r.rw + Nat.land stored r.rw
      let v := Nat.lor v (s.heldTriggers off r)
      match s.claimOf pg with
      | none => v
      | some c => if c.owner = agent then
          (match Tab.find c.shadow off with
            | none => v
            | some w => v - Nat.land v r.rw + Nat.land w.toNat r.rw) else v

/-- A 32-bit aligned read. In factory test registers are open (R51). -/
def State.readReg (s : State) (agent off : Nat) : Word :=
  if s.pwr.factory then Config.factoryRegister off
  else match pageOf (off / 0x1000) with
    | none => 0
    | some (b, inst) =>
      let o := off % 0x1000
      if !s.responds b inst || !permitted agent b inst o false then 0
      else if !b.present s.part.variant inst then (if o = 0 then BitVec.ofNat 32 (hdrId s.part.variant b inst) else 0)
      else BitVec.ofNat 32 (s.word agent (off / 0x1000) b inst o)

/-- The state as it will read once the waiting router-frame writes have applied. -/
def State.waited (s : State) : State := s.regs.audio.foldl (fun s x => s.wr x.off x.val) s

end Sys2Proof.Machine
end

