-- ==== Sys2Proof/Machine/Access.lean ====
section
/-! DEFINITION. Register writes (R98 to R115): class, width, alignment, pairs, claims, out-of-range values, what each write
makes the block do, the router-frame edge of the audio pages (R467), and the writes that a restarting hub acts on
afterwards (R103). -/
namespace Sys2Proof.Machine
open Sys2Proof

/-! ### Values a register takes -/

/-- Whether a written word is taken, ignored without a record, or ignored and recorded as BADVAL (R109). -/
inductive Verdict where
  | take | skip | bad
  deriving DecidableEq, Repr

/-- A write that `ok` refuses is out of range. -/
def Verdict.need (ok : Bool) : Verdict := if ok then .take else .bad

/-- Low bits of an address field, ignored and read as zero, as a count (R109). -/
def lowBits (b : Block) (o : Nat) : Nat :=
  match b with
  | .hub => if o = 0x120 then 8 else 0
  | .rdr => if o = 0x100 ∨ o = 0x120 ∨ o = 0x140 ∨ o = 0x160 ∨ o = 0x200 ∨ o = 0x220 ∨ o = 0x240 ∨ o = 0x260 then 12 else 0
  | .jnl => if o = 0x080 then 12 else 0
  | .trc => if o = 0x04C ∨ o = 0x0D0 then 12 else if o = 0x058 then 4 else 0
  | _ => 0

/-- The word that a write leaves in a register: RW fields from the written word, address bits below the alignment at zero,
PWR_LIMIT clamped (R90, Table 3-21), and PWR_WAKE_EN.tandem_sb at zero without a tandem die (Table 3-16). -/
def State.merged (s : State) (b : Block) (r : RegSpec) (o off : Nat) (w : Word) : Word :=
  let old := (s.rd off).toNat
  let v := old - Nat.land old r.rw + Nat.land w.toNat r.rw
  let n := lowBits b o
  let v := v / 2 ^ n * 2 ^ n
  let v := match b, o with
    | .pwr, 0x064 => max 300 (min s.part.variant.maxMw (v % 65536)) + max 20 (min 1000 (bitsOf v 16 12)) * 2 ^ 16
    | .pwr, 0x04C => if s.part.variant.tandem then v else clearBit v 4
    | _, _ => v
  BitVec.ofNat 32 v

/-- A ring's control word is accepted (R188's chapter 6 rules): size and base stand while it is enabled. -/
def ringCtlOk (en : Nat) (old new : Word) : Bool :=
  let size := Word.fld new 0 4
  let changed := size ≠ Word.fld old 0 4
  !(changed && Word.bit old en) && !(changed && size < 4) && !(Word.bit new en && size < 4)

/-- A ceiling field lies within −384 to +12 (R509). -/
def ceilOk (v : Nat) : Bool := -384 ≤ signed16 v && signed16 v ≤ 12

/-- A write of a whole word to the RW fields of a register (R109 and the block's chapter). -/
def State.verdict (s : State) (b : Block) (inst o off : Nat) (w : Word) : Verdict :=
  let old := s.rd off
  match b, o with
  | .pwr, 0x068 => if Word.fld w 0 4 ≤ 12 then .take else .skip
  | .thm, 0x040 => Verdict.need (Word.fld w 0 8 < Word.fld w 8 8 && Word.fld w 8 8 ≤ 104)
  | .prt, 0x044 => Verdict.need (Word.fld w 0 6 ≤ 32)
  | .srv, 0x040 => Verdict.need (Word.fld w 0 6 ≤ 32)
  | .hub, 0x128 => Verdict.need (Word.fld w 0 24 ≠ 0xFF_FFFF)
  | .tanc, 0x040 => Verdict.need (!([0, 1].any fun p => (s.tport p).st = .linked || (s.tport p).st = .up))
  | .trc, 0x04C | .trc, 0x050 | .trc, 0x058 | .trc, 0x05C => Verdict.need (!s.bit Reg.TRC_CTL 0)
  | .trc, 0x054 => Verdict.need (!s.bit Reg.TRC_CTL 0 && 16 ≤ Word.fld w 0 24 && Word.fld w 0 24 ≤ 65536)
  | .saf, o =>
    if 0x080 ≤ o && o < 0x090 then Verdict.need (ceilOk (Word.fld w 0 16) && ceilOk (Word.fld w 16 16))
    else if 0x090 ≤ o && o < 0x0A0 && s.part.sealFuse then .skip
    else .take
  | .tanc, o => if 0x080 ≤ o && o < 0x0C0 then Verdict.need ((s.slotD ((o - 0x080) / 4)).st = .empty) else .take
  | .rdr, o =>
    if 0x100 ≤ o && o < 0x300 then
      let q := o % 0x80 / 0x20
      let en := if o < 0x200 then 8 else 16
      let ctl := s.rd (if o < 0x200 then Reg.RDR_SQ_CTL inst q else Reg.RDR_CQ_CTL inst q)
      match o % 0x20 with
      | 0x00 => Verdict.need (!Word.bit ctl en || Word.fld w 12 20 = Word.fld old 12 20)
      | 0x04 => Verdict.need (!Word.bit ctl en || w = old)
      | 0x08 => Verdict.need (ringCtlOk en old w)
      | _ => .take
    else .take
  | _, _ => .take

/-- Registers whose stored word is written by what the write makes the block do: the doorbells (R190) and the tick's
selection (R18). -/
def selfStored (b : Block) (o : Nat) : Bool :=
  match b with
  | .rdr => 0x100 ≤ o && o < 0x280 && o % 0x20 = 0x0C
  | .clk => o = 0x04C
  | _ => false

/-- The pages of the audio section (R467). -/
def Block.audio (b : Block) : Bool := b = .aud || b = .pdm || b = .pcm

/-- Registers whose writes wait for a router-frame edge (R467, R509). -/
def atFrame (b : Block) (o : Nat) : Bool := b.audio || (b = .saf && 0x080 ≤ o && o < 0x090)

/-! ### What a written value makes the block do -/

/-- The words of a latched entry. -/
def State.latchWords (s : State) (at_ : Nat) (bs : List Byte) : State :=
  (List.range 8).foldl (fun s k => s.wr (at_ + 4 * k) (BitVec.ofNat 32 (wordOf bs k))) s

/-- JNL_READ_IDX latches a position and checks what it holds (R210, R211). -/
def State.jnlLatch (s : State) (i : Nat) : State :=
  let e := Tab.find s.jnl.pos i
  let s := { s with jnl := { s.jnl with latched := e } }
  match e with
  | none => s
  | some e => if e.seq ≠ 0 && e.check ≠ crc16 e.body then (s.count Reg.JNL_CHECK_ERRS 1).raiseBit 0x006 2 else s

/-- TRC_LOG_READ latches an entry of a hub's ring and checks it (R544, R546). -/
def State.logLatch (s : State) (w : Word) : State :=
  let e := Tab.find (Tab.get LogRing.zero s.trc.logs (Word.fld w 0 2)).pos (Word.fld w 2 11)
  let s := { s with trc := { s.trc with latched := e } }
  match e with
  | none => s
  | some e => if e.whole then s else s.count Reg.TRC_LOG_CHECK_ERRS 1

/-- TRC_OBJ_READ latches an object's counters (R555). -/
def State.objLatch (s : State) (w : Word) : State :=
  let k := Word.fld w 0 10 + (if Word.bit w 10 then 1024 else 0)
  let l := Tab.get (List.replicate 8 0) s.trc.objs k
  let s := { s with trc := { s.trc with objLast := some k } }
  (List.range 8).foldl (fun s i => s.wr (Reg.TRC_OBJ_DATA i) (BitVec.ofNat 32 (l.getD i 0))) s

/-- A record that no filter holds back: TICK_HIGH and LOST (R548). -/
def State.fire (s : State) (p a : Nat) : State := { s with trc := { s.trc with fired := s.trc.fired ++ [(p, 0, 0, a)] } }

/-- Tracing starts (R548, R553). -/
def State.startTrace (s : State) : State :=
  let s := { s with trc := { s.trc with running := true, resume := false } }
  s.fire 0 (s.tick.number.toNat / 2 ^ 32)

/-- TRC_CTL is written (R551, R553). -/
def State.traceCtl (s : State) (new : Word) : State :=
  if Word.bit new 0 then
    let s := { s with trc := { s.trc with full := false } }
    if s.trc.running then s
    else if s.pwr.st = .aon then { s with trc := { s.trc with resume := true } }
    else s.startTrace
  else { s with trc := { s.trc with running := false, resume := false } }

/-- A ring's control register is written: an enabled ring starts empty (R188, R191), and what reported through a completion
ring before no longer stands in it. -/
def State.ringCtl (s : State) (n q : Nat) (cq : Bool) (old new : Word) : State :=
  let en : Nat := if cq then 16 else 8
  if !Word.bit old en && Word.bit new en then
    if cq then
      ({ s with link := { s.link with reported := s.link.reported.filter fun (r : Reported) => !(r.rider = n && r.cq = q) } }.wr
        (Reg.RDR_CQ_HEAD n q) 0).wr (Reg.RDR_CQ_TAIL n q) 0
    else
      ({ s with link := { s.link with fetchStop := s.link.fetchStop.filter fun x => x ≠ (n, q) } }.wr
        (Reg.RDR_SQ_HEAD n q) 0).wr (Reg.RDR_SQ_TAIL n q) 0
  else s

/-- TAN_PORT_CTL.enable is written (R436, Table 15-1). -/
def State.portEnable (s : State) (p : Nat) (old new : Bool) : State :=
  if old = new then s
  else if !new then s.portDown p .off
  else if s.pwr.st = .serve then s.detect p else s

/-- TAN_TICK_CTL is written (R448): a chip that follows no longer is not locked, and one that starts to follow measures anew.
A lock asked for while the tick's source is not REF is refused and recorded. -/
def State.tickLock (s : State) (agent : Nat) (old new : Word) : State :=
  if Word.fld old 0 2 = Word.fld new 0 2 then s
  else
    let s := if s.tan.locked then s.unlockNow else s
    let s := { s with tan := { s.tan with good := 0, missing := 0, first := false, leaderRoot := 0xFF } }
    if Word.bit new 0 && s.tick.source ≠ 0 then s.recordErr 0x022 tanNotLocked agent Reg.TAN_TICK_CTL true 0xF else s

/-- CLK_TICK_CTL is written (R18): an accepted selection stands in the register, a refused one leaves it as it was. -/
def State.tickWrite (s : State) (w : Word) : State :=
  if s.slavedOk (Word.fld w 0 2) (Word.fld w 4 3) then (s.wr Reg.CLK_TICK_CTL (BitVec.ofNat 32 (Nat.land w.toNat 0x73))).tickCtl w
  else s.tickRefused

/-- What the new value of a register's RW fields makes the block do (R239 and R414 for what admission reads); `old` is the
word before. -/
def State.valueAct (s : State) (agent : Nat) (b : Block) (inst o : Nat) (old new : Word) : State :=
  match b, o with
  | .clk, 0x04C => s.tickWrite new
  | .clk, 0x058 => s.wantRecheck.repannier
  | .pwr, 0x068 | .prt, 0x044 => s.wantRecheck
  | .jnl, 0x050 => s.jnlLatch (Word.fld new 0 13)
  | .str, 0x044 => s.latchWords (Reg.STR_ENTRY 0) (s.strEntry (Word.fld new 0 10))
  | .kvc, 0x044 => s.latchWords (Reg.KVC_SEQ_ENTRY 0) (s.seqEntry (Word.fld new 0 10))
  | .trc, 0x040 => s.traceCtl new
  | .trc, 0x070 => s.logLatch new
  | .trc, 0x07C => s.objLatch new
  | .tan, 0x040 => s.portEnable inst (Word.bit old 0) (Word.bit new 0)
  | .tanc, 0x044 => s.tickLock agent old new
  | .rdr, o =>
    if 0x100 ≤ o && o < 0x280 then
      let q := o % 0x80 / 0x20
      if o % 0x20 = 0x08 then s.ringCtl inst q (Nat.ble 0x200 o) old new
      else if o % 0x20 = 0x0C then (if o < 0x200 then s.sqTail agent inst q new else s.cqHead agent inst q new)
      else s
    else s
  | _, _ => s

/-! ### What a written trigger makes the block do -/

/-- Statistics counters return to zero (R117). -/
def State.clearCounters (s : State) (b : Block) (inst o : Nat) (bits : Nat) : State :=
  let pg := match b with
    | .hub => 0x008 + inst | .rdr => 0x040 + inst | .stk => 0x050 + inst | .chn => 0x060 + inst | .cas => 0x030 + inst
    | .prt => 0x028 + inst | .tan => 0x020 + inst | .pdm => 0x018 + inst | .pcm => 0x016 + inst | .spk => 0x080 + inst
    | .idn => 0x000 | .pwr => 0x001 | .clk => 0x002 | .thm => 0x003 | .rst => 0x004 | .saf => 0x005 | .jnl => 0x006
    | .prs => 0x007 | .lnk => 0x00C | .trc => 0x00D | .srv => 0x00E | .drl => 0x00F | .str => 0x010 | .kvc => 0x011
    | .aud => 0x012 | .tanc => 0x022
  ((clears b o).zipIdx.filter fun x => bits.testBit x.2).foldl (fun s x => x.1.foldl (fun s c => s.wr (0x1000 * pg + c) 0) s) s

/-- SAF_CTL.store (R509): the limits go to the store of a part that is not sealed. -/
def State.storeCeilings (s : State) (agent : Nat) : State :=
  if s.part.sealFuse then s.badVal agent Reg.SAF_CTL
  else { s with part := { s.part with ceilMax := (List.range 4).map fun o => (o, s.rd (Reg.SAF_CEIL_MAX o)) } }

/-- SAF_TEST.tag (R523): a test block with a foreign tag fails the check; the spec names no tag, handle and owner for it. -/
def State.testTag (s : State) : State :=
  let (c, s) := s.fresh
  let t := Config.testBlock c
  s.tagFails (t.1 % 2 ^ 32) (t.2.1 % 65536) (t.2.2 % 256)

/-- JNL_DUMP_CTL.go (R210); ignored while a dump runs. -/
def State.dumpGo (s : State) : State :=
  if s.jnl.dumping.isSome then s
  else { s with jnl := { s.jnl with dumping := some (s.rd64 Reg.JNL_DUMP_ADDR_LO) } }

/-- TRC_SNAP_CTL.go (R556); ignored while a snapshot is asked for or written. -/
def State.snapGo (s : State) : State :=
  if s.trc.snap.isSome then s else { s with trc := { s.trc with snap := some none } }

/-- TAN_PORT_CTL.wake_peer (R462): the sideband goes low for 2 ms. -/
def State.wakePeer (s : State) (p : Nat) : State :=
  (s.modTport p fun x => { x with sbUntil := s.now + 2000 }).emit (.sideband p)

/-- Apply `f` where bit `i` of the written bits is 1. -/
def State.onBit (s : State) (bits i : Nat) (f : State → State) : State := if bits.testBit i then f s else s

/-- What the W1S, W1C and WO bits of a write make the block do. `image` and `stored` are what host memory and the store answer
to a firmware operation (R154). -/
def State.triggerAct (s : State) (agent : Nat) (b : Block) (inst o bits : Nat) (image : Option (List Byte)) (stored : Bool) :
    State :=
  match b, o with
  | .pwr, 0x044 => s.onBit bits 31 fun s =>
      ({ s with pwr := { s.pwr with request := some (s.fld Reg.PWR_STATE_CTL 0 3, s.now) } }.setFld Reg.PWR_STATE_CTL 31 1 1).setFld
        Reg.PWR_STATE 4 3 1
  | .pwr, 0x050 => s.wr Reg.PWR_WAKE_CAUSE (BitVec.ofNat 32 ((s.rd Reg.PWR_WAKE_CAUSE).toNat - Nat.land (s.rd Reg.PWR_WAKE_CAUSE).toNat bits))
  | .rst, 0x040 => s.onBit bits 0 fun s =>
      let t := s.wantReset 3
      if s.boot.resetReq.isNone && t.boot.resetReq.isSome then t.setFld Reg.RST_CTL 0 1 1 else t
  | .hub, 0x044 => s.onBit bits 0 fun s => s.beginRestart inst 1 false
  | .hub, 0x110 => s.onBit bits 0 State.makeOffer
  | .hub, 0x12C => s.onBit bits 31 fun s => s.fwGo (s.fld Reg.HUB_FW_CTL 0 3) image stored
  | .rdr, 0x044 => s.onBit bits 0 fun s => s.riderReset inst
  | .jnl, 0x088 => s.onBit bits 0 State.dumpGo
  | .prs, 0x044 => s.onBit bits 0 State.closeWindow
  | .tan, 0x040 =>
    let s := s.onBit bits 5 fun s => s.unpair inst
    let s := s.onBit bits 6 fun s => s.wakePeer inst
    s.onBit bits 4 fun s => if s.bit (Reg.TAN_PORT_CTL inst) 0 && s.pwr.st = .serve then s.detect inst else s
  | .saf, 0x048 =>
    let s := s.onBit bits 0 fun s => s.kick 9
    let s := s.onBit bits 1 fun s => s.unkick 9
    s.onBit bits 2 fun s => s.storeCeilings agent
  | .saf, 0x050 => s.onBit bits 16 fun s => s.setFld Reg.SAF_PRIV 2 3 0
  | .saf, 0x06C =>
    let s := (List.range 4).foldl (fun s k => s.onBit bits k fun s => s.testCeiling k) s
    let s := s.onBit bits 4 State.testTag
    s.onBit bits 5 fun s => { s with isl := { s.isl with forceDark := 5 } }
  | .trc, 0x0D8 => s.onBit bits 0 State.snapGo
  | .trc, 0x0DC =>
    let s := s.clearCounters b inst o bits
    s.onBit bits 3 fun s => match s.trc.objLast with
      | none => s
      | some k => { s with trc := { s.trc with objs := Tab.erase s.trc.objs k } }
  | .saf, o =>
    if 0x0A0 ≤ o && o < 0x0B0 then
      let k := (o - 0x0A0) / 4
      s.onBit bits 2 fun s => s.setPinOut k { s.pinOut k with clear := true }
    else s.clearCounters b inst o bits
  | _, _ => s.clearCounters b inst o bits

/-! ### Applying writes -/

/-- A write waits for the hub of its page, which restarts (R103): it is acted on when the restart ends. -/
def State.hubWaits (s : State) (b : Block) (inst : Nat) : Option Nat :=
  match hubOf b inst with
  | none => none
  | some h => if s.restarting h then some h else none

/-- Act on a new value, or leave the act to a hub that restarts. -/
def State.actValue (s : State) (agent off : Nat) (old new : Word) : State :=
  match pageOf (off / 0x1000), specAt off with
  | some (b, inst), some r =>
    match s.hubWaits b inst with
    | some h =>
      let s := { s with regs := { s.regs with hubActs := s.regs.hubActs ++
        [(h, { agent := agent, off := off, val := BitVec.ofNat 32 (Nat.land new.toNat r.rw), hi := some old })] } }
      if selfStored b (off % 0x1000) then s.wr off (BitVec.ofNat 32 (Nat.land new.toNat r.rw)) else s
    | none => s.valueAct agent b inst (off % 0x1000) old new
  | _, _ => s

/-- Act on written trigger bits, or leave the act to a hub that restarts; a restart asked of a hub that restarts is ignored for
good (R148). -/
def State.actTrigger (s : State) (agent off bits : Nat) (image : Option (List Byte)) (stored : Bool) : State :=
  match pageOf (off / 0x1000) with
  | none => s
  | some (b, inst) =>
    match s.hubWaits b inst with
    | some h =>
      if (b = .hub && off % 0x1000 = 0x044) || off = Reg.PWR_WAKE_CAUSE then s.triggerAct agent b inst (off % 0x1000) bits image stored
      else
        let s := { s with regs := { s.regs with hubActs := s.regs.hubActs ++
          [(h, { agent := agent, off := off, val := BitVec.ofNat 32 bits, hi := none })] } }
        if off = Reg.HUB_FW_CTL then { s with boot := { s.boot with heldImage := image, heldStored := stored } } else s
    | none => s.triggerAct agent b inst (off % 0x1000) bits image stored

/-- A write of RW fields judged on its own: the word it stores, or its verdict. -/
def State.judgeWord (s : State) (off : Nat) (w : Word) : Verdict × Word :=
  match pageOf (off / 0x1000), specAt off with
  | some (b, inst), some r => (s.verdict b inst (off % 0x1000) off w, s.merged b r (off % 0x1000) off w)
  | _, _ => (.skip, 0)

/-- Registers that one write or one commit changes together, each unit a single register or a pair with the offset that an error
records (R106, R113): those that stand are stored at once, and then acted on in order. -/
def State.settle (s : State) (units : List (Nat × Nat × List (Nat × Word))) : State :=
  let stand := units.filter fun u => u.2.2.all fun x => (s.judgeWord x.1 x.2).1 = .take
  let wrong := units.filter fun u => u.2.2.any fun x => (s.judgeWord x.1 x.2).1 = .bad
  let t := wrong.foldl (fun t u => t.badVal u.2.1 u.1) s
  let words := stand.flatMap fun u => u.2.2.map fun x => (u.2.1, x.1, (s.judgeWord x.1 x.2).2)
  let t := words.foldl (fun t x =>
    if (match pageOf (x.2.1 / 0x1000) with | some (b, _) => selfStored b (x.2.1 % 0x1000) | none => true) then t
    else t.wr x.2.1 x.2.2) t
  words.foldl (fun t x => t.actValue x.1 x.2.1 (s.rd x.2.1) x.2.2) t

/-! ### The audio pages (R467) -/

/-- Whether a write would enable a port that has failed (R527). -/
def State.enablesFailed (s : State) (off : Nat) (w : Word) : Bool :=
  match pageOf (off / 0x1000) with
  | some (.pdm, _) => s.aud.failed.contains (off / 0x1000) && off % 0x1000 = 0x040 && Word.bit w 0
  | some (.pcm, _) =>
    s.aud.failed.contains (off / 0x1000) && (off % 0x1000 = 0x040 || off % 0x1000 = 0x060) && Word.bit w 0
  | _ => false

/-- A write that waits for the router-frame edge: judged with what already waits in place, and refused where it is out of range
or where it would break what stood (R465, R466, R471, R475, R527). -/
def State.frameWrite (s : State) (agent off : Nat) (w : Word) : State :=
  match pageOf (off / 0x1000), specAt off with
  | some (b, inst), some r =>
    let view := s.waited
    let new := view.merged b r (off % 0x1000) off w
    if s.enablesFailed off new then s.recordErr (off / 0x1000) 0x0D01 0x13 off true 0xF
    else if view.verdict b inst (off % 0x1000) off w ≠ .take || (b.audio && view.audioOk && !(view.wr off new).audioOk) then
      s.badVal agent off
    else { s with regs := { s.regs with audio := s.regs.audio ++ [{ agent := agent, off := off, val := new, hi := none }] } }
  | _, _ => s

/-- An audio port's page and whether it is enabled in each direction, for the log (R543). -/
def State.portEnables (s : State) : List (Nat × Bool) :=
  ((List.range 6).map fun d => (0x018 + d, s.bit (Reg.PDM_CTL d) 0))
    ++ [0, 1].map fun p => (0x016 + p, s.bit (Reg.PCM_TX_CTL p) 0 || s.bit (Reg.PCM_RX_CTL p) 0)

/-- A selected tick source that has been disabled makes the tick fall back at once (R481). -/
def State.sourceDisabled (s : State) : State :=
  if s.tick.source = 0 then s
  else
    let k := s.tick.source - 1
    if s.bit (pcmCtl (k / 2) (k % 2)) 0 then s else s.tickFallback

/-- The committed shadows of an audio page apply: together where they are permitted, else one by one (R113, R467). -/
def State.frameCommit (s : State) (c : Commit) : State :=
  let ws := c.shadow.filter fun x => !s.enablesFailed x.1 x.2
  let s := (c.shadow.filter fun x => s.enablesFailed x.1 x.2).foldl (fun s x => s.recordErr (x.1 / 0x1000) 0x0D01 0x13 x.1 true 0xF) s
  let put (t : State) (x : Nat × Word) : State :=
    match pageOf (x.1 / 0x1000), specAt x.1 with
    | some (b, _), some r => t.wr x.1 (t.merged b r (x.1 % 0x1000) x.1 x.2)
    | _, _ => t
  let all := ws.foldl put s
  if all.audioOk || !s.audioOk then all
  else ws.foldl (fun t x => if (put t x).audioOk then put t x else t.badVal c.owner x.1) s

/-! ### Claims (R111 to R115) -/

/-- The pages that a commit's trigger list reaches. -/
def State.playTriggers (s : State) (l : List RegWrite) : State :=
  l.foldl (fun s x => s.actTrigger x.agent x.off x.val.toNat none false) s

/-- The units of a commit's RW values: the words of a pair stand together, an unwritten one at its live value (R113). -/
def State.commitUnits (s : State) (owner : Nat) (shadow : List (Nat × Word)) : List (Nat × Nat × List (Nat × Word)) :=
  shadow.filterMap fun x =>
    match (specAt x.1).map RegSpec.role with
    | some .lo => some (x.1, owner, [x, (x.1 + 4, (Tab.find shadow (x.1 + 4)).getD (s.rd (x.1 + 4)))])
    | some .hi => if (Tab.find shadow (x.1 - 4)).isSome then none else some (x.1, owner, [(x.1 - 4, s.rd (x.1 - 4)), x])
    | _ => some (x.1, owner, [x])

/-- A commit by the owner (R113): on an audio page it waits for the router-frame edge, else it applies now; SAF_CEIL_LIMIT
values wait on their own. -/
def State.commitClaim (s : State) (pg : Nat) (c : Claim) : State :=
  let s := { s with regs := { s.regs with claims := Tab.erase s.regs.claims pg } }
  match pageOf pg with
  | none => s
  | some (b, _) =>
    if b.audio then
      let w : Commit := { owner := c.owner, shadow := c.shadow, trigger := c.trigger, behind := [] }
      { s with regs := { s.regs with commits := Tab.put s.regs.commits pg w } }
    else
      let late := c.shadow.filter fun x => atFrame b (x.1 % 0x1000)
      let now := c.shadow.filter fun x => !atFrame b (x.1 % 0x1000)
      let s := s.settle (s.commitUnits c.owner now)
      let s := late.foldl (fun s x => s.frameWrite c.owner x.1 x.2) s
      s.playTriggers c.trigger

/-- Claim, commit and abandon (R111, R113, R115): `w` is the word written to HDR_CLAIM. -/
def State.claimWrite (s : State) (agent pg : Nat) (b : Block) (w : Word) : State :=
  let off := hdrOff pg 0x024
  let n := Bool.num (Word.bit w 0) + Bool.num (Word.bit w 1) + Bool.num (Word.bit w 2)
  if 1 < n then s.badVal agent off
  else if Word.bit w 0 then
    if !b.claimable || (s.claimOf pg).isSome || s.commitBusy pg then s
    else
      let s := s.setFld (hdrOff pg 0x028) 8 8 (s.fld (hdrOff pg 0x028) 8 8 + 1)
      { s with regs := { s.regs with claims := Tab.put s.regs.claims pg { owner := agent, since := s.now, shadow := [], trigger := [] } } }
  else match s.claimOf pg with
    | none => s
    | some c =>
      if Word.bit w 1 then
        if c.owner = agent then s.commitClaim pg c else s.recordErr pg 0x0103 agent off true 0xF
      else if Word.bit w 2 then
        if c.owner = agent then { s with regs := { s.regs with claims := Tab.erase s.regs.claims pg } }
        else if agent = 0 then s.dropClaim pg 0x0106
        else s.recordErr pg 0x0103 agent off true 0xF
      else s

/-! ### The common header -/

/-- A page's message is sent again where a write to its interrupt registers leaves the line at 1 (R123). -/
def State.resend (s : State) (pg : Nat) (f : State → State) : State :=
  let n := pageRider pg
  let t := s.withLine pg f
  if s.line n (s.pageVector pg) && t.line n (t.pageVector pg) then t.dueVec n (t.pageVector pg) else t

/-- A write to a header register (R101, R102, R123), claims apart. -/
def State.headerWrite (s : State) (pg : Nat) (b : Block) (inst o : Nat) (w : Word) : State :=
  if o = 0x008 then s.withLine pg fun s => s.wr (hdrOff pg o) (BitVec.ofNat 32 (w.toNat % 64))
  else if o = 0x010 then
    s.resend pg fun s =>
      let v := (s.rd (hdrOff pg o)).toNat
      s.wr (hdrOff pg o) (BitVec.ofNat 32 (v - Nat.land v w.toNat))
  else if o = 0x014 then s.resend pg fun s => s.wr (hdrOff pg o) (BitVec.ofNat 32 (Nat.land w.toNat (intMask b inst)))
  else if o = 0x018 then s.raise pg (Nat.land w.toNat (intMask b inst))
  else if o = 0x01C then if Word.bit w 31 then (s.wr (hdrOff pg 0x01C) 0).wr (hdrOff pg 0x020) 0 else s
  else if o = 0x02C then s.wr (hdrOff pg o) w
  else s

/-! ### One write of a word or a pair -/

/-- The owner's write under a claim (R112): RW values to the shadow, triggers held in order. -/
def State.shadowWrite (s : State) (agent pg : Nat) (c : Claim) (off : Nat) (r : RegSpec) (w : Word) : State :=
  let base := ((Tab.find c.shadow off).getD (s.rd off)).toNat
  let shadow := if r.rw = 0 then c.shadow
    else Tab.put c.shadow off (BitVec.ofNat 32 (base - Nat.land base r.rw + Nat.land w.toNat r.rw))
  let bits := Nat.land w.toNat (Nat.lor r.w1c (Nat.lor r.w1s r.wo))
  let trigger := if bits = 0 then c.trigger else c.trigger ++ [{ agent := agent, off := off, val := BitVec.ofNat 32 bits, hi := none }]
  { s with regs := { s.regs with claims := Tab.put s.regs.claims pg { c with shadow := shadow, trigger := trigger } } }

/-- A single register is written outside a claim (R114): RW fields first, then what it triggers. -/
def State.applyWord (s : State) (agent off : Nat) (r : RegSpec) (b : Block) (w : Word) (image : Option (List Byte)) (stored : Bool) :
    State :=
  let late := atFrame b (off % 0x1000)
  let s := if r.rw = 0 then s else if late then s.frameWrite agent off w else s.settle [(off, agent, [(off, w)])]
  let bits := Nat.land w.toNat (Nat.lor r.w1c (Nat.lor r.w1s r.wo))
  if bits = 0 then s else s.actTrigger agent off bits image stored

/-- A write of an aligned word at a register of a present page, past class and width (R107, R112 to R114). -/
def State.writeWord (s : State) (agent off : Nat) (b : Block) (inst : Nat) (r : RegSpec) (w : Word) (image : Option (List Byte))
    (stored : Bool) : State :=
  let pg := off / 0x1000
  let o := off % 0x1000
  if o = 0x024 then s.claimWrite agent pg b w
  else match Tab.find s.regs.commits pg with
    | some c =>
      let x : RegWrite := { agent := agent, off := off, val := w, hi := none }
      { s with regs := { s.regs with commits := Tab.put s.regs.commits pg { c with behind := c.behind ++ [x] } } }
    | none =>
      if o < 0x040 then s.headerWrite pg b inst o w
      else match s.claimOf pg with
        | some c =>
          if c.owner ≠ agent then s.recordErr pg 0x0103 agent off true 0xF
          else
            match r.role, Tab.find s.regs.heldLo (agent, off - 4) with
            | .hi, some lo =>
              let c := { c with shadow := Tab.put c.shadow (off - 4) lo }
              ({ s with regs := { s.regs with heldLo := Tab.erase s.regs.heldLo (agent, off - 4) } }).shadowWrite agent pg c off r w
            | _, _ => s.shadowWrite agent pg c off r w
        | none =>
          match r.role with
          | .single => s.applyWord agent off r b w image stored
          | .lo => if r.rw = 0 then s else { s with regs := { s.regs with heldLo := Tab.set s.regs.heldLo (agent, off) w } }
          | .hi =>
            if r.rw = 0 then s
            else
              let lo := (Tab.find s.regs.heldLo (agent, off - 4)).getD (s.rd (off - 4))
              let s := { s with regs := { s.regs with heldLo := Tab.erase s.regs.heldLo (agent, off - 4) } }
              s.settle [(off, agent, [(off - 4, lo), (off, w)])]

/-- A 64-bit write at a pair's offset (R106, R112). -/
def State.writePair (s : State) (agent off : Nat) (lo hi : Word) (r : RegSpec) : State :=
  let pg := off / 0x1000
  match s.claimOf pg with
  | some c =>
    if c.owner ≠ agent then s.recordErr pg 0x0103 agent off true 0xF
    else
      let c := if r.rw = 0 then c else { c with shadow := Tab.put (Tab.put c.shadow off lo) (off + 4) hi }
      { s with regs := { s.regs with heldLo := Tab.erase s.regs.heldLo (agent, off), claims := Tab.put s.regs.claims pg c } }
  | none =>
    if r.rw = 0 then s
    else ({ s with regs := { s.regs with heldLo := Tab.erase s.regs.heldLo (agent, off) } }).settle
      [(off, agent, [(off, lo), (off + 4, hi)])]

/-! ### An access (R97 to R100, R104, R105, R108) -/

/-- A write that the class of its page does not permit (R99). -/
def State.denied (s : State) (agent off be : Nat) : State :=
  s.recordErr (if agent < 0x10 then 0x040 + agent else off / 0x1000) 0x0102 agent off true be

/-- A write of at most one aligned word: `be` are its byte enables from `off`, and `w` the data. -/
def State.access32 (s : State) (agent off be : Nat) (w : Word) (image : Option (List Byte)) (stored : Bool) : State :=
  match pageOf (off / 0x1000) with
  | none => s
  | some (b, inst) =>
    let lanes := be * 2 ^ (off % 4) % 16
    if !s.responds b inst then s
    else if !permitted agent b inst (off % 0x1000) true then s.denied agent off lanes
    else if !b.present s.part.variant inst then s
    else match specAt (off / 4 * 4) with
      | none => s
      | some r =>
        if off % 4 ≠ 0 || be % 16 ≠ 0xF then s.recordErr (off / 0x1000) 0x0101 agent off true lanes
        else s.writeWord agent off b inst r w image stored

/-- A write access of up to eight bytes: whole where it covers a pair, in words otherwise; a misaligned one is judged once, by
the page of its first byte. -/
def State.access (s : State) (agent off be : Nat) (val : DWord) (image : Option (List Byte)) (stored : Bool) : State :=
  let lo : Word := BitVec.ofNat 32 val.toNat
  let hi : Word := BitVec.ofNat 32 (val.toNat / 2 ^ 32)
  let pair := off % 4 = 0 && be = 0xFF && (specAt off).map RegSpec.role = some .lo
  if be = 0 then s
  else if pair then
    match pageOf (off / 0x1000), specAt off with
    | some (b, inst), some r =>
      if !s.responds b inst then s
      else if !permitted agent b inst (off % 0x1000) true then s.denied agent off 0xF
      else if !b.present s.part.variant inst then s
      else s.writePair agent off lo hi r
    | _, _ => s
  else if off % 4 ≠ 0 then s.access32 agent off (be % 16) lo image stored
  else
    let s := if be % 16 = 0 then s else s.access32 agent off (be % 16) lo image stored
    if be / 16 = 0 then s else s.access32 agent (off + 4) (be / 16) hi image stored

/-- A host access that arrives in AON is held, sets the host_access cause and starts the wake (R70, R184). The byte enables are
kept above the offset. -/
def State.holdAccess (s : State) (agent off be : Nat) (val : Option DWord) (image : Option (List Byte)) (stored : Bool) :
    State :=
  let s := match val with
    | none => s
    | some v =>
      let s := if off = Reg.HUB_FW_CTL then { s with boot := { s.boot with heldImage := image, heldStored := stored } } else s
      let x : RegWrite := { agent := agent, off := off + be * 2 ^ 21, val := BitVec.ofNat 32 v.toNat,
                            hi := some (BitVec.ofNat 32 (v.toNat / 2 ^ 32)) }
      { s with pwr := { s.pwr with held := s.pwr.held ++ [x] } }
  s.wakeCause 0 false

/-- A register write by an agent: a rider's function must exist (R165), and in AON a host access is held (R184). -/
def State.writeAccess (s : State) (agent off be : Nat) (val : DWord) (image : Option (List Byte)) (stored : Bool) : State :=
  if agent < 0x10 && !s.riderExists agent then s
  else if agent < 0x10 && s.pwr.st = .aon then s.holdAccess agent off be (some val) image stored
  else (if agent < 0x10 then s.wakeLink else s).access agent off be val image stored

/-- The accesses that AON held are completed in order (R70, R184). -/
def State.releaseHeld (s : State) : State :=
  let l := s.pwr.held
  let image := s.boot.heldImage
  let stored := s.boot.heldStored
  l.foldl (fun s x => s.access x.agent (x.off % 2 ^ 21) (x.off / 2 ^ 21)
      (BitVec.ofNat 64 (x.val.toNat + (x.hi.getD 0).toNat * 2 ^ 32)) image stored)
    { s with pwr := { s.pwr with held := [] }, boot := { s.boot with heldImage := none, heldStored := false } }

/-! ### The router-frame edge and the end of a restart -/

/-- Audio writes and commits apply at a router-frame edge (R467), with what follows: port changes are logged, sinks start or
stop, the tick falls back from a disabled source, and writes held behind a commit take effect. While the AUDIO hub
restarts, the writes to its pages wait on; a commit does not (R103). -/
def State.applyFrame (s : State) : State :=
  let old := s
  let away := s.restarting 3
  let ready := s.regs.audio.filter fun x => !away || x.off / 0x1000 = 0x005
  let stay := s.regs.audio.filter fun x => !(!away || x.off / 0x1000 = 0x005)
  let commits := s.regs.commits
  let s := { s with regs := { s.regs with audio := stay, commits := [] } }
  let s := ready.foldl (fun s x => s.wr x.off x.val) s
  let s := commits.foldl (fun s c => (s.frameCommit c.2).playTriggers c.2.trigger) s
  let s := (commits.flatMap fun c => c.2.behind).foldl (fun s x => s.access x.agent x.off 0xF (BitVec.ofNat 64 x.val.toNat) none false) s
  let s := if away then s
    else { (s.regs.audio.foldl (fun s x => s.wr x.off x.val) s) with regs :=
      { (s.regs.audio.foldl (fun s x => s.wr x.off x.val) s).regs with audio := [] } }
  let s := (old.portEnables.zip s.portEnables).foldl (fun s x =>
    if x.1.2 = x.2.2 then s else s.log 3 2 0x8006 x.1.1 (Bool.num x.2.2) 0) s
  (s.resetSinks old).sourceDisabled

/-- Hub `h` acts on the writes that waited for it, in order (R103). -/
def State.replayHub (s : State) (h : Nat) : State :=
  let mine := s.regs.hubActs.filter fun x => x.1 = h
  let s := { s with regs := { s.regs with hubActs := s.regs.hubActs.filter fun x => x.1 ≠ h } }
  let s := match mine.find? fun x => x.2.off = Reg.CLK_TICK_CTL with
    | some x => s.wr Reg.CLK_TICK_CTL (x.2.hi.getD 0)
    | none => s
  let image := s.boot.heldImage
  let s := mine.foldl (fun s x => match x.2.hi with
    | some old => s.actValue x.2.agent x.2.off old x.2.val
    | none => s.actTrigger x.2.agent x.2.off x.2.val.toNat image s.boot.heldStored) s
  { s with boot := { s.boot with heldImage := none, heldStored := false } }

end Sys2Proof.Machine
end

