-- ==== Sys2Proof/Machine/Admit.lean ====
section
/-! DEFINITION. Submission (R187 to R197, R202, R203): fetching and accepting descriptors, the admission checks in their
order, and what each opcode does once it has passed them. -/
namespace Sys2Proof
namespace Machine

/-! ### Descriptors (R193 to R195) -/

end Machine
/-- An operand of `n` bytes at descriptor offset `o`. -/
def Desc.opnd (d : Desc) (o n : Nat) : Nat := Machine.leAt d.ops (o - 0x20) n

/-- The handle's kind and index (R194). -/
def Desc.kind (d : Desc) : Nat := d.target / 2 ^ 28
def Desc.index (d : Desc) : Nat := d.target % 2 ^ 28
namespace Machine

/-- The index that asks for any free one (R194). -/
def anyIndex : Nat := 0x0FFF_FFFF

/-- The opcodes of Table 7-3. -/
def knownOp (op : Nat) : Bool :=
  [0x00, 0x01, 0x02, 0x10, 0x11, 0x12, 0x13, 0x14, 0x20, 0x21, 0x30, 0x31, 0x32, 0x40, 0x41, 0x42, 0x50, 0x60, 0x61, 0x70,
   0x71, 0x72, 0x73, 0x74].contains op

/-- The handle kinds that the Target column names; none where it reads 0. -/
def opTargets (op : Nat) : List Nat :=
  if op = 0x02 ∨ op = 0x61 then [1, 2]
  else if 0x10 ≤ op ∧ op ≤ 0x14 then [4]
  else if op = 0x20 ∨ op = 0x21 ∨ op = 0x40 then [5]
  else if 0x30 ≤ op ∧ op ≤ 0x32 then [1]
  else if op = 0x41 ∨ op = 0x42 then [2]
  else if op = 0x50 then [3]
  else []

/-- Bytes of the unit of data_len; 0 where the Data column reads —. -/
def opUnit (op : Nat) : Nat :=
  if op = 0x10 ∨ op = 0x12 ∨ op = 0x13 then 4096
  else if op = 0x30 ∨ op = 0x40 ∨ op = 0x41 ∨ op = 0x50 then 1
  else 0

/-- Alignment of data_addr (Tables 7-1 and 16-5). -/
def opAlign (op : Nat) : Nat := if opUnit op = 4096 then 4096 else if op = 0x50 then 64 else 4

/-- The opcode uses the output fields. -/
def opHasOut (op : Nat) : Bool := op = 0x02 || op = 0x30 || op = 0x32 || op = 0x40

/-- The operand bytes that the opcode uses, as (first, count) from 0x20. -/
def opUsed (op : Nat) : List (Nat × Nat) :=
  if op = 0x01 ∨ op = 0x12 ∨ op = 0x71 ∨ op = 0x72 ∨ op = 0x74 then [(0, 4)]
  else if op = 0x10 ∨ op = 0x13 ∨ op = 0x14 then [(0, 1)]
  else if op = 0x20 then [(0, 4), (8, 11)]
  else if op = 0x30 ∨ op = 0x50 then [(0, 8)]
  else if op = 0x40 then [(0, 7), (8, 4)]
  else if op = 0x60 ∨ op = 0x61 then [(0, 2)]
  else []

/-- A privileged opcode (Table 7-3): DEBUG_UNLOCK once the part is sealed. -/
def State.privileged (s : State) (op : Nat) : Bool :=
  op = 0x60 || op = 0x70 || op = 0x71 || op = 0x72 || op = 0x74 || (op = 0x73 && s.part.sealFuse)

/-! ### Checks 2 to 5 (Table 7-7) -/

/-- Check 2: the issuer is permitted (Table 7-3, R252, R277): a cassette with layers in the pannier is rider 0's. -/
def State.issuerOk (s : State) (n : Nat) (d : Desc) : Bool :=
  let op := d.opcode
  n = 0 || !(op = 0x20 || op = 0x21 || op = 0x60 || 0x70 ≤ op || (op = 0x10 && d.opnd 0x20 1 = 1)
    || (op = 0x12 && d.kind = 4 && (s.slotD d.index).pannier))

end Machine
/-- Every operand byte that the opcode does not use is zero. -/
def Desc.restZero (d : Desc) : Bool :=
  d.ops.zipIdx.all fun x => x.1 = 0 || (Machine.opUsed d.opcode).any fun u => u.1 ≤ x.2 && x.2 < u.1 + u.2

/-- Enumerated operands of an opcode are within their values (Tables 7-3, 14-1 and 16-5, R262, R510). -/
def Desc.enumsOk (d : Desc) : Bool :=
  match d.opcode with
  | 0x10 => d.opnd 0x20 1 ≤ 1
  | 0x20 => d.opnd 0x28 8 % 4096 = 0 && d.opnd 0x28 8 + d.opnd 0x30 3 * 2 ^ 20 ≤ 2 ^ 64
  | 0x30 => d.opnd 0x22 1 ≤ 2
  | 0x40 => d.opnd 0x25 1 ≤ 1 && ((1 ≤ d.opnd 0x23 1 && d.opnd 0x23 1 ≤ 3) || d.opnd 0x23 1 = 0xFF)
  | 0x50 => d.opnd 0x20 1 ≤ 1 && d.opnd 0x21 1 ≤ 4 && 1 ≤ d.opnd 0x22 1 && d.opnd 0x22 1 ≤ 8 && 8000 ≤ d.opnd 0x24 4
      && d.opnd 0x24 4 ≤ 96000
  | 0x60 | 0x61 => d.opnd 0x20 1 ≤ 1 && d.opnd 0x21 1 ≤ 3
  | 0x71 => d.opnd 0x20 4 < 2 ^ 9
  | 0x72 => d.opnd 0x20 4 < 2 ^ 10
  | 0x74 => d.opnd 0x20 4 = 0x5345_414C
  | _ => true

/-- Check 3 (R193, Table 7-7). -/
def Desc.formOk (d : Desc) : Bool :=
  let op := d.opcode
  d.flags ≤ 1 && d.zero13 = 0 && d.zero17 = 0 && d.restZero
    && (if Machine.opTargets op = [] then d.target = 0 else (Machine.opTargets op).contains d.kind)
    && (if Machine.opUnit op = 0 then d.dataAddr = 0 && d.dataLen = 0
        else d.dataAddr % Machine.opAlign op = 0 && d.dataAddr + d.dataLen * Machine.opUnit op ≤ 2 ^ 64)
    && (if Machine.opHasOut op then d.outAddr % 64 = 0 && d.outLen % 64 = 0 && d.outAddr + d.outLen ≤ 2 ^ 64
        else d.outAddr = 0 && d.outLen = 0)
    && d.enumsOk
namespace Machine

/-- Bytes of the blob that a stream would export now, if it exists. -/
def State.blobBytes (s : State) (k : Nat) : Nat :=
  match s.str k with
  | none => 0
  | some x => blobLength (blobParts (s.graphOf x.prt) x.com x.pend)

/-- Check 4: lengths (Tables 7-7 and 16-5, R362). -/
def State.lengthsOk (s : State) (d : Desc) : Bool :=
  let op := d.opcode
  let full := 0xFF_FFFF
  d.dataLen ≠ full && d.outLen ≠ full && !(op = 0x20 && d.opnd 0x30 3 = full)
    && !(d.dataLen = 0 && (op = 0x10 || op = 0x12 || op = 0x13 || op = 0x41 || (op = 0x30 && d.opnd 0x22 1 ≠ 0)))
    && !(op = 0x32 && (d.outLen = 0 || d.outLen < s.blobBytes d.index))
    && !((op = 0x40 || op = 0x41) && d.dataLen % 4 ≠ 0)
    && !(op = 0x40 && d.dataLen < 4 * d.opnd 0x26 1)
    && (op ≠ 0x50 || d.dataLen = 0
        || let frame := d.opnd 0x22 1 * audBytes (d.opnd 0x21 1)
           64 ≤ d.dataLen && (d.dataLen - 64) % frame = 0 && 4 * d.opnd 0x24 4 * frame ≤ 1000 * (d.dataLen - 64))

/-- The limits of R272 and R289 on a SEQ_SUBMIT, where its partition is built. -/
def State.draftOk (s : State) (d : Desc) : Bool :=
  let p := d.index
  let g := s.graphOf p
  (s.prt p).isNone
    || ((d.opnd 0x23 1 = 0xFF || (d.opnd 0x23 1 < s.gearsOf p && d.opnd 0x24 1 < g.verifyMax))
      && g.nodes.all fun n => n.op ≠ 0x31 || d.opnd 0x26 1 ≤ n.attr 4 0)

/-- Check 5: indices and counts (Tables 7-7 and 16-5, R277). -/
def State.indicesOk (s : State) (d : Desc) : Bool :=
  let op := d.opcode
  let i := d.index
  (match d.kind with
    | 1 => i < 1024 || (op = 0x30 && i = anyIndex)
    | 2 => i < 1024
    | 3 => i < 16 || i = anyIndex
    | 4 => i < 16 || (op = 0x10 && i = anyIndex)
    | 5 => i < 8
    | _ => true)
  && (match op with
    | 0x12 => d.opnd 0x20 2 + d.opnd 0x22 2 ≤ (s.slotD i).layers.length || (s.slotD i).layers = []
    | 0x13 => d.opnd 0x20 1 < 64 || d.opnd 0x20 1 = 0xFF
    | 0x14 => d.opnd 0x20 1 < 64
    | 0x20 => d.opnd 0x21 1 < 16 && 1 ≤ d.opnd 0x23 1 && d.opnd 0x23 1 ≤ 64
    | 0x30 => d.opnd 0x20 1 < 8 && (d.opnd 0x21 1 < 64 || d.opnd 0x21 1 = 0xFF)
        && (d.opnd 0x23 1 < 16 || d.opnd 0x23 1 = 0xFF)
    | 0x40 => (d.opnd 0x22 1 < 64 || d.opnd 0x22 1 = 0xFF) && d.opnd 0x26 1 ≤ 16
        && (d.opnd 0x23 1 = 0xFF || (1 ≤ d.opnd 0x24 1 && d.opnd 0x24 1 ≤ 7)) && s.draftOk d
    | 0x50 => d.opnd 0x23 1 + d.opnd 0x22 1 ≤ 16
    | _ => true)

/-! ### Checks 6 and 7 -/

/-- The owner of a stream or sequence that exists for commands: admitted, and not one that is still to arrive. -/
def State.ownerOf (s : State) (h : Nat) : Option Nat :=
  if s.tan.migIn.any (fun m => m.handle = h) then none
  else if h / 2 ^ 28 = 1 then
    (s.str (handleIdx h)).bind fun x => if s.candidate x.own then none else some x.own.rider
  else if h / 2 ^ 28 = 2 then
    (s.seq (handleIdx h)).bind fun x => if s.candidate x.own then none else some x.own.rider
  else none

/-- A producer handle names an object with an OUTPUT of out_kind 2, a TOKEN one where `token` holds (R339, R372). -/
def State.producerOk (s : State) (h : Nat) (token : Bool) : Bool :=
  (s.ownerOf h).isSome && match s.prtOfHandle h with
    | none => false
    | some p => (s.graphOf p).outputs.any fun o => o.2.2 = 2
        && (!token || (((s.graphOf p).tensors[o.2.1]?).map Tensor.fmt).getD 0 = 5)

/-- A partition that serves members on this chip: not a follower's of a group (R452). -/
def State.serves (s : State) (p kind : Nat) : Bool :=
  (s.prt p).isSome && (s.graphOf p).kind = kind && !(s.grouped (s.slotOf p) && !s.leads (s.slotOf p))

/-- A command that needs the owner of an object: found, and owned by the issuer unless that is rider 0 (R195). -/
def ownedBy (n : Nat) (owner : Option Nat) : Option Nat :=
  match owner with
  | none => some 0x0307
  | some o => if n = 0 ∨ o = n then none else some 0x0306

/-- The settings of a link-audio port, those that wait among them. -/
def State.audPort (s : State) (i : Nat) : Option AudPort :=
  match Tab.find s.aud.setting i with
  | some p => p
  | none => Tab.find s.aud.ports i

end Machine
/-- Router slots of a LNK_AUD_SET. -/
def Desc.audSlots (d : Desc) : List Nat := (List.range (d.opnd 0x22 1)).map fun c => d.opnd 0x23 1 + c
namespace Machine

/-- A slot is of the kind that a direction attaches to, with its rider (Table 16-5). -/
def State.audSlotFor (s : State) (n dir slot : Nat) : Bool :=
  if dir = 1 then s.srcKind slot = 3 && s.fld (Reg.AUD_SRC slot) 12 4 = n
  else s.sinkKind slot = 3 && s.fld (Reg.AUD_SINK slot) 12 4 = n

/-- The chip that is the partner on a port. -/
def State.partner (s : State) (p : Nat) : Option Nat :=
  match s.record p with
  | some r => some r.peerChip
  | none => if (s.tport p).st = .linked then some (s.tport p).peerChip else none

/-- Check 6: what is named exists, and the issuer owns each target that needs an owner. -/
def State.existsCheck (s : State) (n : Nat) (d : Desc) : Option Nat :=
  let i := d.index
  let missing (ok : Bool) : Option Nat := if ok then none else some 0x0307
  match d.opcode with
  | 0x02 | 0x31 | 0x32 | 0x41 | 0x42 => ownedBy n (s.ownerOf d.target)
  | 0x10 => if i ≠ anyIndex && (s.slotD i).st = .needsReload then ownedBy n (some (s.slotD i).owner) else none
  | 0x11 | 0x12 => if (s.slotD i).st = .empty then missing (d.opcode = 0x12) else ownedBy n (some (s.slotD i).owner)
  | 0x14 => match Tab.find (s.slotD i).adapters (d.opnd 0x20 1) with
      | some a => ownedBy n (some a.owner)
      | none => none
  | 0x20 =>
    let x := s.slotD (d.opnd 0x21 1)
    missing (x.st = .resident && x.rows = d.opnd 0x20 1 && Nat.blt (d.opnd 0x22 1) x.graphs.length)
  | 0x21 => missing (s.prt i).isSome
  | 0x30 =>
    let p := d.opnd 0x20 1
    let rate := if d.opnd 0x23 1 = 0xFF then true
      else match s.sinkRate (d.opnd 0x23 1) with
        | some r => r ≠ 0 && r = (s.graphOf p).inRate
        | none => false
    missing (s.serves p 0 && rate && (d.opnd 0x23 1 ≠ 0xFF || s.producerOk (d.opnd 0x24 4) false))
  | 0x40 => missing (s.serves i 1 && (d.opnd 0x28 4 = 0 || s.producerOk (d.opnd 0x28 4) true))
  | 0x50 =>
    let others : Bool := match if i = anyIndex then none else s.audPort i with
      | some p => p.owner ≠ n
      | none => false
    if others then some 0x0306 else missing (d.audSlots.all (s.audSlotFor n (d.opnd 0x20 1)))
  | 0x60 => missing s.part.variant.tandem
  | 0x61 =>
    if !s.part.variant.tandem then some 0x0307
    else match ownedBy n (s.ownerOf d.target) with
      | some c => some c
      | none => missing (s.partner (d.opnd 0x20 1) = some (d.opnd 0x21 1))
  | _ => none

/-- Check 7: the named adapter is loaded, for this rider (R275). -/
def State.adapterCheck (s : State) (n : Nat) (d : Desc) : Option Nat :=
  let loaded (slot a : Nat) : Option Nat :=
    match Tab.find (s.slotD slot).adapters a with
    | some x => if n = 0 ∨ x.owner = n then none else some 0x0308
    | none => some 0x0308
  match d.opcode with
  | 0x14 => loaded d.index (d.opnd 0x20 1)
  | 0x30 => if d.opnd 0x21 1 = 0xFF then none else loaded (s.slotOf (d.opnd 0x20 1)) (d.opnd 0x21 1)
  | 0x40 => if d.opnd 0x22 1 = 0xFF then none else loaded (s.slotOf d.index) (d.opnd 0x22 1)
  | _ => none

/-- Checks 1 to 9 in their order (R203): the status of the first that fails. -/
def State.checks (s : State) (n : Nat) (d : Desc) : Option Nat :=
  if !knownOp d.opcode then some 0x0301
  else if !s.issuerOk n d then some 0x0305
  else if !d.formOk then some 0x0302
  else if !s.lengthsOk d then some 0x0303
  else if !s.indicesOk d then some 0x0304
  else match s.existsCheck n d with
    | some c => some c
    | none => match s.adapterCheck n d with
      | some c => some c
      | none => match if s.privileged d.opcode then s.windowStatus else none with
        | some c => some c
        | none =>
          if s.boot.fw = .refused || (s.isl.kickRun && 0x10 ≤ d.opcode && d.opcode ≤ 0x61) then some 0x030B else none

/-! ### Check 10 and the effect of each opcode -/

/-- What check 10 makes of a command: refused, held without effect, or begun. -/
inductive Start where
  | refuse (status : Nat)
  | hold
  | run (s : State)

/-- The permitted mask of an object (R516): its owner's bit and its producer's mask. -/
def State.permOf (s : State) (n producer : Nat) : Nat :=
  Nat.lor (2 ^ n) (s.producerMask producer)

/-- A command's outcome is decided as it is admitted. -/
def State.done (s : State) (o : Owner) (result : Nat) : Start := .run (s.decide o.order 0 result)

/-- A partition takes new members at check 10 (R402, R410): otherwise the status. -/
def State.roomIn (s : State) (p : Nat) : Option Nat :=
  match s.prt p with
  | none => some 0x0307
  | some x =>
    if x.st = .halted || x.st = .discarding then some 0x030C
    else if x.maxPel ≤ (s.strOf p).length + ((s.seqOf p).filter fun q => q.2.st ≠ .ending).length then some 0x030D
    else none

/-- The slot of a partition is REPLACING: what names it is held (R280). -/
def State.replacing (s : State) (slot : Nat) : Bool := (s.slotD slot).st = .replacing

/-- CAS_LOAD (R253, R265, R268). -/
def State.startCasLoad (s : State) (o : Owner) (d : Desc) : Start :=
  let go (k : Nat) (reload : Bool) : Start :=
    let x := s.slotD k
    let new := { Slot.blank with owner := o.rider, lastOp := x.lastOp, lastCode := x.lastCode, loadUs := x.loadUs }
    let s := s.setSlot k { (if reload then x else new) with st := .loading }
    let l := Load.new o.order 0x10 o.rider k 0 (ownBase k) (d.opnd 0x20 1 = 1) 0 0 reload
    let s := { s with loads := s.loads ++ [l] }
    .run (if s.pwr.st = PowerState.listen then s else s.startLoad l)
  if d.index = anyIndex then
    match (List.range 16).find? fun k => (s.slotD k).st = .empty with
    | some k => go k false
    | none => .refuse 0x030D
  else match (s.slotD d.index).st with
    | .empty => go d.index false
    | .needsReload => go d.index true
    | .loading | .resident | .replacing | .evicting => .refuse 0x030C

/-- CAS_EVICT (R282). -/
def State.startEvict (s : State) (o : Owner) (d : Desc) : Start :=
  let x := s.slotD d.index
  if (s.prts.any fun p => p.2.slot = d.index) || x.st = .loading || x.st = .replacing || x.st = .evicting then .refuse 0x030C
  else .run (s.setSlot d.index { x with st := .evicting, evictOrder := o.order })

/-- An owner number for the granules of a replacement: the first patch number of the slot that nothing uses. -/
def State.patchOwner (s : State) (slot : Nat) : Nat :=
  let used (w : Nat) : Bool :=
    s.mem.allocs.any (fun a => a.cls = GranClass.cassette && a.owner = w) || (s.slotD slot).places.any fun p => p.2.1 = w
  (((List.range 1025).map (ownPatch slot)).find? fun w => !used w).getD (ownPatch slot 1025)

/-- CAS_REPLACE (R277, R278). -/
def State.startReplace (s : State) (o : Owner) (d : Desc) : Start :=
  let x := s.slotD d.index
  if x.st ≠ .resident then .refuse 0x030C
  else
    let l := Load.new o.order 0x12 o.rider d.index 0 (s.patchOwner d.index) x.pannier (d.opnd 0x20 2) (d.opnd 0x22 2) false
    let s := (s.setSlot d.index { x with st := .replacing })
    .run ({ s with loads := s.loads ++ [l] }.startLoad l)

/-- ADP_LOAD (R274). -/
def State.startAdpLoad (s : State) (o : Owner) (d : Desc) : Start :=
  let x := s.slotD d.index
  let busy (a : Nat) : Bool := (Tab.find x.adapters a).isSome || s.loads.any fun l => l.op = 0x13 && l.slot = d.index && l.adapter = a
  if x.st = .replacing then .hold
  else if x.st ≠ .resident then .refuse 0x030C
  else
    let want := d.opnd 0x20 1
    let pick := if want = 0xFF then (List.range 64).find? fun a => !busy a
      else if x.adapters.length < 64 && !busy want then some want else none
    match pick with
    | none => .refuse 0x030D
    | some a =>
      let l := Load.new o.order 0x13 o.rider d.index a (ownAdapter d.index a) false 0 0 false
      .run ({ s with loads := s.loads ++ [l] }.startLoad l)

/-- ADP_UNLOAD (R275). -/
def State.startUnload (s : State) (o : Owner) (d : Desc) : Start :=
  let x := s.slotD d.index
  let a := d.opnd 0x20 1
  let on (p adapter : Nat) : Bool := s.slotOf p = d.index && adapter = a && (s.prt p).isSome
  if x.st = .replacing then .hold
  else if s.streams.any (fun y => on y.2.prt y.2.adapter) || s.seqs.any (fun y => on y.2.prt y.2.adapter)
      || x.unloads.any (fun u => u.1 = a) then .refuse 0x030C
  else .run (s.setSlot d.index { x with unloads := x.unloads ++ [(a, o.order)] })

/-- A partition as PRT_BUILD makes it (R401): BUILDING, at the heaviest gear permitted (DEDUCED from DRL_LOOP's reset value and
R417: the spec names no starting gear; assumption 35), with correction 1. -/
def Prt.new (rows slot graph maxPel base len order gear : Nat) (panUsed panOk group : Bool) : Prt :=
  { st := .building, rows := rows, slot := slot, graph := graph, maxPel := maxPel, spillBase := base, spillLen := len,
    order := order, built := false, overAdm := false, admitEnd := 0, admitBud := 0, recheck := false, gear := gear, hold := 0,
    corr := 65536, budget := 0, wTick := 0, stroke := none, round := none, strokes := 0, mains := 0, usedPs := 0,
    inLast := 0, lastBud := 0, lastUsed := 0, lastStrokes := 0, lastIn := 0, starved := false, overNow := false, maxStrokes := 0,
    overTick := false, panUsed := panUsed, panOk := panOk, heldHub := none, faultAt := none, faultCode := 0, faultTick := false,
    judged := false, cleared := none, rebuild := false, linkWait := false, resets := [], groupWait := group, faultWait := none }

/-- PRT_BUILD (R400, R401). -/
def State.startBuild (s : State) (o : Owner) (d : Desc) : Start :=
  if s.pwr.st = .listen then .hold
  else
    let p := d.index
    let rows := d.opnd 0x20 1
    let slot := d.opnd 0x21 1
    let x := s.slotD slot
    let g := (x.graphs[d.opnd 0x22 1]?).getD Graph.empty
    let cold := g.passOrder.any fun l => ((x.layers[l]?).map Layer.inPannier).getD false
    if (s.prt p).isSome || s.prts.any (fun q => Nat.land q.2.rows rows ≠ 0) then .refuse 0x030C
    else if g.maxPel < d.opnd 0x23 1 || !s.pannierFits rows x.gears x.layers g g.passPositions then .refuse 0x030E
    else
      let gear := min (s.fld (Reg.PRT_CTL p) 8 2) (x.gears - 1)
      .run (s.setPrt p (Prt.new rows slot (d.opnd 0x22 1) (d.opnd 0x23 1) (d.opnd 0x28 8) (d.opnd 0x30 3) o.order gear cold true
        (s.grouped slot)))

/-- A command held for a partition (R403). -/
def State.heldFor (s : State) (p : Nat) (o : Owner) : Bool :=
  s.link.cmds.any fun c => c.own.order ≠ o.order && (c.stage = .held || c.stage = .check11) &&
    (s.names p c || (c.desc.opcode = 0x30 && c.desc.opnd 0x20 1 = p))

/-- PRT_DISCARD (R403). -/
def State.startDiscard (s : State) (o : Owner) (d : Desc) : Start :=
  let p := d.index
  if s.pwr.st = .listen then .hold
  else match s.prt p with
    | none => .refuse 0x0307
    | some x =>
      if x.st = .building || x.st = .discarding || (s.strOf p) ≠ [] || (s.seqOf p) ≠ [] || s.heldFor p o then .refuse 0x030C
      else .run (s.setPrt p { x with st := .discarding, order := o.order, stroke := none, round := none })

/-- The state of a command's stage. -/
def State.stageTo (s : State) (o : Owner) (st : CmdStage) : State := s.setCmd o.order fun c => { c with stage := st }

/-- The output buffer of an object (R200). -/
def State.setBuf (s : State) (h addr len : Nat) : State :=
  { s with link := { s.link with bufs := Tab.put s.link.bufs h (OutBuf.fresh addr len) } }.zeroObj h

/-- STR_OPEN (R338 to R340): the entry is filled and its area allocated; check 11 follows at an edge. -/
def State.startOpen (s : State) (o : Owner) (d : Desc) : Start :=
  let p := d.opnd 0x20 1
  let source := d.opnd 0x23 1
  let producer := if source = 0xFF then d.opnd 0x24 4 else 0
  let policy := d.opnd 0x22 1
  if s.replacing (s.slotOf p) then .hold
  else match s.roomIn p with
    | some c => .refuse c
    | none =>
      if d.index ≠ anyIndex && (s.str d.index).isSome then .refuse 0x030C
      else match if d.index = anyIndex then freeIndex s.streams 1024 else some d.index with
        | none => .refuse 0x030D
        | some k =>
          let x := Stream.new (s.graphOf p) o p (d.opnd 0x21 1) source policy producer
          let imp := if policy = 0 then none else some (Import.waiting d.dataAddr d.dataLen)
          match (s.setStr k { x with perm := s.permOf o.rider producer, imp := imp }).takeArea k p with
          | none => .refuse 0x030D
          | some s => .run ((s.setBuf (strHandle k) d.outAddr d.outLen).stageTo o .check11)

/-- STR_CLOSE (R343). -/
def State.startClose (s : State) (o : Owner) (d : Desc) : Start :=
  match s.str d.index with
  | none => .refuse 0x0307
  | some x =>
    if x.st = .closing || x.migrating then .refuse 0x030C
    else .run (s.setStr d.index { x with st := .closing, closing := some o.order, imp := none })

/-- STR_EXPORT (R362). -/
def State.startExport (s : State) (o : Owner) (d : Desc) : Start :=
  match s.str d.index with
  | none => .refuse 0x0307
  | some x =>
    if x.st ≠ .running then .refuse 0x030C
    else
      let e : Export := { order := o.order, rider := o.rider, addr := d.outAddr, len := d.outLen, blob := none, code := none }
      .run (s.setStr d.index { x with exports := x.exports ++ [e] })

end Machine
/-- The words of a command's token data, from word `i`. -/
def Desc.tokens (d : Desc) (i : Nat) : List Nat :=
  ((List.range (d.dataLen / 4)).drop i).map fun j => Machine.leAt d.data (4 * j) 4
namespace Machine

/-- Distinct positions in ascending order (R372). -/
def sortDistinct (l : List Nat) : List Nat := (l.mergeSort (fun a b => Nat.ble a b)).eraseDups

/-- The data of a command is read as it is admitted (R372). -/
def State.readData (s : State) (o : Owner) (d : Desc) : State :=
  if d.dataLen = 0 then s else (s.dmaRead o.rider o.rider d.dataAddr d.dataLen).readEnds o.rider

/-- The read of a command's data fails: the command ends with the link code (R175). -/
def State.readFails (s : State) (o : Owner) (d : Desc) (kind : Nat) : Start :=
  .run (((s.readData o d).recordDma o.rider kind).decide o.order (dmaCode kind) 0)

/-- SEQ_SUBMIT (R369, R372, R386). -/
def State.startSubmit (s : State) (o : Owner) (d : Desc) : Start :=
  let p := d.index
  let n := d.opnd 0x26 1
  let globals := sortDistinct ((d.tokens 0).take n)
  let tokens := (d.tokens n).map fun t => (t, 2 ^ o.rider)
  let draft := d.opnd 0x23 1
  if s.replacing (s.slotOf p) then .hold
  else match s.roomIn p with
    | some c => .refuse c
    | none => match freeIndex s.seqs 1024 with
      | none => .refuse 0x030D
      | some k =>
        if 4096 < tokens.length then .refuse 0x030D
        else
          let spill := d.opnd 0x25 1 = 1
          let x := Seq.new o p (d.opnd 0x22 1) draft (if draft = 0xFF then 0 else d.opnd 0x24 1) spill (d.opnd 0x28 4)
            (d.opnd 0x20 2) globals
          if d.dataLen ≠ 0 && !s.mayIssue o.rider then .hold
          else match d.dataFail with
          | some kind => s.readFails o d kind
          | none =>
          let s := s.readData o d
          match (s.setSeq k { x with perm := s.permOf o.rider (d.opnd 0x28 4), queue := tokens }).takePages k p
              (globals ≠ []) spill with
          | none => .refuse 0x030D
          | some s => .run ((s.setBuf (seqHandle k) d.outAddr d.outLen).stageTo o .check11)

/-- SEQ_APPEND (R372). -/
def State.startAppend (s : State) (o : Owner) (d : Desc) : Start :=
  match s.seq d.index with
  | none => .refuse 0x0307
  | some x =>
    let tokens := (d.tokens 0).map fun t => (t, 2 ^ o.rider)
    if x.st = .ending then .refuse 0x030C
    else if 4096 < x.queue.length + tokens.length then .refuse 0x030D
    else if !s.mayIssue o.rider then .hold
    else match d.dataFail with
    | some kind => s.readFails o d kind
    | none => ((((s.readData o d).queueTokens d.index tokens).boundary x.prt).done o 0)

/-- SEQ_CANCEL (R396). -/
def State.startCancel (s : State) (o : Owner) (d : Desc) : Start :=
  match s.seq d.index with
  | none => .refuse 0x0307
  | some x =>
    if x.st = .ending || x.cancel.isSome || x.migrating then .refuse 0x030C
    else .run (s.setSeq d.index { x with cancel := some o.order })

/-- A slot in range is attached to another port, or joined by a route to a slot of another rate (Table 16-5). -/
def State.audBusy (s : State) (i dir rate slot : Nat) : Bool :=
  let holds (p : AudPort) : Bool := p.dir = dir && p.first ≤ slot && slot < p.first + p.channels
  let other := (List.range 16).any fun j => j ≠ i && ((s.audPort j).map holds).getD false
  let apart (r : Option Nat) : Bool := match r with
    | some r => r ≠ 0 && r ≠ rate
    | none => false
  let routed := if dir = 1 then (List.range 16).any fun j => s.route j = slot && apart (s.sinkNeeds j)
    else s.route slot < 16 && apart (s.srcRate (s.route slot))
  other || routed

/-- LNK_AUD_SET (R489): the settings take effect at the next router-frame edge; a length of 0 disables the port. -/
def State.startAudSet (s : State) (o : Owner) (d : Desc) : Start :=
  match if d.index = anyIndex then (List.range 16).find? fun i => (s.audPort i).isNone else some d.index with
  | none => .refuse 0x030D
  | some i =>
    let dir := d.opnd 0x20 1
    let rate := d.opnd 0x24 4
    if d.audSlots.any (s.audBusy i dir rate) then .refuse 0x030C
    else
      let p : AudPort :=
        { owner := o.rider, dir := dir, format := d.opnd 0x21 1, channels := d.opnd 0x22 1, rate := rate,
          first := d.opnd 0x23 1, addr := d.dataAddr, area := d.dataLen - 64, devOff := 0, devLaps := 0, hostOff := 0,
          hostLaps := 0, starved := false, ahead := [] }
      let s := { s with aud := { s.aud with setting := Tab.put s.aud.setting i (if d.dataLen = 0 then none else some p) } }
      s.done o 0

/-- TAN_PAIR (R445). -/
def State.startPair (s : State) (o : Owner) (d : Desc) : Start :=
  let p := d.opnd 0x20 1
  let st := (s.tport p).st
  if (st ≠ .linked && st ≠ .up) || s.tan.pairing.any (fun x => x.port = p) then .refuse 0x030C
  else
    let x : Pairing := { port := p, chip := d.opnd 0x21 1, order := o.order, since := s.now, agreed := false }
    let s := { s with tan := { s.tan with pairing := s.tan.pairing ++ [x] } }
    .run ((s.tanSend p (.pairReq s.chip (d.opnd 0x21 1))).matchPair p)

/-- MIGRATE (R457). -/
def State.startMigrate (s : State) (o : Owner) (d : Desc) : Start :=
  let port := d.opnd 0x20 1
  let grouped := match s.prtOfHandle d.target with
    | some p => s.inGroup p
    | none => false
  let idle := if d.kind = 1 then match s.str d.index with
      | some x => x.st = .running && !x.migrating
      | none => false
    else match s.seq d.index with
      | some x => (x.st = .idle || x.st = .running) && !x.spilled && !x.migrating && x.cancel.isNone
      | none => false
  if !idle || grouped || s.tan.migOut.any (fun m => m.port = port) then .refuse 0x030C
  else if (s.tport port).st ≠ .up then .run (s.decide o.order tanNotPaired 0)
  else if !s.alignedWith port then .run (s.decide o.order tanNotLocked 0)
  else
    let m : MigOut := { port := port, handle := d.target, order := o.order, peer := none, started := false, done := false, code := none }
    .run { s with tan := { s.tan with migOut := s.tan.migOut ++ [m] } }

/-- JNL_ERASE (R209). -/
def State.eraseJournal (s : State) : State × Nat :=
  let kept := s.jnl.pos.filter fun e => e.2.pending
  let n := s.jnl.pos.length - kept.length
  let s := { s with jnl := { s.jnl with pos := kept } }
  ((s.journal 0x18 0x11 0 n 0).raiseBit 0x006 1, n)

/-- SEAL_BURN (R48, R215): the fuse is burnt, and the debug port closes where it was not sealed before. -/
def State.burnSeal (s : State) : State :=
  if s.part.sealFuse then s else { s with part := { s.part with sealFuse := true }, debug := false }

/-- Check 10 and the effect of an admitted command (Table 7-3). -/
def State.start (s : State) (o : Owner) (d : Desc) : Start :=
  match d.opcode with
  | 0x00 => s.done o 0
  | 0x01 => s.done o (d.opnd 0x20 4)
  | 0x02 => .run s
  | 0x10 => s.startCasLoad o d
  | 0x11 => s.startEvict o d
  | 0x12 => s.startReplace o d
  | 0x13 => s.startAdpLoad o d
  | 0x14 => s.startUnload o d
  | 0x20 => s.startBuild o d
  | 0x21 => s.startDiscard o d
  | 0x30 => s.startOpen o d
  | 0x31 => s.startClose o d
  | 0x32 => s.startExport o d
  | 0x40 => s.startSubmit o d
  | 0x41 => s.startAppend o d
  | 0x42 => s.startCancel o d
  | 0x50 => s.startAudSet o d
  | 0x60 => s.startPair o d
  | 0x61 => s.startMigrate o d
  | 0x70 => s.eraseJournal.1.done o s.eraseJournal.2
  | 0x71 => ({ s with part := { s.part with sigPolicy := d.opnd 0x20 4 } }).done o 0
  | 0x72 => ({ s with part := { s.part with privPolicy := d.opnd 0x20 4 } }).done o 0
  | 0x73 => ({ s with debug := s.debug || s.part.sealFuse }).done o 0
  | 0x74 => s.burnSeal.done o 0
  | _ => .refuse 0x0301

/-! ### Admission (R196, R203) -/

/-- The partition that a command names, for the trace (point 5 of Table 19-4). -/
def State.unitOf (s : State) (d : Desc) : Nat :=
  if d.kind = 5 then d.index else if d.opcode = 0x30 then d.opnd 0x20 1 else (s.prtOfHandle d.target).getD 0

/-- A command is refused at admission. -/
def State.refuseCmd (s : State) (o : Owner) (d : Desc) (status : Nat) : State :=
  ((s.countRefused status).trace 5 (s.unitOf d) d.opcode status).decide o.order status 0

/-- Checks 1 to 10 of an accepted command, and its effect. -/
def State.admitCmd (s : State) (c : Cmd) : State :=
  let o := c.own
  let d := c.desc
  match s.checks o.rider d with
  | some status => s.refuseCmd o d status
  | none =>
    let t := (if s.privileged d.opcode then s.useWindow else s).stageTo o .running
    match t.start o d with
    | .refuse status => s.refuseCmd o d status
    | .hold => s.stageTo o .held
    | .run t => if d.opcode = 0x30 ∨ d.opcode = 0x40 then t else t.trace 5 (s.unitOf d) d.opcode 0

/-- Commands in a stage, in acceptance order. -/
def State.inStage (s : State) (st : CmdStage) : List Cmd := s.link.cmds.filter fun c => c.stage = st

/-- Fenced commands whose turn has come are admitted (R196). -/
def State.admitFenced (s : State) : State :=
  if s.restarting 1 then s
  else
    (s.inStage .fenced).foldl (fun s c =>
      let waits := s.link.cmds.any fun e => e.own.order < c.own.order && e.own.rider = c.own.rider && e.own.sq = c.own.sq && e.open_
      if waits then s else s.admitCmd c) s

/-- Held commands are tried again (R66, R280). -/
def State.admitHeld (s : State) : State := (s.inStage .held).foldl (fun s c => s.admitCmd c) s

/-- The command that a descriptor of ring `q` becomes as it is accepted: next in acceptance order and at the journal's next number;
fenced where its flag says so. -/
def State.newCmd (s : State) (n q : Nat) (d : Desc) : Cmd :=
  let o : Owner := { rider := n, sq := q, cq := Word.fld (s.rd (Reg.RDR_SQ_CTL n q)) 4 2, order := s.link.accepted, tag := d.tag,
                     seq := s.jnl.next, epoch := s.jnl.epoch, op := d.opcode }
  { own := o, pos := s.jnl.slot Journal.size s.jnl.write, tick := s.tick.number, at_ := s.now, desc := d,
    stage := if d.flags % 2 = 1 then .fenced else .running, status := 0, result := 0 }

/-- Entry of a descriptor (R191): its journal entry, its place in the acceptance order, and the ring's head past it; acceptance
pauses at 1,024 commands without an outcome. -/
def State.enter (s : State) (n q : Nat) (d : Desc) : State :=
  let size := ringSize (s.rd (Reg.RDR_SQ_CTL n q))
  let flags := q + (if s.privileged d.opcode then 8 else 0)
  let e : JEntry := { seq := 0, epoch := 0, tick := s.tick.number, type := 0x01, agent := n, code := 0, tag := d.tag,
                      op := d.opcode, flags := flags, arg0 := 0, arg1 := 0, check := 0 }
  let c := s.newCmd n q d
  let s := { s with jnl := s.jnl.store e, link := { s.link with accepted := s.link.accepted + 1, cmds := s.link.cmds ++ [c] } }
  let head := ringPos size (s.rd (Reg.RDR_SQ_HEAD n q))
  let s := s.wr (Reg.RDR_SQ_HEAD n q) (ringWord size (head + 1))
  if s.pendingCmds ≥ 1024 && !s.link.paused then
    ({ s with link := { s.link with paused := true } }).raiseBit 0x006 3 else s

/-- Acceptance of a descriptor (R191): it enters, and is admitted, at once or as its fence allows. -/
def State.accept (s : State) (n q : Nat) (d : Desc) : State :=
  let t := s.enter n q d
  if d.flags % 2 = 1 then t.admitFenced else t.admitCmd (s.newCmd n q d)

/-- Descriptors that wait in a submission ring: none where it is disabled. -/
def State.sqWaiting (s : State) (n q : Nat) : Nat :=
  let ctl := s.rd (Reg.RDR_SQ_CTL n q)
  let size := ringSize ctl
  if Word.bit ctl 8 then
    ringDist size (ringPos size (s.rd (Reg.RDR_SQ_HEAD n q))) (ringPos size (s.rd (Reg.RDR_SQ_TAIL n q)))
  else 0

/-- Descriptors of one of a rider's four rings may be fetched: enabled, not empty, its rider may issue requests, and no failed fetch stops it. -/
def State.fetchable (s : State) (n q : Nat) : Bool :=
  Nat.blt q 4 && s.sqWaiting n q ≠ 0 && s.mayIssue n && !s.link.fetchStop.contains (n, q)

/-- The ring that the SERVE hub visits next (R191): the first that can be fetched after the last visited, in the order of
riders and rings. -/
def State.nextRing (s : State) : Option (Nat × Nat) :=
  let order := (List.range 64).map fun i => (s.link.visit + 1 + i) % 64
  (order.find? fun i => s.fetchable (i / 4) (i % 4)).map fun i => (i / 4, i % 4)

/-- The hub may visit a ring next: it is next in order; after a time with nothing to fetch, where the hub has got to in its
order is open, and any ring that can be fetched may be the first (assumption 43). -/
def State.mayVisit (s : State) (n q : Nat) : Bool :=
  if s.link.visit = 64 then s.fetchable n q else s.nextRing = some (n, q)

/-- After a visit that leaves nothing to fetch, the hub's place in its order is open. -/
def State.visited (s : State) : State :=
  if s.nextRing.isNone then { s with link := { s.link with visit := 64 } } else s

/-- The SERVE hub fetches and accepts: it runs, firmware has an agreed driver, and fewer than 1,024 commands are
undecided. -/
def State.fetching (s : State) : Bool :=
  !s.restarting 1 && s.boot.fw = .running && !s.boot.admitHold && !s.boot.resetting && !s.link.paused && s.pwr.st ≠ .aon && s.pwr.st ≠ .off

/-- Accept descriptors in turn, while acceptance does not pause. -/
def State.acceptAll (s : State) (n q : Nat) : List Desc → State
  | [] => s
  | d :: t => if s.link.paused then s else State.acceptAll (s.accept n q d) n q t

/-- The fetch of `k` descriptors from a ring's head (R191). -/
def State.fetchFrom (s : State) (n q k : Nat) : State :=
  let s := { s with link := { s.link with visit := 4 * n + q } }
  let at_ := s.rd64 (Reg.RDR_SQ_BASE_LO n q) / 4096 * 4096 + 64 * Word.fld (s.rd (Reg.RDR_SQ_HEAD n q)) 0 16
  (s.dmaRead n n at_ (64 * k)).readEnds n

/-- A visit of the SERVE hub to a ring (R191): up to 8 descriptors are fetched and accepted in slot order. -/
def State.visitRing (s : State) (n q : Nat) (batch : List Desc) : State :=
  (((s.fetchFrom n q batch.length).acceptAll n q batch).admitFenced).visited

/-- A visit can take place as a command states it. -/
def State.visitOk (s : State) (n q : Nat) (batch : List Desc) : Bool :=
  s.fetching && s.mayVisit n q && batch ≠ [] && Nat.ble batch.length (min 8 (s.sqWaiting n q))

/-- The state `f` gives, with fenced commands admitted whose turn the outcomes decided by `f` have brought (R196). -/
def State.withFence (f : State → State) (s : State) : State := (f s).admitFenced

end Machine
end Sys2Proof
end

