-- ==== Sys2Proof/Machine/Edge.lean ====
section
/-! DEFINITION. The tick edge: edge n, what the tick that ends leaves, the commit and its outputs with the island's tag check, the
release, and what the tick that begins is given (R18 to R28, Table 1-4, and the edge's part of the other chapters). -/
namespace Sys2Proof.Machine
open Sys2Proof

/-! ### Strokes at the edge (R22, R151, R409, R420) -/

/-- The members of a stroke in flight at an edge: they do not commit at it (R409). -/
def State.markCrossing (s : State) (l : List StrokeItem) : State :=
  l.foldl (fun s i =>
    if i.role = .unit then s.modStr (handleIdx i.handle) fun x => { x with crossing := true }
    else s.modSeq (handleIdx i.handle) fun x => { x with crossing := true }) s

/-- A stroke in flight at the edge: an overrun at the first edge it crosses (R409). -/
def State.crossPrt (s : State) (p : Nat) : State :=
  match (s.prt p).bind Prt.stroke with
  | none => s
  | some t =>
    if t.crossed then s
    else
      let s := if s.restarting 1 then s else s.overrun p (s.now - s.deadline p)
      (s.modPrt p fun y => { y with stroke := some { t with crossed := true } }).markCrossing t.items

/-- A stroke that began before `last`, the edge before this one, and is still in flight is a job fault (R409). -/
def State.hungPrt (last : Nat) (s : State) (p : Nat) : State :=
  match (s.prt p).bind Prt.stroke with
  | none => s
  | some t => if t.crossed && t.start < last then s.jobFault p 0x0A01 else s

/-- A partition that serves members. -/
def State.busyPrt (s : State) (p : Nat) : Bool := (s.strIn p) ≠ [] || (s.seqIn p) ≠ []

/-- An edge that a SERVE hub restart misses: every READY partition's loop-tick is an overrun, and the restart is overlong where
a loop with members would have committed (R151, R420). -/
def State.missedEdge (s : State) : State :=
  let ready := (s.prts.filter fun x => x.2.st = .ready).map Prod.fst
  let s := ready.foldl (fun s p => s.overrun p (s.now - s.deadline p)) s
  let s := if ready.any s.busyPrt then { s with hubs := Tab.put s.hubs 1 { s.hub 1 with missed := true } } else s
  { s with prts := s.prts.map fun (x : Nat × Prt) => (x.1, { x.2 with overTick := x.2.overNow, overNow := false, judged := false }) }

/-- An edge that falls in a PAGE hub restart: the held loops' loop-ticks are overruns, and the restart is overlong. -/
def State.heldEdge (s : State) : State :=
  let held := (s.prts.filter fun x => x.2.heldHub.isSome).map Prod.fst
  if !s.restarting 2 || held = [] then s
  else { held.foldl (fun s p => s.overrun p (s.now - s.deadline p)) s with
         hubs := Tab.put s.hubs 2 { s.hub 2 with missed := true } }

/-- What the tick that ends leaves of strokes: obligations that wait, strokes in flight, and what restarts missed. -/
def State.strokesEdge (s : State) : State :=
  let s := if s.restarting 1 then s else (s.prts.map Prod.fst).foldl (fun s p => s.judge p) s
  let s := (s.prts.map Prod.fst).foldl (fun s p => s.crossPrt p) s
  let s := s.heldEdge
  if s.restarting 1 then s.missedEdge else s

/-! ### The number and the measures of the tick (R18, R19, R50, R82) -/

/-- REF periods of a time in µs: 100 MHz with REF_SEL high, else 38.4 MHz. -/
def State.refPeriods (s : State) (us : Nat) : Nat := if s.boot.refSel then us * 100 else us * 384 / 10

/-- Trace settings change at a tick edge, and tracing resumes after AON with TICK_HIGH and then LOST (R548, R553). -/
def State.traceEdge (s : State) : State :=
  let s := { s with trc := { s.trc with enable := (s.rd Reg.TRC_ENABLE).toNat, filter := (s.rd Reg.TRC_FILTER).toNat } }
  if s.trc.resume then
    let s := s.startTrace
    let s := if s.trc.lost = 0 then s else s.fire 30 s.trc.lost
    { s with trc := { s.trc with lost := 0 } }
  else if s.trc.running && s.tick.number.toNat % 2 ^ 32 = 0 then s.fire 0 (s.tick.number.toNat / 2 ^ 32)
  else s

/-- The edge itself: the number, the measured length, TICK_OUT, the governor on the energy of the tick that ends, and a change
of length or source that was registered in time. -/
def State.newTick (s : State) (uJ : Nat) : State :=
  let us := s.now - s.tick.lastEdge
  let s := { s with tick := { s.tick with number := s.tick.number + 1, lastUs := us, lastEdge := s.now, trimNs := 0 } }
  let s := (s.wr Reg.CLK_TICK_MEASURED (BitVec.ofNat 32 (min (2 ^ 24 - 1) (s.refPeriods us)))).emit .tickOut
  let s := (s.govern uJ).tickApply.traceEdge
  let h := s.gov.headwind
  s.trace 1 0 h (budgetUs (tickUs s.tick.length) 0 h)

/-- Marks that last a tick become those of the tick before; a stream admitted in the tick that ends takes its producer's items
from here on (R339). -/
def State.turnTick (s : State) : State :=
  let s := s.turnMarks
  let turned (x : Stream) : Stream := { x with dropLast := x.dropNow, dropNow := false, live := x.live || x.admitted }
  { s with streams := s.streams.map fun (x : Nat × Stream) => (x.1, turned x.2),
           trc := { s.trc with dropLast := s.trc.dropNow, dropNow := false } }

/-! ### The commit (R25, R358, R367, R384, R394) -/

/-- The entry of a fault that is due: FAULT, with its check code (R367). -/
def State.enterFault (s : State) (k code : Nat) : State :=
  match s.str k with
  | none => s
  | some x =>
    let s := s.setStr k { x with st := .fault, check := code, faultCode := none, work := none, taken := 0, outs := [], imp := none,
                                 rolled := false }
    ((s.event x.own 3 0x0403 0).count Reg.STR_FAULTS 1).raiseBit 0x010 0

/-- A rollback is reported (R358). -/
def State.reportRoll (s : State) (k : Nat) : State :=
  match s.str k with
  | none => s
  | some x =>
    let s := (s.setStr k { x with rolled := false }).event x.own 2 0x0401 (x.comTick.toNat % 2 ^ 32)
    ((s.count Reg.STR_ROLLBACKS 1).raiseBit 0x010 1).countObj k 3 1

/-- The commit of stream `k`: its faults and rollbacks are reported, its working copy becomes the committed one, and its outputs
are given out; a stream opened with zero state is written by its first commit (R340). -/
def State.commitStr (s : State) (k : Nat) : State × List Emit :=
  match s.str k with
  | none => (s, [])
  | some x =>
    match x.faultCode with
    | some code => (s.enterFault k code, [])
    | none =>
      if x.rolled then (s.reportRoll k, [])
      else if x.inFlight then (s, [])
      else match x.work with
        | some w =>
          ((s.setStr k { x with com := w, work := none, pend := x.pend.drop x.taken, taken := 0, outs := [], written := true,
                                comTick := s.tick.number, crossing := false }).commitLinks (strHandle k), x.outs)
        | none =>
          if x.st = .running && !x.written then (s.setStr k { x with written := true, comTick := s.tick.number }, [])
          else (s, [])

/-- The commit of sequence `k`, with provisional positions rolled back before (R384, R394), and its outputs. -/
def State.commitSeq (s : State) (k : Nat) : State × List Emit :=
  match s.seq k with
  | none => (s, [])
  | some x =>
    if x.inFlight || x.migrating then (s, [])
    else
      let s := if x.drafts = [] then s else s.dropRound k
      (((s.modSeq k fun y => { y.commit with joined := false, crossing := false, outs := [] }).commitLinks (seqHandle k)), x.outs)

/-- Members of partition `p` that commit at an edge (trace point 6). -/
def State.committers (s : State) (p : Nat) : Nat :=
  ((s.strOf p).filter fun x => x.2.work.isSome && !x.2.inFlight && x.2.faultCode.isNone).length
    + ((s.seqOf p).filter fun x => x.2.joined && !x.2.inFlight).length

/-- A follower that lacks the tick's COMMIT resets its group (R454, R455); a stroke still in flight has none yet. -/
def State.missingCommit (s : State) : State :=
  let s := s.prts.foldl (fun s x =>
    if s.grouped x.2.slot && !s.leads x.2.slot && x.2.strokes ≠ 0 && x.2.stroke.isNone && x.2.st = .ready
        && (Tab.find s.tan.gotCommit x.2.slot).isNone then s.jobFault x.1 0x0B09 else s) s
  { s with tan := { s.tan with gotCommit := [] } }

/-- The commit of every stream and sequence, with the handles and outputs that it gives out, in ascending order. A loop whose
stroke does not cross the edge ends its drafting round there. -/
def State.commitAll (s : State) : State × List (Nat × Emit) :=
  let s := (s.prts.map Prod.fst).foldl (fun s p =>
    let s := if s.loopFree p then s else s.leaves p
    let n := s.committers p
    let s := s.modPrt p fun x => if x.stroke.isNone then { x with round := none } else x
    if n = 0 then s else s.trace 6 p 0 n) s
  let a := (s.streams.map Prod.fst).foldl (fun (a : State × List (Nat × Emit)) k =>
    let r := a.1.commitStr k
    (r.1, a.2 ++ r.2.map fun e => (strHandle k, e))) (s, [])
  (s.seqs.map Prod.fst).foldl (fun (a : State × List (Nat × Emit)) k =>
    let r := a.1.commitSeq k
    (r.1, a.2 ++ r.2.map fun e => (seqHandle k, e))) a

/-! ### Outputs and the tag check (R352, R374, R464, R517) -/

/-- A failure of check (a) ends the emitting object at the next tick edge (R517). -/
def State.tagEnds (s : State) (h : Nat) : State :=
  if h / 2 ^ 28 = 1 then
    (s.modStr (handleIdx h) fun x =>
      if x.st = .fault || x.st = .closing || x.faultCode.isSome then x else { x with faultCode := some 0x0C03 }).failExports
        (handleIdx h) 0x0403
  else s.endSeq (handleIdx h) 0x0401

/-- A payload passes the island's check and is handed to its owner's completion ring, or it is suppressed (R517). -/
def State.payload (s : State) (h : Nat) (o : Owner) (perm tag : Nat) (bytes : List Byte) : State :=
  if tagWithin tag perm then s.produce o .output o.op 0 0 bytes h
  else ((if h / 2 ^ 28 = 1 then s.countObj (objKey h) 7 1 else s).tagFails h tag o.rider).tagEnds h

/-- A sequence's emissions of one node in a tick are one payload (R374). -/
def mergeEmit (e : Emit) : List Emit → List Emit
  | [] => [e]
  | x :: t =>
    if x.node = e.node then
      { x with insts := x.insts ++ e.insts, tag := Nat.lor x.tag e.tag, pos := x.pos + e.pos,
               flags := Nat.lor (x.flags % 2) (e.flags % 2) + e.flags / 2 * 2 } :: t
    else x :: mergeEmit e t

/-- A wake that an object flags (R69, R298): a WAKE event, and the wake cause where the listen partition's loop flags it. -/
def State.flagWake (s : State) (o : Owner) (p : Nat) : State :=
  let s := s.event o 4 0 0
  if ((s.prt p).map Prt.rows) = some s.listenRows then s.wakeCause 3 (s.bit Reg.PWR_LISTEN_CTL 4) else s

/-- What an object's commit gives out beside audio: payloads of out_kind 0 and a wake of out_kind 3. -/
def State.giveOut (s : State) (h : Nat) (l : List Emit) : State :=
  let k := handleIdx h
  let str := h / 2 ^ 28 = 1
  let own := if str then (s.str k).map fun x => (x.own, x.perm, x.prt) else (s.seq k).map fun x => (x.own, x.perm, x.prt)
  match own with
  | none => s
  | some (o, perm, p) =>
    let texts := l.filter fun e => e.kind = 0
    let texts := if str then texts else texts.foldl (fun a e => mergeEmit e a) []
    let s := texts.foldl (fun s e => s.payload h o perm e.tag (if str then strPayload k e else seqPayload k e)) s
    if l.any fun e => e.kind = 3 && e.insts.any (wakes e.fmt) then s.flagWake o p else s

/-- Samples of element `c` of an audio instance of `ch` elements; +0 where it has no such element. -/
def elementOf (ch c : Nat) (i : List Nat) : List Nat :=
  let w := i.length / max 1 ch
  if c < ch then (i.drop (c * w)).take w else List.replicate w 0

/-- The blocks that a stream gives to element `c` of its audio output of `ch` elements in a commit, oldest first: of the
lowest-numbered node of out_kind 1, one block for each tick (R26, R464). -/
def audioOf (l : List Emit) (ch c : Nat) : List (List (Nat × Nat)) :=
  let nodes := (l.filter fun e => e.kind = 1).map Emit.node
  match nodes.foldl (fun (a : Option Nat) n => some (min n (a.getD n))) none with
  | none => []
  | some n =>
    let own := l.filter fun e => e.kind = 1 && e.node = n
    (own.map Emit.tick).eraseDups.map fun t => (own.filter fun e => e.tick = t).flatMap fun e =>
      e.insts.flatMap fun i => (elementOf ch c i).map fun v => (v, e.tag)

/-- One sink takes a block that passed check (a): check (b) for a link-audio port, and delivery, at once or when the AUDIO hub has
restarted (R149, R517). -/
def State.sinkBlock (s : State) (h j : Nat) (l : List (Nat × Nat)) : State :=
  let tag := orAll (l.map Prod.snd)
  let owner := (s.attachedTo 0 j).bind fun a => (Tab.find s.aud.ports a.1).map AudPort.owner
  match owner with
  | some n =>
    if !tagWithin tag (2 ^ n) then s.tagFails h tag n
    else if s.restarting 3 then { s with aud := { s.aud with late := s.aud.late ++ [(j, l)] } } else s.feedSink j l
  | none => if s.restarting 3 then { s with aud := { s.aud with late := s.aud.late ++ [(j, l)] } } else s.feedSink j l

/-- One audio block of stream `k` through source slot `i` (R482, R517). -/
def State.streamBlock (s : State) (k perm i : Nat) (l : List (Nat × Nat)) : State :=
  if l = [] then s
  else
    let h := strHandle k
    let tag := orAll (l.map Prod.snd)
    let sinks := (List.range 16).filter fun j => s.route j = i
    if !tagWithin tag perm then
      let agent := (sinks.findSome? fun j => (s.attachedTo 0 j).bind fun a => (Tab.find s.aud.ports a.1).map AudPort.owner)
      ((s.countObj k 7 1).tagFails h tag (agent.getD 0xFF)).tagEnds h
    else sinks.foldl (fun s j => s.sinkBlock h j l) s

/-- A RUNNING stream has committed no block for a tick: its sinks that do not play yet underrun (R487). -/
def State.noBlock (s : State) (i : Nat) : State :=
  ((List.range 16).filter fun j => s.route j = i && s.sinkRuns j).foldl (fun s j =>
    let x := s.sink j
    if s.sinkKind j ≠ 4 && !x.started && x.startAt.isNone && !x.under && x.fade.isNone then s.underrunSink j else s) s

/-- The audio blocks of a STREAM source slot at a commit (R464). -/
def State.sourceBlock (s : State) (outs : List (Nat × Emit)) (i : Nat) : State :=
  if s.srcKind i ≠ 4 then s
  else
    let k := s.srcStream i
    match s.str k with
    | none => s
    | some x =>
      let ch := ((s.graphOf x.prt).audioTensor.map Tensor.channels).getD 1
      let l := audioOf ((outs.filter fun y => y.1 = strHandle k).map Prod.snd) ch (s.srcSlot i)
      if l = [] && x.st = .running then s.noBlock i else l.foldl (fun s b => s.streamBlock k x.perm i b) s

/-- Everything that the commit gives out. -/
def State.giveAll (s : State) (outs : List (Nat × Emit)) : State :=
  let s := (outs.map Prod.fst).eraseDups.foldl (fun s h => s.giveOut h ((outs.filter fun x => x.1 = h).map Prod.snd)) s
  (List.range 16).foldl (fun s i => s.sourceBlock outs i) s

/-! ### Commands and objects that the edge brings to an end -/

/-- Exports at an edge (R362): the blob is taken from the committed copy and written, or the outcome known before is decided. -/
def State.exportStr (s : State) (k : Nat) : State :=
  match s.str k with
  | none => s
  | some x =>
    let s := s.setStr k { x with exports := [] }
    x.exports.foldl (fun s e =>
      match e.code with
      | some code => s.decide e.order code 0
      | none =>
        let blob := s.strBlob x
        if e.len < blob.length then s.decide e.order 0x0303 0
        else (s.setCmd e.order fun c => { c with result := blob.length }).dmaWrite e.rider e.addr blob) s

/-- OUT_REBIND takes effect (R197): an object's buffer is a new one, empty. -/
def State.rebinds (s : State) : State :=
  (s.link.cmds.filter fun c => c.desc.opcode = 0x02 && c.stage = .running).foldl (fun s c =>
    let h := c.desc.target
    let b := OutBuf.fresh c.desc.outAddr c.desc.outLen
    let id := ((Tab.find s.link.bufs h).map OutBuf.nextId).getD 0
    ({ s with link := { s.link with bufs := Tab.put s.link.bufs h { b with nextId := id } } }).decide c.own.order 0 0) s

/-- Sequences that end at the edge report their END, and what cancelled them is decided (R396). -/
def State.endReports (s : State) (l : List Nat) : State :=
  l.foldl (fun s k => match s.seq k with
    | none => s
    | some x =>
      let status := x.ending.getD 0
      let s := if status = silentEnd then s else s.event x.own 1 status x.com.produced
      match x.cancel with
      | some o => s.decide o 0 0
      | none => s) s

/-- Streams that close at the edge have their STR_CLOSE decided (R343). -/
def State.reportCloses (s : State) (l : List Nat) : State :=
  l.foldl (fun s k => match (s.str k).bind Stream.closing with
    | some o => s.decide o 0 0
    | none => s) s

/-- The streams and sequences that are gone with the edge: entries, areas and pages are free, and their loops are checked anew
(R343, R396, R414). -/
def State.freeGone (s : State) (strs seqs : List Nat) : State :=
  let s := strs.foldl (fun s k => match s.str k with
    | some x => (s.freeStr k).departed x.prt
    | none => s) s
  seqs.foldl (fun s k => match s.seq k with
    | some x => (s.freeSeq k).departed x.prt
    | none => s) s

/-! ### Partitions (R401 to R404, R423, R426, R452, R455) -/

/-- A partition becomes READY, or PARKED in LISTEN where it is not the listen partition (R66). -/
def State.prtReady (s : State) (p : Nat) : State :=
  let park := s.pwr.st = .listen && ((s.prt p).map Prt.rows) ≠ some s.listenRows
  (s.modPrt p fun x => { x with st := if park then PrtState.parked else PrtState.ready, faultAt := none, cleared := none,
                                rebuild := false, linkWait := false, groupWait := false }).raiseBit (0x028 + p) 0

/-- A partition's resume point (R404, R423, R426): HALTED at the eighth reset within 1,000 ms, WAIT_RELOAD where its slot needs
reloading, else READY. -/
def State.resumePrt (s : State) (p : Nat) (x : Prt) : State :=
  if 8 ≤ x.resets.length then
    let s := s.setPrt p { x with st := .halted, faultAt := none, cleared := none }
    ((s.recordErrAt (0x028 + p) 0x0A02 0x11).raiseBit (0x028 + p) 3).journal 0x17 0x10 0x0A02 p 0
  else if (s.slotD x.slot).st = .needsReload || (s.slotD x.slot).st = .loading then s.setPrt p { x with st := .waitReload, faultAt := none, cleared := none }
  else s.prtReady p

/-- What an edge does to a partition's state. -/
def State.prtEdge (s : State) (p : Nat) : State :=
  match s.prt p with
  | none => s
  | some x =>
    let slot := (s.slotD x.slot).st
    match x.st with
    | .building =>
      if x.built && (!x.groupWait || s.groupReady x.slot) then (s.prtReady p).decide x.order 0 0 else s
    | .ready | .parked => if slot = .needsReload then s.setPrt p { x with st := .waitReload, round := none } else s
    | .resetting => match x.cleared with
      | some t =>
        if (x.rebuild || t + 100 ≤ s.now) && (!x.linkWait || s.groupReady x.slot) then s.resumePrt p x else s
      | none => s
    | .waitReload =>
      if slot = .resident && (!s.grouped x.slot || s.groupReady x.slot) then
        (s.prtReady p).modPrt p fun y => { y with recheck := true }
      else s
    | .discarding => (({ s with prts := Tab.erase s.prts p }).pruneKv).decide x.order 0 0
    | .halted | .free => s

/-- Every partition at the edge. -/
def State.prtsEdge (s : State) : State := (s.prts.map Prod.fst).foldl (fun s p => s.prtEdge p) s

/-! ### Imports (R363, R365) -/

/-- An import that has passed or failed is committed at the edge. -/
def State.importEdge (s : State) (k : Nat) : State :=
  match s.str k with
  | none => s
  | some x =>
    match x.imp with
    | some (.passed copy carry) =>
      let later := x.pend
      let s := s.setStr k { x with com := copy, work := none, taken := 0, imp := none, written := true, comTick := s.tick.number,
                                   check := 0, st := .running, pend := carry }
      later.foldl (fun s f => s.pushFrame k f) s
    | some (.failed code) =>
      let s := s.setStr k { x with com := zeroCopy (s.graphOf x.prt), work := none, taken := 0, imp := none, written := true,
                                   wasReset := true, comTick := s.tick.number, check := code, st := .running }
      (s.count Reg.STR_AUTO_ZERO 1).raiseBit 0x010 2
    | _ => s

/-- The FINAL of a command is still to be released. -/
def State.unreleased (s : State) (order : Nat) : Bool :=
  s.link.cmds.any (fun c => c.own.order = order && c.open_)
    || s.link.entries.any (fun e => e.order = order && e.kind = .final)
    || s.link.backlog.any fun b => b.2.any fun e => e.order = order && e.kind = .final && e.tick.isNone

/-- An import begins once the stream's FINAL is released. -/
def State.importStart (s : State) (k : Nat) : State :=
  match s.str k with
  | none => s
  | some x =>
    match x.imp with
    | some (.waiting addr len) =>
      if x.st ≠ .opening || s.unreleased x.own.order then s
      else (s.setStr k { x with imp := some (.reading addr len) }).dmaRead x.own.rider x.own.rider addr len
    | _ => s

/-! ### Memory at the edge (R388, R389) -/

/-- Pages that waited for the edge set out for the pannier, while the PAGE hub runs. -/
def State.spillWanted (s : State) : State :=
  if s.restarting 2 then s
  else s.seqs.foldl (fun s x =>
    (x.2.pages.filter fun p => p.want && p.loc = .stack).foldl (fun s p => s.spillPage x.1 { p with want := false }) s) s

/-- The longest wait of the tick that ends among the sequences that stay in PREFETCH is counted (R389), and prefetches that found
no room are tried again. -/
def State.prefetchEdge (s : State) (from_ : Nat) : State :=
  let waits := s.seqs.filterMap fun x =>
    if x.2.st = .prefetch then x.2.waitFrom.map fun t => s.now - max t from_ else none
  let s := if waits = [] then s else (s.count Reg.KVC_PREFETCH_WAIT_US (waits.foldl max 0)).raiseFirst 0x011 2
  (s.seqs.map Prod.fst).foldl (fun s k => s.prefetch k) s

/-! ### Check 11 (R203, R413) -/

/-- A candidate's command gets its outcome at check 11. -/
def State.seat (s : State) (c : Cmd) (p handle : Nat) : State :=
  let o := c.own
  let k := handleIdx handle
  let str := c.desc.opcode = 0x30
  match s.prt p with
  | none => s
  | some x =>
    if x.st = .halted || x.st = .discarding then
      (if str then s.freeStr k else s.freeSeq k).refuseCmd o c.desc 0x030C
    else if x.st ≠ .ready then s
    else
      let r := s.fitCheck o p
      let s := r.2
      if r.1 then
        let s := if str then s.modStr k fun y =>
            { y with live := y.source ≠ 0xFF, admitted := true, st := if y.imp.isNone then StrState.running else StrState.opening }
          else (s.modSeq k fun y => { y with admitted := true }).wakeSeq k
        (s.trace 5 p c.desc.opcode 0).decide o.order 0 handle
      else
        let s := if str then s.freeStr k else s.freeSeq k
        let s := ((s.count (Reg.PRT_NO_FIT p) 1).count Reg.SRV_NO_FIT 1).raiseBit 0x00E 1
        s.refuseCmd o c.desc 0x030E

/-- Check 11 of one command; a stream without its area yet waits. -/
def State.check11 (s : State) (c : Cmd) : State :=
  match s.streams.find? fun x => x.2.own.order = c.own.order with
  | some (k, x) => if x.ptr.isNone then s else s.seat c x.prt (strHandle k)
  | none => match s.seqs.find? fun x => x.2.own.order = c.own.order with
    | some (k, x) => s.seat c x.prt (seqHandle k)
    | none => s

/-! ### The snapshot (R556) -/

/-- The pages that a snapshot latches. -/
def State.snapPages (s : State) : List (Nat × Block × Nat) :=
  (List.range 512).filterMap fun pg => (pageOf pg).bind fun b =>
    if Block.present s.part.variant b.1 b.2 && (hdrCap b.1 b.2).testBit 1 then some (pg, b.1, b.2) else none

/-- The bytes of a snapshot: the heading and the latched pages. -/
def State.snapBytes (s : State) : List Byte :=
  let pages := s.snapPages
  leBytes 4 0x4E53_4C46 ++ leBytes 4 pages.length ++ leBytes 8 s.tick.number.toNat ++ List.replicate 48 0
    ++ pages.flatMap fun x => (List.range 1024).flatMap fun i => leBytes 4 (s.word 0xFF x.1 x.2.1 x.2.2 (4 * i))

/-- A snapshot that was asked for is latched at the 25 µs point and written. -/
def State.snapEdge (s : State) : State :=
  match s.trc.snap with
  | some none =>
    let b := s.snapBytes
    { s with trc := { s.trc with snap := some (some b) } }.dmaWrite 0 (s.rd64 Reg.TRC_SNAP_ADDR_LO / 4096 * 4096) b
  | _ => s

/-! ### Strokes after a change -/

/-- The strokes that stand in `t` and did not stand in `s` go to their groups (R453). -/
def State.spreadStrokes (s t : State) : State :=
  t.prts.foldl (fun u x =>
    match x.2.stroke with
    | none => u
    | some a => match (s.prt x.1).bind Prt.stroke with
      | some b => if a.start = b.start && a.number = b.number then u else u.leaderStroke x.1
      | none => u.leaderStroke x.1) t

/-- The state `f` gives, with what its outcomes and strokes bring about: a group's followers get its strokes, fenced commands
whose turn has come are admitted (R196, R453), and channels stand as the partitions built require (Table 3-2). -/
def State.settled (f : State → State) (s : State) : State := ((s.spreadStrokes (f s)).admitFenced).settleChannels

/-- The state `f` gives, settled, with the queue, the clock, the tick number and the part's fuses as before, but that SEAL_BURN
may have burnt the seal fuse: what an event can change at most. -/
def State.keepCmd (f : State → State) (s : State) : State :=
  let t := State.settled f s
  { t with
    pending := s.pending
    now := s.now
    tick := { t.tick with number := s.tick.number }
    part := { t.part with variant := s.part.variant, sealFuse := s.part.sealFuse || t.part.sealFuse,
                          repairFuses := s.part.repairFuses, revoked := s.part.revoked, dieId := s.part.dieId,
                          bootKeys := s.part.bootKeys } }

/-- As `run`, for such an effect. -/
def runCmd (f : State → State) (s : State) : Answer := if s.alive then .next (State.keepCmd f s) else .next s

/-- As `runIf`, for such an effect. -/
def runCmdIf (p : State → Bool) (f : State → State) (s : State) : Answer :=
  if !s.alive then .next s else if p s then .next (State.keepCmd f s) else .fault .noSuchEvent

/-- As `runAt`, for such an effect. -/
def runCmdAt (t : State → Nat) (p : State → Bool) (f : State → State) (s : State) : Answer :=
  if !s.alive then .next s else runCmdIf p f (s.waitTo (t s))

/-! ### The edge -/

/-- The SERVE hub's work from the commit to the release; a cancelled sequence that is in no stroke in flight ends at this edge
(R396). -/
def State.serveCommit (s : State) : State :=
  let s := (s.prts.map Prod.fst).foldl (fun s p => s.leaves p) s.missingCommit
  let r := s.commitAll
  let s := r.1
  let ends := (s.seqs.filter fun x => x.2.st = .ending && !x.2.inFlight).map Prod.fst
  let closes := (s.streams.filter fun x => x.2.st = .closing && !x.2.inFlight).map Prod.fst
  let s := s.snapEdge.giveAll r.2
  let s := (s.streams.map Prod.fst).foldl (fun s k => s.exportStr k) s
  let s := ((s.rebinds.endReports ends).reportCloses closes).finishLoads
  let s := if s.pwr.st = .kick then s.kickSeqs else (s.spillWanted.serveWants).prtsEdge
  let s := s.endMigrations.commitArrivals
  let s := (s.streams.map Prod.fst).foldl (fun s k => s.importEdge k) s
  let privs := s.link.cmds.filter fun c => c.desc.opcode = 0x72 && c.stage = .decided && c.status = 0
    && s.unreleased c.own.order
  let s := s.release
  let s := s.freeGone closes ends
  let s := privs.foldl (fun s c => if s.unreleased c.own.order then s
    else { s with isl := { s.isl with polNext := some (c.desc.opnd 0x20 4) } }) s
  (s.streams.map Prod.fst).foldl (fun s k => s.importStart k) s

/-- The SERVE hub's work up to the 60 µs point: power, budgets, the repeated checks, check 11, and the tick's first
boundaries. -/
def State.serveBegin (s : State) : State :=
  let s := s.handshakeEdge.evalRequest
  if !s.tick.running then s
  else
    let s := s.openWindows.setBudgets.choosePoint.recheckAll.admitHeld
    let s := (s.inStage .check11).foldl (fun s c => s.check11 c) s
    s.offerMigrations.boundaries

/-- Power at an edge: a completed transition's state comes into force, and what AON held is completed (R68, R70, R184). The first
edge after AON begins the router frames anew. -/
def State.wakeEdge (s : State) : State :=
  match s.pwr.trans with
  | some t =>
    if t.done && t.src = .aon then ({ s with aud := { s.aud with lastFrame := s.now } }).powerEdge.releaseHeld else s.powerEdge
  | none => s

/-- A tick edge (R23): the audio since the last batch, the tick that ends, edge n, the commit and the release, and the tick that
begins. While the SERVE hub restarts, its part is left out (R149, R199). -/
def State.edge (a : AudioIn) (uJ : Nat) (s : State) : State :=
  let from_ := s.tick.lastEdge
  let s := (s.playBatch a).strokesEdge
  let s := (s.newTick uJ).closeAll.turnTick.alignEdge.takeReferences
  let s := if s.restarting 1 then s.snapEdge.portsUp else s.serveCommit.portsUp
  let s := (s.prts.map Prod.fst).foldl (fun s p => s.hungPrt from_ p) s
  let s := (s.prefetchEdge from_).wakeEdge
  let s := if s.restarting 1 then s.choosePoint else s.serveBegin
  s.sendTicks s.gov.headwind

/-- The state with the tick number one higher. -/
def State.numbered (n : DWord) (t : State) : State := { t with tick := { t.tick with number := n + 1 } }

/-- The earliest time of the next edge: the tick length after the last, less what a trim takes (R18, R448); a slaved tick, or one
that runs on after its source was lost, may be shorter by a fiftieth (DESIGN CHOICE, assumption 1). -/
def State.edgeDue (s : State) : Nat :=
  let len := tickUs s.tick.length
  s.tick.lastEdge + (if s.tick.source = 0 && !s.tick.fallback then len - (if s.tick.trimNs < 0 then 1 else 0) else len - len / 50)

/-- TICK_EDGE: the number goes up by one (R19), whatever else the edge does. -/
def execTickEdge (a : AudioIn) (uJ : Nat) (s : State) : Answer :=
  if !s.alive then .next s
  else if s.tick.running then
    .next (State.numbered s.tick.number (State.keepCmd (State.edge a uJ) (s.waitTo s.edgeDue)))
  else .fault .noSuchEvent

end Sys2Proof.Machine
end

