-- ==== Sys2Proof/Machine/MemRows.lean ====
section
/-! DEFINITION. The events of hub cores, weight-stack channels and spokes (R130, R145 to R152, R229 to R232, R244, R245, R311,
R312, R329, R333). -/
namespace Sys2Proof.Machine
open Sys2Proof

/-! ### Hub restarts -/

/-- Hub `h` runs. -/
def State.hubRuns (s : State) (h : Nat) : Bool := (s.hub h).run = .running

/-- HUB_WATCHDOG_EXPIRE: `torn` where the restart cut a log entry short (R544). -/
def execHubWatchdogExpire (hub : Nat) (torn : Bool) (s : State) : Answer :=
  runCmdIf (fun s => Nat.blt hub 4 && s.hubRuns hub) (fun s => s.beginRestart hub 2 torn) s

/-- HUB_FAULT. -/
def execHubFault (hub : Nat) (torn : Bool) (s : State) : Answer :=
  runCmdIf (fun s => Nat.blt hub 4 && s.hubRuns hub) (fun s => s.beginRestart hub 3 torn) s

/-- HUB_RESTART_DONE: the restart ends, and the hub acts on what was written meanwhile (R103). -/
def execHubRestartDone (hub : Nat) (s : State) : Answer :=
  runCmdIf (fun s => Nat.blt hub 4 && s.restarting hub) (fun s => (s.endRestart hub).replayHub hub) s

/-- HUB_RESTART_TIMEOUT: 10 ms have passed since the restart began, or the digest of the hub's master copy does not match. -/
def execHubRestartTimeout (hub : Nat) (digestFail : Bool) (s : State) : Answer :=
  runCmdAt (fun s => if digestFail then 0 else (s.hub hub).since + 10_000) (fun s => Nat.blt hub 4 && s.restarting hub)
    (fun s => s.wantReset 5) s

/-- When the first hold that a restart of the PAGE hub began has lasted 2 ms (R150). -/
def State.holdDue (s : State) : Nat := match (s.prts.filterMap fun p => p.2.heldHub).min? with
  | some t => t + 2000
  | none => 0

/-- PAGE_HUB_HOLD_TIMEOUT. -/
def execPageHubHoldTimeout (s : State) : Answer := runCmdAt State.holdDue State.holdOver State.resetHeld s

/-! ### Retraining -/

/-- When the retraining period of channel `n` runs out, where nothing asks for a window before (R145). -/
def State.retrainTime (s : State) (n : Nat) : Nat :=
  if s.retrainWanted n then 0 else (s.chan n).trainedAt + max 1 (s.fld Reg.HUB_RETRAIN_CTL 0 4) * 1_000_000

/-- RETRAIN_DUE: a window is wanted. -/
def execRetrainDue (chan : Nat) (s : State) : Answer :=
  runCmdAt (fun s => s.retrainTime chan) (fun s => Nat.blt chan s.chanCount && s.retrainWanted chan)
    (fun s => s.setChan chan { s.chan chan with due := true }) s

/-- RETRAIN_WINDOW_DONE. -/
def execRetrainWindowDone (chan : Nat) (pass : Bool) (s : State) : Answer :=
  runCmdIf (fun s => Nat.blt chan s.chanCount && (s.chan chan).window) (fun s => s.retrainEnds chan pass) s

/-! ### Memory errors -/

/-- Corrected bursts of a channel are counted and raised. -/
def State.corrected (s : State) (n k : Nat) : State :=
  if k = 0 then s else (s.count (Reg.CHN_ECC_CORR n) k).raiseBit (0x060 + n) 0

/-- A channel delivers reads. -/
def State.chanReads (s : State) (n : Nat) : Bool := Nat.blt n s.chanCount && (if (s.chan n).st = .active then true else false)

/-- No window runs in this tick (R232). -/
def State.noWindow (s : State) : Bool :=
  s.mem.hot = 0 && (List.range s.chanCount).all fun n => !(s.chan n).window

/-- PATROL_SCRUB of an allocated granule, with the bursts it corrected; what it read is counted. -/
def execPatrolScrub (chan gran corrected : Nat) (s : State) : Answer :=
  runCmdIf (fun s => s.chanReads chan && (s.allocAt chan gran).isSome && s.noWindow && s.hubRuns 0)
    (fun s => (s.count48 (Reg.CHN_BYTES_LO chan) granBytes).corrected chan corrected) s

/-- Times and addresses of the latest uncorrectable bursts, with one more. -/
def recentErrs (now addr : Nat) (l : List (Nat × Nat)) : List (Nat × Nat) :=
  (now, addr) :: l.filter fun x => now < x.1 + 1_000_000

/-- Distinct addresses in a list of errors. -/
def distinctAddrs (l : List (Nat × Nat)) : Nat := (l.map Prod.snd).eraseDups.length

/-- A burst at offset `off` of channel `n` stays uncorrectable (R230, R231, Table 8-3). -/
def State.uncorrectable (s : State) (n off region : Nat) : State :=
  let addr := n * 2 ^ 30 + off / 64 * 64
  let s := (s.count (Reg.CHN_ECC_UNCORR n) 1).wr64 (Reg.CHN_ECC_ADDR_LO n) (addr + region * 2 ^ 35)
  let s := (s.recordErrAt (0x060 + n) 0x0501 0xFF).raiseBit (0x060 + n) 1
  let l := recentErrs s.now addr (s.chan n).uncorr
  let s := s.setChan n { s.chan n with uncorr := l }
  let s := if region = 4 then
      let (c, s) := s.fresh
      s.beginRestart (Config.systemOwner c % 3) 3 false
    else s.loseBurst n off
  if 4 ≤ distinctAddrs l then s.failChannel n else s

/-- ECC_READ_ERROR at an allocated offset: `kind` 0 corrected, 1 clean on the retry, 2 uncorrectable. -/
def execEccReadError (chan addr kind : Nat) (s : State) : Answer :=
  runCmdIf (fun s => s.chanReads chan && (s.regionOf chan addr).isSome && Nat.blt kind 3)
    (fun s => if kind < 2 then s.corrected chan 1 else s.uncorrectable chan addr ((s.regionOf chan addr).getD 0)) s

/-- Spokes of other rows that channel `n` homes. -/
def State.guests (s : State) (n : Nat) : List Nat := (s.homed n).filter fun i => i / 8 ≠ n % 8

/-- SPOKE_REHOME; a channel that takes spokes of another row says so. A channel that failed in a boot is rehomed in that boot. -/
def execSpokeRehome (chan : Nat) (s : State) : Answer :=
  runCmdIf (fun s => (Tab.find s.mem.rehome chan).isSome && (s.hubRuns 1 || s.boot.fw = .booting))
    (fun s =>
      let t := s.rehome chan
      (List.range s.chanCount).foldl (fun (u : State) n =>
        if t.guests n ≠ [] && t.guests n ≠ s.guests n then u.raiseBit (0x060 + n) 3 else u) t) s

/-! ### Spoke errors -/

/-- Physical spoke `k` is enabled. -/
def State.spokeOn (s : State) (k : Nat) : Bool := Nat.blt k 72 && (s.logicalOf (k / 9) (k % 9)).isSome

/-- A fault of a spoke's work: recorded, raised, and a job fault of partition `p`. -/
def State.spokeFault (s : State) (k code : Nat) (p : Option Nat) : State :=
  let s := (s.recordErrAt (0x080 + k) code 0x11).raiseBit (0x080 + k) 1
  match p with
  | some p => s.jobFault p code
  | none => s

/-- An SRAM word of spoke `k` is uncorrectable (R311, R333). -/
def State.sramLost (s : State) (k off : Nat) : State :=
  let a := off % 2 ^ 20 / 8 * 8
  let s := (s.count (Reg.SPK_SRAM_UNCORR k) 1).wr (Reg.SPK_SRAM_ADDR k) (BitVec.ofNat 32 a)
  let l := recentErrs s.now a (s.spoke k).uncorr
  let s := s.setSpoke k { s.spoke k with uncorr := l }
  let s := s.spokeFault k 0x0701 (s.prtOfRow (k / 9))
  if 2 ≤ distinctAddrs l then s.failSpoke k 1 0x0701 else s

/-- SRAM_ERROR of an enabled spoke. -/
def execSramError (spoke offset : Nat) (corrected : Bool) (s : State) : Answer :=
  runCmdIf (fun s => s.spokeOn spoke)
    (fun s => if corrected then (s.count (Reg.SPK_SRAM_CORR spoke) 1).raiseBit (0x080 + spoke) 0 else s.sramLost spoke offset) s

/-- A residue mismatch of spoke `k` (R312, R333). -/
def State.residueLost (s : State) (k : Nat) : State :=
  let l := s.now :: (s.spoke k).residue.filter fun t => s.now < t + 1_000_000
  let s := (s.count (Reg.SPK_RESIDUE_ERRS k) 1).setSpoke k { s.spoke k with residue := l }
  let s := s.spokeFault k 0x0702 (s.prtOfRow (k / 9))
  if 2 ≤ l.length then s.failSpoke k 2 0x0702 else s

/-- RESIDUE_MISMATCH of an enabled spoke. -/
def execResidueMismatch (spoke : Nat) (s : State) : Answer :=
  runCmdIf (fun s => s.spokeOn spoke) (fun s => s.residueLost spoke) s

/-- RIM_CHECK_FAIL at a router, of a transfer of partition `prt`: resent, and with `again` failed twice (R329). The counters of a
spoke that is not enabled do not change (R335). -/
def execRimCheckFail (spoke prt : Nat) (again : Bool) (s : State) : Answer :=
  runCmdIf (fun s => Nat.blt spoke 72 && (s.prt prt).isSome)
    (fun s =>
      let s := if s.spokeOn spoke then s.count (Reg.SPK_RIM_RETRIES spoke) 1 else s
      if again then s.spokeFault spoke 0x0703 (some prt) else s) s

end Sys2Proof.Machine
end

