-- ==== Sys2Proof/Machine/PrtRows.lean ====
section
/-! DEFINITION. The events of partitions, strokes, handoffs, pannier fetches and key-value pages (R27, R237, R242, R334, R388 to
R390, R401, R405, R406, R423). -/
namespace Sys2Proof.Machine
open Sys2Proof

/-! ### Partitions -/

/-- The 2 ms step of a partition reset is to be done (R423). -/
def State.clearDue (s : State) (p : Nat) : Bool := match s.prt p with
  | some x => (if x.st = .resetting then true else false) && !x.rebuild && x.cleared.isNone
  | none => false

/-- PARTITION_RESET_CLEARED. -/
def execPartitionResetCleared (prt : Nat) (s : State) : Answer :=
  runCmdIf (fun s => s.hubRuns 1 && s.clearDue prt) (fun s => s.modPrt prt fun x => { x with cleared := some s.now }) s

/-- The rebuild of row `r` can complete: the row waits for one, and no spoke of its partition waits for a new home channel
(corner of chapter 18). -/
def State.rebuildDue (s : State) (r : Nat) : Bool := match Tab.find s.mem.renumber r with
  | some p => s.mem.rehome.all fun x => (s.homed x.1).all fun i => i / 8 ≠ r && match s.prt p with
      | some y => !y.rows.testBit (i / 8)
      | none => true
  | none => false

/-- The spare of row `r` fails its SRAM test as it is numbered: it is FAILED, and the row is lost (corner of chapter 11). -/
def State.spareFails (s : State) (r : Nat) : State :=
  match (s.workCols r)[7]? with
  | none => s
  | some c =>
    let k := 9 * r + c
    let s := (s.setSpoke k { s.spoke k with st := .failed, cause := 1 }).journal 0x16 0x11 1 k 0
    (s.recordErrAt (0x080 + k) 0x0705 0x10).loseRow r 0x0705

/-- The rebuild of row `r` completes (R334): a row that has a spare is renumbered onto it; the partition's 2 ms step is done once no
row of it waits. -/
def State.rebuildRow (s : State) (r : Nat) (spareGood : Bool) : State :=
  let p := Tab.get 8 s.mem.renumber r
  let s := if s.rowLost r then s else if spareGood then s.renumberRow r else s.spareFails r
  let s := s.setMem { s.mem with renumber := Tab.erase s.mem.renumber r }
  if s.mem.renumber.any fun x => x.2 = p then s
  else s.modPrt p fun x => if x.st = .resetting && x.rebuild then { x with cleared := some s.now, rebuild := false } else x

/-- PARTITION_REBUILD. -/
def execPartitionRebuild (row : Nat) (spareGood : Bool) (s : State) : Answer :=
  runCmdIf (fun s => s.hubRuns 1 && s.rebuildDue row) (fun s => s.rebuildRow row spareGood) s

/-- A partition is being built. -/
def State.buildDue (s : State) (p : Nat) : Bool := match s.prt p with
  | some x => (if x.st = .building then true else false) && !x.built
  | none => false

/-- The work of a build is complete (R401); the partition is READY at the next edge. -/
def State.buildDone (s : State) (p : Nat) : State := match s.prt p with
  | some x => (s.setPrt p { x with built := true }).log 1 2 0x8004 p x.rows 0
  | none => s

/-- PRT_BUILD_DONE. -/
def execPrtBuildDone (prt : Nat) (s : State) : Answer :=
  runCmdIf (fun s => s.hubRuns 1 && s.buildDue prt) (fun s => s.buildDone prt) s

/-! ### Strokes and handoffs -/

/-- A stroke is in flight. -/
def State.inStroke (s : State) (p : Nat) : Bool := ((s.prt p).bind Prt.stroke).isSome

/-- STROKE_END; the leader of a group tells its members when no other stroke follows (R454). -/
def execStrokeEnd (prt : Nat) (s : State) : Answer :=
  runCmdIf (fun s => s.inStroke prt) (fun s => (s.strokeEnd prt).leaderCommit prt) s

/-- The handoff from a producer to a consumer that set out first. -/
def State.flight (s : State) (producer consumer : Nat) : Option Flight :=
  s.flights.find? fun f => f.producer = producer && f.consumer = consumer

/-- A handoff arrives (R27). -/
def State.handoffArrives (s : State) (producer consumer : Nat) : State :=
  match s.flight producer consumer with
  | none => s
  | some f =>
    let s := { s with flights := s.flights.erase f }
    let s := s.deliver f
    match s.prtOfHandle consumer with
    | some p => s.boundary p
    | none => s

/-- HANDOFF_ARRIVAL. -/
def execHandoffArrival (producer consumer : Nat) (s : State) : Answer :=
  runCmdIf (fun s => (s.flight producer consumer).isSome) (fun s => s.handoffArrives producer consumer) s

/-! ### The pannier -/

/-- A stroke in flight of partition `p` fetches layer `l` from the pannier. -/
def State.fetches (s : State) (p l : Nat) : Bool :=
  s.inStroke p && match (s.layersOf p)[l]? with
    | some y => y.inPannier
    | none => false

/-- A fetched cold layer does not match its digest (R237). -/
def State.digestFails (s : State) (p : Nat) : State :=
  let s := (s.recordErrAt 0x050 0x0503 0x11).count Reg.STK_PAN_DIGEST_FAILS 1
  (s.raiseBit 0x050 4).slotLost (s.slotOf p) 0x0503

/-- PANNIER_DIGEST_CHECK. -/
def execPannierDigestCheck (prt layer : Nat) (match_ : Bool) (s : State) : Answer :=
  runCmdIf (fun s => s.fetches prt layer) (fun s => if match_ then s else s.digestFails prt) s

/-- A stroke of partition `p` waits. -/
def State.starveOver (s : State) (p : Nat) : Bool := match (s.prt p).bind Prt.stroke with
  | some t => t.waiting
  | none => false

/-- PANNIER_STARVE_ABANDON, at 40 µs before the tick edge (R242). -/
def execPannierStarveAbandon (prt : Nat) (s : State) : Answer :=
  runCmdAt (fun s => s.tick.lastEdge + tickUs s.tick.length - 40) (fun s => s.starveOver prt) (fun s => (s.abandonStroke prt).boundary prt) s

/-! ### Key-value pages -/

/-- A page of a sequence is on its way. -/
def State.pageMoves (s : State) (k tensor ring : Nat) (w : PageWhere) : Bool := match s.pageAt k tensor ring with
  | some p => if p.loc = w then true else false
  | none => false

/-- A spilled page has been read out of the stack (R388, R389): its slot holds it with its CRC-32 recorded, its stack page is free for
what waits, and a running sequence that it belongs to waits for it in PREFETCH. -/
def State.spilled (s : State) (k tensor ring : Nat) : State :=
  match s.seq k, s.pageAt k tensor ring with
  | some x, some p =>
    let bytes := pageBytes ((s.graphOf x.prt).tensor tensor) p
    let s := s.dmaWrite 0 (s.spillAddr x.prt (p.slot.getD 0)) bytes
    let s := s.setPage k { p with loc := .pannier, held := false, crc := some (crc32 bytes), want := false }
    let s := (s.count Reg.KVC_SPILLS 1).trace 11 x.prt 1 k
    let s := (s.modSeq k fun y =>
      if y.st = .running then { y with st := .prefetch, waitFrom := some s.now } else y).pruneKv.serveWants
    (s.seqs.map Prod.fst).foldl (fun s j => s.prefetch j) s
  | _, _ => s

/-- KV_SPILL_DONE, while the pannier can be reached. -/
def execKvSpillDone (seq tensor ring : Nat) (s : State) : Answer :=
  runCmdIf (fun s => s.pageMoves seq tensor ring .spilling && s.reachable && s.mayIssue 0) (fun s => s.spilled seq tensor ring) s

/-- A prefetched page has arrived (R389): back in its stack page; one whose CRC-32 does not match is invalid (R395). -/
def State.fetched (s : State) (k tensor ring : Nat) (good : Bool) : State :=
  match s.seq k, s.pageAt k tensor ring with
  | some x, some p =>
    let s := s.readEnds 0
    let s := s.setPage k { p with loc := .stack, valid := p.valid && good }
    let s := ((s.count Reg.KVC_PREFETCHES 1).countObj (1024 + k) 7 1).trace 12 x.prt 1 k
    let s := if good then s
      else ((s.recordErrAt 0x011 0x0902 0x12).count Reg.KVC_SPILL_CHECK_FAILS 1).raiseBit 0x011 1
    (s.endPrefetch k).boundary x.prt
  | _, _ => s

/-- KV_PREFETCH_DONE. -/
def execKvPrefetchDone (seq tensor ring : Nat) (good : Bool) (s : State) : Answer :=
  runCmdIf (fun s => s.pageMoves seq tensor ring .prefetching) (fun s => s.fetched seq tensor ring good) s

end Sys2Proof.Machine
end

