-- ==== Sys2Proof/Machine/CmdRows.lean ====
section
/-! DEFINITION. Commands of the rings and what follows them on the host link: a visit to a submission ring (R191), one row for each
opcode of Table 7-3, the arrival of images (R263 to R265), exports, imports, dumps and snapshots (R210, R362, R363, R556), and
failed requests (R175). -/
namespace Sys2Proof.Machine
open Sys2Proof

/-! ### Visits -/

/-- DESCRIPTOR_FETCH. -/
def execDescriptorFetch (rider ring : Nat) (batch : List Desc) (s : State) : Answer :=
  runCmdIf (fun s => s.visitOk rider ring batch) (fun s => s.visitRing rider ring batch) s

/-- A visit that fetches one descriptor, of a given opcode. -/
def runOpcode (op rider ring : Nat) (d : Desc) (s : State) : Answer :=
  runCmdIf (fun s => d.opcode = op && s.visitOk rider ring [d]) (fun s => s.visitRing rider ring [d]) s

/-- NOP (R195). -/
def execNop (rider ring : Nat) (d : Desc) (s : State) : Answer := runOpcode 0x00 rider ring d s

/-- JNL_MARK (R197). -/
def execJnlMark (rider ring : Nat) (d : Desc) (s : State) : Answer := runOpcode 0x01 rider ring d s

/-- OUT_REBIND (R197). -/
def execOutRebind (rider ring : Nat) (d : Desc) (s : State) : Answer := runOpcode 0x02 rider ring d s

/-- CAS_LOAD (R265). -/
def execCasLoad (rider ring : Nat) (d : Desc) (s : State) : Answer := runOpcode 0x10 rider ring d s

/-- CAS_EVICT (R282). -/
def execCasEvict (rider ring : Nat) (d : Desc) (s : State) : Answer := runOpcode 0x11 rider ring d s

/-- CAS_REPLACE (R279). -/
def execCasReplace (rider ring : Nat) (d : Desc) (s : State) : Answer := runOpcode 0x12 rider ring d s

/-- ADP_LOAD (R274). -/
def execAdpLoad (rider ring : Nat) (d : Desc) (s : State) : Answer := runOpcode 0x13 rider ring d s

/-- ADP_UNLOAD (R275). -/
def execAdpUnload (rider ring : Nat) (d : Desc) (s : State) : Answer := runOpcode 0x14 rider ring d s

/-- PRT_BUILD (R400). -/
def execPrtBuild (rider ring : Nat) (d : Desc) (s : State) : Answer := runOpcode 0x20 rider ring d s

/-- PRT_DISCARD (R403). -/
def execPrtDiscard (rider ring : Nat) (d : Desc) (s : State) : Answer := runOpcode 0x21 rider ring d s

/-- STR_OPEN (R339). -/
def execStrOpen (rider ring : Nat) (d : Desc) (s : State) : Answer := runOpcode 0x30 rider ring d s

/-- STR_CLOSE (R343). -/
def execStrClose (rider ring : Nat) (d : Desc) (s : State) : Answer := runOpcode 0x31 rider ring d s

/-- STR_EXPORT (R362). -/
def execStrExport (rider ring : Nat) (d : Desc) (s : State) : Answer := runOpcode 0x32 rider ring d s

/-- SEQ_SUBMIT (R369). -/
def execSeqSubmit (rider ring : Nat) (d : Desc) (s : State) : Answer := runOpcode 0x40 rider ring d s

/-- SEQ_APPEND (R372). -/
def execSeqAppend (rider ring : Nat) (d : Desc) (s : State) : Answer := runOpcode 0x41 rider ring d s

/-- SEQ_CANCEL (R396). -/
def execSeqCancel (rider ring : Nat) (d : Desc) (s : State) : Answer := runOpcode 0x42 rider ring d s

/-- LNK_AUD_SET (R489). -/
def execLnkAudSet (rider ring : Nat) (d : Desc) (s : State) : Answer := runOpcode 0x50 rider ring d s

/-- TAN_PAIR (R445). -/
def execTanPair (rider ring : Nat) (d : Desc) (s : State) : Answer := runOpcode 0x60 rider ring d s

/-- MIGRATE (R457). -/
def execMigrate (rider ring : Nat) (d : Desc) (s : State) : Answer := runOpcode 0x61 rider ring d s

/-- JNL_ERASE (R209). -/
def execJnlErase (rider ring : Nat) (d : Desc) (s : State) : Answer := runOpcode 0x70 rider ring d s

/-- SIG_POLICY (R262). -/
def execSigPolicy (rider ring : Nat) (d : Desc) (s : State) : Answer := runOpcode 0x71 rider ring d s

/-- PRIV_POLICY (R510). -/
def execPrivPolicy (rider ring : Nat) (d : Desc) (s : State) : Answer := runOpcode 0x72 rider ring d s

/-- DEBUG_UNLOCK (R215). -/
def execDebugUnlock (rider ring : Nat) (d : Desc) (s : State) : Answer := runOpcode 0x73 rider ring d s

/-- SEAL_BURN (R215). -/
def execSealBurn (rider ring : Nat) (d : Desc) (s : State) : Answer := runOpcode 0x74 rider ring d s

/-! ### Images -/

/-- The read of a transfer is in a stage, and no reset has cut it. -/
def State.reading (s : State) (order : Nat) (st : LoadStage) : Bool := match s.load order with
  | some l => (if l.stage = st then true else false) && !l.cut
  | none => false

/-- IMAGE_HEADER_ARRIVED. -/
def execImageHeaderArrived (order : Nat) (bytes : List Byte) (s : State) : Answer :=
  runCmdIf (fun s => s.reading order .header) (fun s => s.headerArrived order bytes) s

/-- IMAGE_TABLES_ARRIVED: the bytes between the header and the weights. -/
def execImageTablesArrived (order : Nat) (bytes : List Byte) (s : State) : Answer :=
  runCmdIf (fun s => s.reading order .tables) (fun s => s.tablesArrived order bytes) s

/-- Granules are allocated to a transfer. -/
def State.placed (s : State) (order : Nat) : Bool := ((s.load order).map Load.staged).getD false

/-- IMAGE_LAST_BYTE: the bytes after the tables. -/
def execImageLastByte (order : Nat) (bytes : List Byte) (s : State) : Answer :=
  runCmdIf (fun s => s.reading order .weights && s.placed order) (fun s => s.lastByte order bytes) s

/-! ### Blobs, dumps and snapshots -/

/-- The blob of an export is being written: its snapshot has been taken (R362). -/
def State.exporting (s : State) (order : Nat) : Bool := match s.cmd order with
  | some c => c.desc.opcode = 0x32 && (if c.stage = .running then true else false)
      && !s.streams.any fun x => x.2.exports.any fun e => e.order = order
  | none => false

/-- The export is complete: its result is the blob's length. -/
def State.exported (s : State) (order : Nat) : State := s.decide order 0 (((s.cmd order).map Cmd.result).getD 0)

/-- STR_EXPORT_WRITTEN. -/
def execStrExportWritten (order : Nat) (s : State) : Answer := runCmdIf (fun s => s.exporting order) (fun s => s.exported order) s

/-- A stream's import reads its blob. -/
def State.importing (s : State) (k : Nat) : Bool := match (s.str k).bind Stream.imp with
  | some (.reading _ _) => true
  | _ => false

/-- STR_IMPORT_DONE: `blob` is none where the transfer was dropped without record (R165). -/
def execStrImportDone (handle : Nat) (blob : Option (List Byte)) (s : State) : Answer :=
  runCmdIf (fun s => handle / 2 ^ 28 = 1 && s.importing (handleIdx handle)) (fun s => s.importDone (handleIdx handle) blob) s

/-- The bytes of the journal in position order (R210); an unused position is zero. Every entry as it stands when the dump ends
(DESIGN CHOICE, assumption 40: the spec lets each be taken before or after an update). -/
def Journal.image (j : Journal) : List Byte :=
  (List.range Journal.size).flatMap fun i => match Tab.find j.pos i with
    | some e => e.bytes
    | none => List.replicate 32 0

/-- The dump ends (R210). -/
def State.dumpEnds (s : State) (fail : Option Nat) : State :=
  match s.jnl.dumping with
  | none => s
  | some a =>
    let s := match fail with
      | none => s.dmaWrite 0 (a / 4096 * 4096) s.jnl.image
      | some kind => s.recordDma 0 kind
    let code := (fail.map dmaCode).getD 0
    ({ s with jnl := { s.jnl with dumping := none, dumpRes := code } }).raiseBit 0x006 0

/-- JNL_DUMP_DONE: `fail` is the way in which its transfer failed. -/
def execJnlDumpDone (fail : Option Nat) (s : State) : Answer :=
  runCmdIf (fun s => s.jnl.dumping.isSome) (fun s => s.dumpEnds fail) s

/-- The snapshot ends (R556). -/
def State.snapEnds (s : State) (fail : Option Nat) : State :=
  let s := match fail with
    | none => s
    | some kind => s.recordDma 0 kind
  let s := s.setFld Reg.TRC_SNAP_CTL 8 16 ((fail.map dmaCode).getD 0)
  ({ s with trc := { s.trc with snap := none } }).raiseBit 0x00D 2

/-- TRC_SNAP_DONE. -/
def execTrcSnapDone (fail : Option Nat) (s : State) : Answer :=
  runCmdIf (fun s => match s.trc.snap with
    | some (some _) => true
    | _ => false) (fun s => s.snapEnds fail) s

/-! ### Failed requests (R175) -/

/-- A request of rider `n` for a transfer can be outstanding. -/
def State.requested (s : State) (n : Nat) : Transfer → Bool
  | .fetch q => s.fetching && s.mayVisit n q
  | .command o => match s.cmd o with
    | some c => c.own.rider = n && (s.exporting o || s.reading o .header || s.reading o .tables || s.reading o .weights
        || ((s.load o).map Load.cut).getD false)
    | none => false
  | .stateBlob h => match s.str (handleIdx h) with
    | some x => h / 2 ^ 28 = 1 && x.own.rider = n && s.importing (handleIdx h)
    | none => false
  | .coldLayer p => n = 0 && s.inStroke p && ((s.prt p).map Prt.panUsed).getD false
  | .spill k t r => n = 0 && s.pageMoves k t r .spilling
  | .prefetch k t r => n = 0 && s.pageMoves k t r .prefetching
  | .audio p => match s.audPort p with
    | some x => x.owner = n
    | none => false
  | .trace => n = 0 && s.trc.running

/-- A page's transfer has failed (R390): the page is as before it, and the transfer is repeated at the next tick edge. -/
def State.pageFails (s : State) (k t r : Nat) : State :=
  match s.pageAt k t r with
  | none => s
  | some p =>
    let q := if p.loc = .spilling then { p with loc := .stack, want := true } else { p with loc := .pannier, held := false }
    let s := if p.loc = .prefetching then s.readEnds 0 else s
    (s.setPage k q).recordErrAt 0x011 0x0903 0x12

/-- What the failure of a transfer costs. -/
def State.transferFails (s : State) (n kind : Nat) : Transfer → State
  | .fetch q => { s with link := { s.link with fetchStop := (n, q) :: s.link.fetchStop, visit := 4 * n + q } }.visited
  | .command o => if (s.load o).isSome then (s.readEnds n).failLoad o (dmaCode kind) else s.decide o (dmaCode kind) 0
  | .stateBlob h => s.importDone (handleIdx h) none
  | .coldLayer p => s.modPrt p fun x => { x with stroke := x.stroke.map fun (t : Stroke) => { t with waiting := true } }
  | .spill k t r => s.pageFails k t r
  | .prefetch k t r => s.pageFails k t r
  | .audio _ => s
  | .trace => s

/-- DMA_FAILURE of a request for rider `rider`: 0 Unsupported Request, 1 Completer Abort, 2 poisoned data, 3 timeout. -/
def execDmaFailure (rider kind : Nat) (t : Transfer) (s : State) : Answer :=
  runCmdIf (fun s => Nat.blt kind 4 && s.requested rider t) (fun s => (s.recordDma rider kind).transferFails rider kind t) s

end Sys2Proof.Machine
end

