-- ==== Sys2Proof/Machine/Frame.lean ====
section
/-! DEFINITION. The router-frame edge, the trace unit's staging, and the events of the audio section and the safety island (R463 to
R488, R498 to R523, R547 to R556). -/
namespace Sys2Proof.Machine
open Sys2Proof

/-! ### The trace unit (R547, R550 to R552) -/

/-- A record is dropped (R552): counted, with the cause at the first drop after a tick without one. -/
def State.dropRec (s : State) : State :=
  let seen := s.trc.dropNow || s.trc.dropLast
  let s := ({ s with trc := { s.trc with lost := s.trc.lost + 1, dropNow := true } }).count Reg.TRC_DROPPED 1
  if seen then s else s.raiseBit 0x00D 1

/-- A record is stamped as it arrives in staging, or dropped where staging is full or a full buffer has stopped tracing (R547,
R551, R552). -/
def State.stageRec (s : State) (p unit a b : Nat) : State :=
  if s.trc.full || 4096 ≤ s.trc.staged.length then s.dropRec
  else
    let r : TraceRec := { point := p, unit := unit, a := a, tick := s.tick.number, sub := s.subtick, b := b }
    { s with trc := { s.trc with staged := s.trc.staged ++ [r] } }

/-- The oldest record on its way reaches the trace unit; where room has returned, a LOST record goes first (R552). -/
def State.takeRec (s : State) : State :=
  match s.trc.fired with
  | [] => s
  | (p, unit, a, b) :: t =>
    let s := { s with trc := { s.trc with fired := t } }
    let s := if s.trc.lost = 0 || s.trc.full || 4096 ≤ s.trc.staged.length then s
      else ({ s with trc := { s.trc with lost := 0 } }).stageRec 30 0 0 s.trc.lost
    s.stageRec p unit a b

/-- The 16 bytes of a record (Table 19-3). -/
def TraceRec.bytes (r : TraceRec) : List Byte :=
  leBytes 1 r.point ++ leBytes 1 r.unit ++ leBytes 2 r.a ++ leBytes 4 r.tick.toNat ++ leBytes 3 r.sub ++ leBytes 1 0 ++ leBytes 4 r.b

/-- Bytes of the trace buffer. -/
def State.traceLen (s : State) : Nat := (s.rd Reg.TRC_BUF_LEN).toNat * 4096

/-- One record leaves staging for the buffer, or stops tracing where the buffer ends (R551). -/
def State.writeRec (s : State) (r : TraceRec) : State :=
  let pos := s.fld Reg.TRC_BUF_POS_LO 0 28
  let len := s.traceLen
  if s.trc.full then s.dropRec
  else if s.bit Reg.TRC_CTL 1 && len ≤ pos + 16 then
    (({ s with trc := { s.trc with full := true, running := false } }).raiseBit 0x00D 0).dropRec
  else
    let s := s.dmaWrite 0 (s.rd64 Reg.TRC_BUF_ADDR_LO / 4096 * 4096 + pos) r.bytes
    let laps := (s.rd Reg.TRC_BUF_POS_HI).toNat
    let next := if len ≤ pos + 16 then (0, laps + 1) else (pos + 16, laps)
    ((s.wr Reg.TRC_BUF_POS_LO (BitVec.ofNat 32 next.1)).wr Reg.TRC_BUF_POS_HI (BitVec.ofNat 32 next.2)).count48 Reg.TRC_WRITTEN_LO 1

/-- Staging drains to the buffer (R550), where a request for rider 0 may be issued and the buffer has a length. -/
def State.drainTrace (s : State) : State :=
  if !s.mayIssue 0 || s.traceLen = 0 then s
  else s.trc.staged.foldl (fun s r => s.writeRec r) { s with trc := { s.trc with staged := [] } }

/-- TRACE_RECORD. -/
def execTraceRecord (s : State) : Answer := runCmdIf (fun s => s.trc.fired ≠ []) State.takeRec s

/-- TRACE_STAGING_DRAIN: staging holds 256 records or more. -/
def execTraceStagingDrain (s : State) : Answer := runCmdIf (fun s => Nat.ble 256 s.trc.staged.length) State.drainTrace s

/-! ### The router-frame edge (R466, R467) -/

/-- A router-frame edge: samples since the last batch, link-audio rings, register writes and commits that waited, the policy and the
gate, mutes that are cleared, link-audio settings, and the trace. -/
def State.frameEdge (a : AudioIn) (s : State) : State :=
  let s := (s.playBatch a).recordHits
  let s := if s.restarting 3 then s else s.audRings a
  let s := s.applyFrame.policyEdge.gateEdge
  let s := (List.range 4).foldl (fun s o => s.clearMute o) s
  let s := if s.restarting 3 then s else s.applyPorts
  { s with aud := { s.aud with lastFrame := s.now } }.drainTrace

/-- ROUTER_FRAME_EDGE: the audio section is on while the tick generator runs (Table 3-2). -/
def execRouterFrameEdge (a : AudioIn) (s : State) : Answer :=
  runCmdAt (fun s => s.aud.lastFrame + 1000) (fun s => s.tick.running) (State.frameEdge a) s

/-! ### Sinks (R482 to R485) -/

/-- A sink's decision point may come: one of the 16 sinks, whose port runs. -/
def State.sinkOn (s : State) (j : Nat) : Bool := Nat.blt j 16 && s.sinkRuns j

/-- SINK_DECISION_POINT. -/
def execSinkDecisionPoint (sink : Nat) (s : State) : Answer := runCmdIf (fun s => s.sinkOn sink) (fun s => s.decision sink) s

/-- A sink's strobe finds its buffer empty. -/
def State.dry (s : State) (j : Nat) : Bool :=
  s.sinkOn j && (s.sink j).started && (s.sink j).fade.isNone && (s.sink j).buf.isEmpty && s.route j ≠ 0x1F && !s.srcSilent (s.route j)

/-- SINK_UNDERRUN: the strobe puts out the first sample of the fade. -/
def execSinkUnderrun (sink : Nat) (s : State) : Answer :=
  runCmdIf (fun s => s.dry sink) (fun s => let r := s.strobes sink 1; r.2.serialise [(sink, r.1)]) s

/-- A sink's buffer is full. -/
def State.brim (s : State) (j : Nat) : Bool :=
  s.sinkOn j && s.sinkKind j ≠ 4 && !(s.sink j).flooded && Nat.ble (s.sinkSpan j 24_000) (s.sink j).buf.length

/-- SINK_OVERRUN: the arriving sample is discarded. -/
def execSinkOverrun (sink : Nat) (s : State) : Answer := runCmdIf (fun s => s.brim sink) (fun s => s.overrunSink sink) s

/-! ### PCM clocks and ports (R475, R479 to R481, R527) -/

/-- A slaved PCM direction that runs; `lost` tells whether its clock is lost. -/
def State.slaved (s : State) (p dir : Nat) (lost : Bool) : Bool :=
  Nat.blt p 2 && Nat.blt dir 2 && s.bit (pcmCtl p dir) 0 && !s.bit (pcmCtl p dir) 1 && (s.pcmClock p dir).lost == lost

/-- A frame of a length of its own is counted (R475). -/
def State.pcmFrame (s : State) (p dir bits : Nat) : State :=
  if bits = s.frameBits p dir then s else (s.count (Reg.PCM_FRAME_ERRS p) 1).raiseFirst (0x016 + p) 4

/-- PCM_FRAME: `bits` bit clocks; its samples come with the next audio batch. -/
def execPcmFrame (port dir bits : Nat) (s : State) : Answer :=
  runCmdIf (fun s => s.slaved port dir false) (fun s => s.pcmFrame port dir bits) s

/-- PCM_RATE_MEASURE. -/
def execPcmRateMeasure (port dir rate : Nat) (s : State) : Answer :=
  runCmdIf (fun s => s.slaved port dir false) (fun s => s.measure port dir rate) s

/-- PCM_CLOCK_LOST. -/
def execPcmClockLost (port dir : Nat) (s : State) : Answer :=
  runCmdIf (fun s => s.slaved port dir false) (fun s => s.clockLost port dir) s

/-- PCM_CLOCK_RETURN. -/
def execPcmClockReturn (port dir : Nat) (s : State) : Answer :=
  runCmdIf (fun s => s.slaved port dir true) (fun s => s.clockReturn port dir) s

/-- The direction that the tick is slaved to has lost its clock. -/
def State.sourceLost (s : State) : Bool :=
  s.tick.source ≠ 0 && (s.pcmClock ((s.tick.source - 1) / 2) ((s.tick.source - 1) % 2)).lost

/-- TICK_SOURCE_LOST: a disabled direction's fall back is part of what disables it. -/
def execTickSourceLost (s : State) : Answer := runCmdIf State.sourceLost State.tickFallback s

/-- An audio port that is enabled and has not failed may fail; a stall is that of a PDM port or a master direction (R527). -/
def State.mayFail (s : State) (pg : Nat) (stalled : Bool) : Bool :=
  let runs (dir : Nat) : Bool := s.bit (pcmCtl (pg - 0x016) dir) 0 && (!stalled || s.bit (pcmCtl (pg - 0x016) dir) 1)
  !s.aud.failed.contains pg
    && ((Nat.ble 0x016 pg && Nat.ble pg 0x017 && (runs 0 || runs 1))
      || (Nat.ble 0x018 pg && Nat.ble pg 0x01D && s.fld (Reg.PDM_CTL (pg - 0x018)) 0 1 = 1))

/-- AUDIO_PORT_FAIL. -/
def execAudioPortFail (page : Nat) (stalled : Bool) (s : State) : Answer :=
  runCmdIf (fun s => s.mayFail page stalled) (fun s => s.failPort page) s

/-! ### The safety island -/

/-- LOCKSTEP_MISMATCH. -/
def execLockstepMismatch (s : State) : Answer := runCmd (fun s => s.kick 2) s

/-- PERIODIC_SELF_TEST: a run ends with a mask of failed tests. -/
def execPeriodicSelfTest (failed : Nat) (s : State) : Answer :=
  runCmdIf (fun s => s.isl.started && Nat.blt failed 1024) (fun s => s.selfTests failed 2) s

/-- CEILING_EXCEEDANCE: the exceedance that a sample completed, and that muted the output, is recorded. -/
def execCeilingExceedance (output : Nat) (s : State) : Answer :=
  runCmdIf (fun s => Nat.blt output 4 && (s.pinOut output).hit.isSome) (fun s => s.recordHit output) s

/-- CEILING_LONG_EVAL. -/
def execCeilingLongEval (output : Nat) (s : State) : Answer :=
  runCmdIf (fun _ => Nat.blt output 4) (fun s => s.evalLong output) s

/-- MUTE_CHECK_FAIL: from 0.5 ms after the mute. -/
def execMuteCheckFail (output : Nat) (s : State) : Answer :=
  runCmdAt (fun s => (s.pinOut output).mutedAt + 500) (fun s => Nat.blt output 4 && (s.pinOut output).muted)
    (fun s => s.kick 5) s

/-- LAMP_SENSE_SAMPLE: while the sink is on. -/
def execLampSenseSample (current : Bool) (mv : Nat) (s : State) : Answer :=
  runCmdIf (fun s => s.isl.sink) (fun s => s.senseLamp current mv) s

/-- LAMP_OFF_CHECK: while the sink is off; below 2.5 V a privacy fault of kind 2 (R513). -/
def execLampOffCheck (mv : Nat) (s : State) : Answer :=
  runCmdIf (fun s => !s.isl.sink) (fun s => if mv < 2500 then s.latchPriv 2 else s) s

/-- GATE_CHECK_FAIL: a captured source that the gate or the policy closes (R514). -/
def execGateCheckFail (input : Nat) (s : State) : Answer :=
  runCmdIf (fun s => Nat.blt input 16 && (s.srcKind input = 1 || s.srcKind input = 2) && !s.srcOpen input) (fun s => s.kick 6) s

/-- ISLAND_THERMAL_SAMPLE. -/
def execIslandThermalSample (quarters : Int) (s : State) : Answer := runCmd (fun s => s.islandTemp quarters) s

/-- The island's sensor reads below 95 °C with cause 4 in force. -/
def State.islandCool (s : State) : Bool := s.kickCauses.testBit 4 && s.isl.coolFrom.isSome

/-- ISLAND_THERMAL_CLEAR: after 1,000 ms below 95 °C. -/
def execIslandThermalClear (s : State) : Answer :=
  runCmdAt (fun s => s.isl.coolFrom.getD 0 + 1_000_000) State.islandCool (fun s => s.unkick 4) s

/-- ISLAND_SENSOR_COMPARE. -/
def execIslandSensorCompare (s : State) : Answer := runCmd State.compareSensors s

end Sys2Proof.Machine
end

