-- ==== Sys2Proof/Machine/HostRows.lean ====
section
/-! DEFINITION. The events of the host link (R43, R123, R164, R165, R169, R170, R175 to R184): function and link resets, training,
delivery, messages, power management, and the host's writes of configuration space and MSI-X tables. -/
namespace Sys2Proof.Machine
open Sys2Proof

/-! ### Resets -/

/-- FUNCTION_LEVEL_RESET of a function that exists, over a link that is up. -/
def execFunctionLevelReset (fn : Nat) (s : State) : Answer :=
  runCmdIf (fun s => s.linkUp && s.riderExists fn) (fun s => s.flr fn) s

/-- VF_ENABLE_CLEAR. -/
def execVfEnableClear (s : State) : Answer := runCmdIf (fun s => s.linkUp && s.link.pf.vfEnable) State.vfClear s

/-- When the reset of rider `n` ends at the latest: at once with no read of it in flight, and after 2 ms else (R177, R179). -/
def State.resetDue (s : State) (n : Nat) : Nat :=
  if Tab.get 0 s.link.reads n = 0 then 0
  else match Tab.find s.link.resetting n, Tab.find s.link.hostReset n with
    | some t, some u => min t u + 2000
    | some t, none | none, some t => t + 2000
    | none, none => 0

/-- A reset of rider `n` is going on. -/
def State.resetOver (s : State) (n : Nat) : Bool :=
  (Tab.find s.link.resetting n).isSome || (Tab.find s.link.hostReset n).isSome

/-- RIDER_RESET_END. -/
def execRiderResetEnd (rider : Nat) (s : State) : Answer :=
  runCmdAt (fun s => s.resetDue rider) (fun s => s.resetOver rider) (fun s => s.riderResetEnd rider) s

/-- The cause of a host-link reset can occur: 0 PERST_N or 1 ULNK_RST_N, of the host die fitted, falls; 2 a hot reset or 3 the loss
of a link that is up. -/
def State.hostResetOk (s : State) (cause : Nat) : Bool := match cause with
  | 0 => !s.link.perstLow && (if s.part.variant.hostDie = .h then true else false)
  | 1 => !s.link.perstLow && (if s.part.variant.hostDie = .u then true else false)
  | 2 | 3 => s.linkUp
  | _ => false

/-- HOST_LINK_RESET. -/
def execHostLinkReset (cause : Nat) (s : State) : Answer :=
  runCmdIf (fun s => s.hostResetOk cause) (fun s => s.hostLinkReset cause) s

/-- PERST_N_DEASSERT. -/
def execPerstNDeassert (s : State) : Answer := runCmdIf (fun s => s.link.perstLow) State.perstRises s

/-! ### Training -/

/-- Lanes and rate codes of LNK_STATUS (Table 6-7). -/
def linkShape (width rate : Nat) : Bool :=
  (width = 1 || width = 2 || width = 4 || width = 8 || width = 16) && Nat.ble 1 rate && Nat.ble rate 5

/-- LINK_UP. -/
def execLinkUp (width rate : Nat) (s : State) : Answer :=
  runCmdIf (fun s => !s.linkUp && !s.link.perstLow && linkShape width rate) (fun s => s.linkReaches width rate) s

/-- LINK_WIDTH_SPEED_CHANGE: to other values than those in force. -/
def execLinkWidthSpeedChange (width rate : Nat) (s : State) : Answer :=
  runCmdIf (fun s => s.linkUp && linkShape width rate
      && !(s.fld Reg.LNK_STATUS 1 5 = width && s.fld Reg.LNK_STATUS 6 3 = rate))
    (fun s => s.linkChanges width rate) s

/-! ### Delivery and messages -/

/-- A held completion entry of rider `n` that has been released can be written. -/
def State.holdEnded (s : State) (n : Nat) : Bool := (s.backlog n).any fun e => e.tick.isSome && s.deliverable e

/-- DELIVERY_HOLD_END. -/
def execDeliveryHoldEnd (rider : Nat) (s : State) : Answer := runCmdIf (fun s => s.holdEnded rider) (fun s => s.drain rider) s

/-- When the holdoff of a vector's due message ends (R170). -/
def State.vecDue (s : State) (n v : Nat) : Nat :=
  let x := s.vec n v
  max ((x.lastSent.map fun t => t + s.fld (Reg.RDR_VEC_MOD n v) 0 16 * 100).getD 0)
    (if x.needEdge then (x.edge.map fun e => e + 40).getD 0 else 0)

/-- MSIX_SEND. -/
def execMsixSend (rider vec : Nat) (s : State) : Answer :=
  runCmdAt (fun s => s.vecDue rider vec) (fun s => s.vecSendable rider vec) (fun s => s.passVec rider vec) s

/-- An idle link may ask for L1 (R180). -/
def State.l1Due (s : State) : Bool := s.linkUp && s.link.pf.aspmL1 && s.fld Reg.LNK_STATUS 9 2 = 0

/-- L1_IDLE_ENTRY, after the idle time of LNK_CTL: L1, or the substate that the host permits. -/
def execL1IdleEntry (s : State) : Answer :=
  runCmdAt (fun s => s.link.idleSince + max 1 (s.fld Reg.LNK_CTL 0 8)) State.l1Due (fun s => (s.emit .l1Request).setPm (1 + min 2 s.link.pf.l1ss)) s

/-! ### Configuration space and MSI-X tables -/

/-- A function's configuration changed; its held messages that can leave are sent (R123). -/
def State.modFn (s : State) (n : Nat) (f : FnCfg → FnCfg) : State :=
  ({ s with link := { s.link with fns := Tab.put s.link.fns n (f (s.fn n)) } }).flushHeld n

/-- The PF's controls changed. -/
def State.modPf (s : State) (f : PfCfg → PfCfg) : State := { s with link := { s.link with pf := f s.link.pf } }

/-- A field of a function's configuration space takes a value. The SR-IOV, LTR and ASPM controls are the PF's; NumVFs does not
change while VF Enable is 1 (PRESUMED from PCI Express Base 5.0, assumption 32). -/
def State.configure (s : State) (n : Nat) : CfgField → State
  | .d3hot v => s.modFn n fun x => { x with d3hot := v }
  | .busMaster v => s.modFn n fun x => { x with bme := v }
  | .msixEnable v => s.modFn n fun x => { x with msixEn := v }
  | .msixMask v => s.modFn n fun x => { x with msixMask := v }
  | .pmeEnable v => s.modFn n fun x => { x with pmeEn := v }
  | .maxPayload v => s.modFn n fun x => { x with mps := v }
  | .maxRead v => s.modFn n fun x => { x with mrrs := v }
  | .cplTimeout v => s.modFn n fun x => { x with cplTimeout := v }
  | .numVFs v => if n = 0 && !s.link.pf.vfEnable then s.modPf fun x => { x with numVFs := min 15 v } else s
  | .vfEnable => if n = 0 then s.modPf fun x => { x with vfEnable := true } else s
  | .ari v => if n = 0 then s.modPf fun x => { x with ari := v } else s
  | .ltrEnable v => if n = 0 then (s.modPf fun x => { x with ltrEn := v }).ltrUpdate else s
  | .aspmL1 v => if n = 0 then s.modPf fun x => { x with aspmL1 := v } else s
  | .l1Substates v => if n = 0 then s.modPf fun x => { x with l1ss := v } else s

/-- What every host access does beside its own effect: the link leaves L1 (R180), and in AON it is a wake cause (R184). -/
def State.hostTouches (s : State) : State := if s.pwr.st = .aon then s.wakeLink.wakeCause 0 false else s.wakeLink

/-- CONFIG_SPACE_WRITE; nothing at a function that does not exist. -/
def execConfigSpaceWrite (fn : Nat) (field : CfgField) (s : State) : Answer :=
  runCmdIf (fun s => s.linkUp) (fun s => if s.riderExists fn then (s.configure fn field).hostTouches else s) s

/-- An entry of a function's MSI-X table takes values (R123); the table has 64 entries (R167). -/
def State.setMsix (s : State) (n v : Nat) (e : MsixEntry) : State :=
  ({ s with link := { s.link with msix := Tab.set s.link.msix (n, v) e } }).flushHeld n

/-- MSIX_TABLE_WRITE. -/
def execMsixTableWrite (fn vec : Nat) (addr : DWord) (data : Word) (masked : Bool) (s : State) : Answer :=
  runCmdIf (fun s => s.linkUp && Nat.blt vec 64)
    (fun s => if s.riderExists fn && !(s.fn fn).d3hot then
      (s.setMsix fn vec { addr := addr, data := data, masked := masked }).hostTouches else s) s

end Sys2Proof.Machine
end

