-- ==== Sys2Proof/Machine/PowerRows.lean ====
section
/-! DEFINITION. The events of supply, clocks and heat (R61, R67 to R74, R81 to R86, R184). -/
namespace Sys2Proof.Machine
open Sys2Proof

/-- REF_LOST: after lock, and until a cold reset at most once (R74). -/
def execRefLost (s : State) : Answer := runCmdIf (fun s => s.boot.refLocked && !s.kickCauses.testBit 3) State.refLost s

/-- THM_SAMPLE: the readings of the sensors that pass their plausibility check. -/
def execThmSample (readings : List (Nat × Int)) (s : State) : Answer := runCmd (fun s => s.sampleSensors readings) s

/-- VIN_SAMPLE. -/
def execVinSample (mv : Nat) (s : State) : Answer := runCmdIf (fun _ => Nat.blt mv 65536) (fun s => s.measureVin mv) s

/-- HEADWIND_POWER_DECAY: the eighth low edge in a row has come. -/
def execHeadwindPowerDecay (s : State) : Answer :=
  runCmdIf (fun s => Nat.ble 8 s.gov.lowEdges) (fun s => { s with gov := s.gov.settlePower }) s

/-- HEADWIND_THERMAL_DECAY. -/
def execHeadwindThermalDecay (s : State) : Answer :=
  runCmdIf (fun s => Nat.ble 8 s.gov.coolEdges) (fun s => { s with gov := s.gov.settleThermal }) s

/-- DVFS_CAP_LOWER: the tenth edge in a row at full headwind under pressure has come. -/
def execDvfsCapLower (s : State) : Answer :=
  runCmdIf (fun s => Nat.ble 10 s.gov.hotEdges) (fun s => { s with gov := s.gov.settleCap }) s

/-- DVFS_CAP_RAISE: the hundredth easy edge in a row has come. -/
def execDvfsCapRaise (s : State) : Answer :=
  runCmdIf (fun s => Nat.ble 100 s.gov.easyEdges && !Nat.ble 10 s.gov.hotEdges) (fun s => { s with gov := s.gov.settleCap }) s

/-- The transition in progress completes. -/
def State.endTransition (s : State) : State := match s.pwr.trans with
  | some t => s.transitionDone t
  | none => s

/-- A transition's actions are still to be completed. -/
def State.inTransition (s : State) : Bool := match s.pwr.trans with
  | some t => !t.done
  | none => false

/-- POWER_TRANSITION_DONE. -/
def execPowerTransitionDone (s : State) : Answer := runCmdIf State.inTransition State.endTransition s

/-- HOST_ACCESS_IN_AON: `val` is none for a read or an access of configuration space. -/
def execHostAccessInAon (agent off be : Nat) (val : Option DWord) (s : State) : Answer :=
  runCmdIf (fun s => (if s.pwr.st = .aon then true else false) && Nat.blt agent 16 && s.riderExists agent)
    (fun s => s.holdAccess agent off be val none false) s

/-- The AON timer runs (Table 3-18). -/
def State.aonTimerRuns (s : State) : Bool :=
  (if s.pwr.st = .aon then true else false) && !((s.rd Reg.PWR_AON_TIMER).toNat == 0)

/-- AON_TIMER_EXPIRE: after its count of 32.768 kHz periods in AON. -/
def execAonTimerExpire (s : State) : Answer :=
  runCmdAt (fun s => s.pwr.aonSince + (s.rd Reg.PWR_AON_TIMER).toNat * 1_000_000 / 32768) State.aonTimerRuns (fun s => s.wakeCause 2 false) s

/-- TANDEM_SB_WAKE: on a variant with a tandem die. -/
def execTandemSbWake (port : Nat) (s : State) : Answer :=
  runCmdIf (fun s => s.part.variant.tandem && Nat.blt port 2) (fun s => s.wakeCause 4 true) s

end Sys2Proof.Machine
end

