-- ==== Sys2Proof/Machine/RegWrites.lean ====
section
/-! DEFINITION. Register writes: the rows of the table that are one write of one register by an agent (R98 to R118 and the register's
own rule), and claims. The bit that a row stands for is 1 in the word written, whatever else the word holds. -/
namespace Sys2Proof.Machine
open Sys2Proof

/-- A word with the bits of `m` at 1. -/
def withBits (w : Word) (m : Nat) : DWord := BitVec.ofNat 64 (Nat.lor w.toNat m)

/-- A write of a whole 32-bit register by an agent. -/
def State.write32 (s : State) (agent off : Nat) (v : DWord) : State := s.writeAccess agent off 0xF v none false

/-- The answer to a write of a whole 32-bit register. -/
def runWrite (agent off : Nat) (v : DWord) (s : State) : Answer := runCmd (fun s => s.write32 agent off v) s

/-- REGISTER_WRITE: up to eight bytes, by byte enables, of any register (R105 to R109). -/
def execRegisterWrite (agent off be : Nat) (val : DWord) (s : State) : Answer :=
  runCmd (fun s => s.writeAccess agent off be val none false) s

/-- COUNTER_CLEAR: the write of a block's clear register (R117). -/
def execCounterClear (agent off : Nat) (val : Word) (s : State) : Answer := runWrite agent off (withBits val 0) s

/-- RST_CTL_DEVICE_RESET. -/
def execRstCtlDeviceReset (agent : Nat) (val : Word) (s : State) : Answer := runWrite agent Reg.RST_CTL (withBits val 1) s

/-- PWR_STATE_REQUEST. -/
def execPwrStateRequest (agent : Nat) (val : Word) (s : State) : Answer :=
  runWrite agent Reg.PWR_STATE_CTL (withBits val (2 ^ 31)) s

/-- TICK_CTL_WRITE. -/
def execTickCtlWrite (agent : Nat) (val : Word) (s : State) : Answer := runWrite agent Reg.CLK_TICK_CTL (withBits val 0) s

/-- PRS_CTL_CLOSE. -/
def execPrsCtlClose (agent : Nat) (val : Word) (s : State) : Answer := runWrite agent Reg.PRS_CTL (withBits val 1) s

/-! ### The common header (R101, R111 to R115, R123) -/

/-- HDR_CLAIM_CLAIM. -/
def execHdrClaimClaim (agent page : Nat) (s : State) : Answer := runWrite agent (hdrOff page 0x024) 1 s

/-- HDR_CLAIM_COMMIT. -/
def execHdrClaimCommit (agent page : Nat) (s : State) : Answer := runWrite agent (hdrOff page 0x024) 2 s

/-- HDR_CLAIM_ABANDON. -/
def execHdrClaimAbandon (agent page : Nat) (s : State) : Answer := runWrite agent (hdrOff page 0x024) 4 s

/-- When a claim on a page reaches 100 ms, less the millisecond that R115 allows. -/
def State.claimDue (s : State) (page : Nat) : Nat := match Tab.find s.regs.claims page with
  | some c => c.since + 99_000
  | none => 0

/-- CLAIM_EXPIRE. -/
def execClaimExpire (page : Nat) (s : State) : Answer :=
  runCmdAt (fun s => s.claimDue page) (fun s => (Tab.find s.regs.claims page).isSome) (fun s => s.dropClaim page 0x0105) s

/-- HDR_INT_STATUS_CLEAR. -/
def execHdrIntStatusClear (agent page : Nat) (val : Word) (s : State) : Answer :=
  runWrite agent (hdrOff page 0x010) (withBits val 0) s

/-- HDR_INT_ENABLE_WRITE. -/
def execHdrIntEnableWrite (agent page : Nat) (val : Word) (s : State) : Answer :=
  runWrite agent (hdrOff page 0x014) (withBits val 0) s

/-- HDR_INT_SET. -/
def execHdrIntSet (agent page : Nat) (val : Word) (s : State) : Answer := runWrite agent (hdrOff page 0x018) (withBits val 0) s

/-- HDR_ERR_CLEAR. -/
def execHdrErrClear (agent page : Nat) (val : Word) (s : State) : Answer :=
  runWrite agent (hdrOff page 0x01C) (withBits val (2 ^ 31)) s

/-! ### Hubs and firmware (R143, R148, R153) -/

/-- HUB_RESTART_REQUEST. -/
def execHubRestartRequest (agent hub : Nat) (val : Word) (s : State) : Answer :=
  runWrite agent (Reg.HUB_CTL (hub % 4)) (withBits val 1) s

/-- HUB_IFACE_OFFER. -/
def execHubIfaceOffer (agent : Nat) (val : Word) (s : State) : Answer := runWrite agent Reg.HUB_IFACE_CTL (withBits val 1) s

/-- The word of a go with an operation of its own. -/
def fwGoWord (w : Word) (op : Nat) : DWord := withBits (Word.setFld w 0 3 op) (2 ^ 31)

/-- The answer to a go in HUB_FW_CTL with an operation. -/
def runFwGo (agent op : Nat) (val : Word) (image : Option (List Byte)) (stored : Bool) (s : State) : Answer :=
  runCmd (fun s => s.writeAccess agent Reg.HUB_FW_CTL 0xF (fwGoWord val op) image stored) s

/-- FW_OP_WRITE: `image` is what host memory holds, none where it cannot be read; `stored` tells whether programming the bank
succeeds. -/
def execFwOpWrite (agent : Nat) (val : Word) (image : Option (List Byte)) (stored : Bool) (s : State) : Answer :=
  runFwGo agent 1 val image stored s

/-- FW_OP_ROLLBACK. -/
def execFwOpRollback (agent : Nat) (val : Word) (s : State) : Answer := runFwGo agent 2 val none true s

/-- FW_OP_CONFIRM. -/
def execFwOpConfirm (agent : Nat) (val : Word) (s : State) : Answer := runFwGo agent 3 val none true s

/-- FW_OP_RECOVERY_RUN. -/
def execFwOpRecoveryRun (agent : Nat) (val : Word) (image : Option (List Byte)) (s : State) : Answer :=
  runFwGo agent 4 val image true s

/-- FW_OP_RESET. -/
def execFwOpReset (agent : Nat) (val : Word) (s : State) : Answer := runFwGo agent 5 val none true s

/-- The operation of a word whose op names none: 0, 6 or 7. -/
def invalidOp (w : Word) : Nat := if Word.fld w 0 3 = 6 ∨ Word.fld w 0 3 = 7 then Word.fld w 0 3 else 0

/-- FW_OP_INVALID. -/
def execFwOpInvalid (agent : Nat) (val : Word) (s : State) : Answer := runFwGo agent (invalidOp val) val none true s

/-! ### Doorbells, journal and tables (R190, R210, R341, R371) -/

/-- RDR_SQ_TAIL. -/
def execRdrSqTail (agent rider ring : Nat) (val : Word) (s : State) : Answer :=
  runWrite agent (Reg.RDR_SQ_TAIL (rider % 16) (ring % 4)) (withBits val 0) s

/-- RDR_CQ_HEAD. -/
def execRdrCqHead (agent rider ring : Nat) (val : Word) (s : State) : Answer :=
  runWrite agent (Reg.RDR_CQ_HEAD (rider % 16) (ring % 4)) (withBits val 0) s

/-- JNL_READ_IDX. -/
def execJnlReadIdx (agent : Nat) (val : Word) (s : State) : Answer := runWrite agent Reg.JNL_READ_IDX (withBits val 0) s

/-- JNL_DUMP_GO. -/
def execJnlDumpGo (agent : Nat) (val : Word) (s : State) : Answer := runWrite agent Reg.JNL_DUMP_CTL (withBits val 1) s

/-- STR_READ_IDX. -/
def execStrReadIdx (agent : Nat) (val : Word) (s : State) : Answer := runWrite agent Reg.STR_READ_IDX (withBits val 0) s

/-- KVC_SEQ_READ_IDX. -/
def execKvcSeqReadIdx (agent : Nat) (val : Word) (s : State) : Answer := runWrite agent Reg.KVC_SEQ_READ_IDX (withBits val 0) s

/-- RDR_CTL_RESET. -/
def execRdrCtlReset (agent rider : Nat) (val : Word) (s : State) : Answer :=
  runWrite agent (Reg.RDR_CTL (rider % 16)) (withBits val 1) s

/-! ### Tandem ports (R436, R446, R462) -/

/-- TAN_PORT_RETRAIN. -/
def execTanPortRetrain (agent port : Nat) (val : Word) (s : State) : Answer :=
  runWrite agent (Reg.TAN_PORT_CTL (port % 2)) (withBits val 0x10) s

/-- TAN_PORT_UNPAIR. -/
def execTanPortUnpair (agent port : Nat) (val : Word) (s : State) : Answer :=
  runWrite agent (Reg.TAN_PORT_CTL (port % 2)) (withBits val 0x20) s

/-- TAN_PORT_WAKE_PEER. -/
def execTanPortWakePeer (agent port : Nat) (val : Word) (s : State) : Answer :=
  runWrite agent (Reg.TAN_PORT_CTL (port % 2)) (withBits val 0x40) s

/-! ### The safety island (R504, R508, R509, R512, R523) -/

/-- SAF_CTL_FORCE. -/
def execSafCtlForce (agent : Nat) (val : Word) (s : State) : Answer := runWrite agent Reg.SAF_CTL (withBits val 1) s

/-- SAF_CTL_RELEASE. -/
def execSafCtlRelease (agent : Nat) (val : Word) (s : State) : Answer := runWrite agent Reg.SAF_CTL (withBits val 2) s

/-- SAF_CTL_STORE. -/
def execSafCtlStore (agent : Nat) (val : Word) (s : State) : Answer := runWrite agent Reg.SAF_CTL (withBits val 4) s

/-- SAF_CEIL_CLEAR. -/
def execSafCeilClear (agent output : Nat) (val : Word) (s : State) : Answer :=
  runWrite agent (Reg.SAF_CEIL_STATE (output % 4)) (withBits val 4) s

/-- SAF_PRIV_CLEAR. -/
def execSafPrivClear (agent : Nat) (val : Word) (s : State) : Answer := runWrite agent Reg.SAF_PRIV (withBits val (2 ^ 16)) s

/-- SAF_TEST_CEILING: the outputs are the word's bits [3:0]. -/
def execSafTestCeiling (agent : Nat) (val : Word) (s : State) : Answer := runWrite agent Reg.SAF_TEST (withBits val 0) s

/-- SAF_TEST_TAG. -/
def execSafTestTag (agent : Nat) (val : Word) (s : State) : Answer := runWrite agent Reg.SAF_TEST (withBits val 0x10) s

/-- SAF_TEST_LAMP. -/
def execSafTestLamp (agent : Nat) (val : Word) (s : State) : Answer := runWrite agent Reg.SAF_TEST (withBits val 0x20) s

/-! ### Logs, object counters and the snapshot (R546, R555, R556) -/

/-- TRC_LOG_READ. -/
def execTrcLogRead (agent : Nat) (val : Word) (s : State) : Answer := runWrite agent Reg.TRC_LOG_READ (withBits val 0) s

/-- TRC_OBJ_READ. -/
def execTrcObjRead (agent : Nat) (val : Word) (s : State) : Answer := runWrite agent Reg.TRC_OBJ_READ (withBits val 0) s

/-- TRC_SNAP_GO. -/
def execTrcSnapGo (agent : Nat) (val : Word) (s : State) : Answer := runWrite agent Reg.TRC_SNAP_CTL (withBits val 1) s

end Sys2Proof.Machine
end

