-- ==== Sys2Proof/Machine/TanRows.lean ====
section
/-! DEFINITION. The events of the tandem ports (R436 to R462): training, flits, pairing, alignment, groups, migration and what a
peer's messages do. -/
namespace Sys2Proof.Machine
open Sys2Proof

/-! ### Ports -/

/-- Port `p` of a part that has the tandem die is in a state for which `f` holds. -/
def State.portIn (s : State) (p : Nat) (f : TanPort → Bool) : Bool := s.part.variant.tandem && Nat.blt p 2 && f (s.tport p)

/-- A port that is LINKED or UP. -/
def TanPort.linked (x : TanPort) : Bool := if x.st = .linked ∨ x.st = .up then true else false

/-- A port that is UP. -/
def TanPort.isUp (x : TanPort) : Bool := if x.st = .up then true else false

/-- A port that looks for a partner. -/
def TanPort.detects (x : TanPort) : Bool := if x.st = .detect then true else false

/-- A port in TRAIN that has, or has not, fixed the flit boundary. -/
def TanPort.trains (x : TanPort) (aligned : Bool) : Bool := if x.st = .train ∧ x.aligned = aligned then true else false

/-- TAN_PARTNER_DETECT: TRAIN begins. -/
def execTanPartnerDetect (port : Nat) (s : State) : Answer :=
  runCmdIf (fun s => s.portIn port TanPort.detects) (fun s => s.portTo port .train) s

/-- DETECT ends without a partner (Table 15-1). -/
def State.noPartner (s : State) (p : Nat) : State := (s.portDown p .noPartner).raiseBit (0x020 + p) 4

/-- TAN_DETECT_TIMEOUT, 10 ms after DETECT began. -/
def execTanDetectTimeout (port : Nat) (s : State) : Answer :=
  runCmdAt (fun s => (s.tport port).since + 10_000) (fun s => s.portIn port TanPort.detects) (fun s => s.noPartner port) s

/-- TAN_TRAIN_ALIGN: `lanes` hold bit lock. A narrowing port finds it on the lanes that it keeps. -/
def execTanTrainAlign (port lanes : Nat) (s : State) : Answer :=
  runCmdIf (fun s => lanes ≠ 0 && s.portIn port fun x => x.trains false
      || ((if x.st = .degrading then true else false) && Nat.land lanes x.lanes = x.lanes))
    (fun s => s.aligned port lanes) s

/-- HELLO from the partner, with its identity, chip, port, width, credits, tick length code and recorded peer. -/
def execHello (port id chip peerPort maxWidth credits0 credits1 tickLen recorded : Nat) (s : State) : Answer :=
  runCmdIf (fun s => s.portIn port fun x => x.trains true)
    (fun s => s.hello port id chip peerPort maxWidth credits0 credits1 tickLen recorded) s

/-- TAN_LANE_LOSS: `lanes` have lost bit lock, one in use among them. -/
def execTanLaneLoss (port lanes : Nat) (s : State) : Answer :=
  runCmdIf (fun s => s.portIn port fun x => (x.linked || (if x.st = .degrading then true else false)) && Nat.land lanes x.lanes ≠ 0)
    (fun s => s.narrow port ((s.tport port).locked - Nat.land (s.tport port).locked lanes)) s

/-! ### Flits -/

/-- TAN_FLIT_RECEIVE: the link layer's part; what the flit's message does is the message's own command. -/
def execTanFlitReceive (port : Nat) (flit : List Byte) (s : State) : Answer :=
  runCmdIf (fun s => s.portIn port TanPort.carries) (fun s => s.flitReceive port flit) s

/-- TAN_REPLAY_TIMEOUT: 2 µs without an acknowledgement. -/
def execTanReplayTimeout (port : Nat) (s : State) : Answer :=
  runCmdAt (fun s => (s.tport port).ackAt + 2) (fun s => s.portIn port fun x => x.carries && x.unacked ≠ [])
    (fun s => s.replayStep port) s

/-- TAN_NAK: the flits up to `ack` have arrived, and the rest goes again. -/
def execTanNak (port ack : Nat) (s : State) : Answer :=
  runCmdIf (fun s => s.portIn port TanPort.carries) (fun s => (s.acked port (ack % 4096)).replayStep port) s

/-! ### Pairing -/

/-- PAIR_REQ. -/
def execPairReq (port own peer : Nat) (s : State) : Answer :=
  runCmdIf (fun s => s.portIn port TanPort.linked) (fun s => s.pairReqArrived port own peer) s

/-- PAIR_ACK; `own` is the sender's chip number. -/
def execPairAck (port own : Nat) (s : State) : Answer :=
  runCmdIf (fun s => s.portIn port TanPort.linked && Nat.blt own 256) (fun s => s.pairAckArrived port) s

/-- The pairing on a port for which no request has come. -/
def State.stalePairing (s : State) (p : Nat) : Option Pairing := s.tan.pairing.find? fun x => x.port = p && !x.agreed

/-- A pairing that has waited too long ends. -/
def State.endPairing (s : State) (p : Nat) : State := match s.stalePairing p with
  | some x => s.failPairing x tanNoPartner
  | none => s

/-- TAN_PAIR_TIMEOUT, after 10 s. -/
def execTanPairTimeout (port : Nat) (s : State) : Answer :=
  runCmdAt (fun s => (((s.stalePairing port).map Pairing.since).getD 0) + 10_000_000) (fun s => (s.stalePairing port).isSome) (fun s => s.endPairing port) s

/-! ### Alignment -/

/-- TICK: a TICK flit, with the skew that the chip measures from its arrival. -/
def execTick (port : Nat) (number : DWord) (lenCode h w root : Nat) (skewNs : Int) (s : State) : Answer :=
  runCmdIf (fun s => s.portIn port TanPort.linked) (fun s => s.tickFlit port number lenCode h w root skewNs) s

/-- TAN_LOCK_ACHIEVED. -/
def execTanLockAchieved (s : State) : Answer := runCmdIf State.lockDue State.lockNow s

/-- TAN_LOCK_LOST: 0 for the skew, 1 for missing flits, 2 for the tick lengths. -/
def execTanLockLost (reason : Nat) (s : State) : Answer := runCmdIf (fun s => s.unlockDue reason) State.unlockNow s

/-! ### Groups -/

/-- STROKE of a group that this chip follows in. -/
def execStroke (port slot gear number : Nat) (tick : DWord) (members : List (Nat × Nat)) (s : State) : Answer :=
  runCmdIf (fun s => s.portIn port TanPort.isUp && s.grouped slot && !s.leads slot)
    (fun s => s.groupStroke port slot gear number (.stroke slot gear number tick members)) s

/-- COMMIT of a group that this chip follows in. -/
def execCommit (port slot : Nat) (tick : DWord) (s : State) : Answer :=
  runCmdIf (fun s => s.portIn port TanPort.isUp && s.grouped slot && !s.leads slot) (fun s => s.groupCommit port slot tick) s

/-- REPORT of a remote loop's E + D (R459). -/
def execReport (port slot handle ed : Nat) (s : State) : Answer :=
  runCmdIf (fun s => s.portIn port TanPort.isUp && Nat.blt slot 256)
    (fun s => { s with tan := { s.tan with remote := Tab.put s.tan.remote (port * 2 ^ 32 + handle % 2 ^ 32) ed } }) s

/-- GROUP_RESET. -/
def execGroupReset (port slot code : Nat) (s : State) : Answer :=
  runCmdIf (fun s => s.portIn port TanPort.isUp) (fun s => s.groupReset port slot code) s

/-! ### Migration -/

/-- MIG_OFFER. -/
def execMigOffer (port handle layout graph adapter mask bytes : Nat) (s : State) : Answer :=
  runCmdIf (fun s => s.portIn port TanPort.isUp) (fun s => s.migOffered port handle layout graph adapter mask bytes) s

/-- The migration that this chip has offered on a port, its state sent or not. -/
def State.offered (s : State) (p : Nat) (sent : Bool) : Option MigOut :=
  s.tan.migOut.find? fun m => m.port = p && m.started && !m.done && m.peer.isSome = sent

/-- An offered migration goes on with `f`. -/
def State.withOffer (s : State) (p : Nat) (sent : Bool) (f : State → MigOut → State) : State := match s.offered p sent with
  | some m => f s m
  | none => s

/-- MIG_ACCEPT: the state goes to the peer. -/
def execMigAccept (port handle : Nat) (s : State) : Answer :=
  runCmdIf (fun s => s.portIn port TanPort.isUp && (s.offered port false).isSome)
    (fun s => s.withOffer port false fun s m => s.sendMigration m handle) s

/-- MIG_REFUSE. -/
def execMigRefuse (port code : Nat) (s : State) : Answer :=
  runCmdIf (fun s => s.portIn port TanPort.isUp && (s.offered port false).isSome)
    (fun s => s.withOffer port false fun s m => s.failMigration m code) s

/-- The migration that arrives on a port. -/
def State.arriving (s : State) (p : Nat) : Option MigIn := s.tan.migIn.find? fun m => m.port = p

/-- MIG_DONE: the state has been sent whole. -/
def State.migComplete (s : State) (p bytes : Nat) : State := match s.arriving p with
  | some m => { s with tan := { s.tan with migIn := s.tan.migIn.map fun (x : MigIn) =>
      if x = m then { x with done := true, data := x.data.take bytes } else x } }
  | none => s

/-- MIG_DONE. -/
def execMigDone (port bytes : Nat) (s : State) : Answer :=
  runCmdIf (fun s => s.portIn port TanPort.isUp && (s.arriving port).isSome) (fun s => s.migComplete port bytes) s

/-- The migration that arrives on a port is given up. -/
def State.migDropped (s : State) (p : Nat) : State := match s.arriving p with
  | some m => (s.dropMigIn m).trace 25 p 3 m.handle
  | none => s

/-- MIG_ABANDON. -/
def execMigAbandon (port code : Nat) (s : State) : Answer :=
  runCmdIf (fun s => s.portIn port TanPort.isUp && (s.arriving port).isSome && Nat.blt code 65536) (fun s => s.migDropped port) s

/-- MIG_LATE: the time for MIG_DONE has passed. -/
def execMigLate (port : Nat) (s : State) : Answer :=
  runCmdAt State.migDeadline (fun s => (s.offered port true).isSome)
    (fun s => s.withOffer port true fun s m => s.abandonMigration m tanLate) s

/-! ### Data -/

/-- XFER: migration data, or input that follows a migration. -/
def execXfer (port num offset : Nat) (data : List Byte) (s : State) : Answer :=
  runCmdIf (fun s => s.portIn port TanPort.isUp && Nat.blt num 65536) (fun s => s.xferArrived port offset data) s

/-- A loop of a group has a stroke in flight. -/
def State.groupWorks (s : State) : Bool := s.prts.any fun x => x.2.stroke.isSome && s.grouped x.2.slot

/-- COLL: a piece of a collective operation's data, which is counted with its first piece (DEDUCED from R456, assumption 41); what the
operation computes is in the stroke's results. -/
def execColl (port num offset : Nat) (data : List Byte) (s : State) : Answer :=
  runCmdIf (fun s => s.portIn port TanPort.isUp && s.groupWorks && Nat.blt num 65536 && Nat.ble data.length 236)
    (fun s => if offset = 0 then s.count Reg.TAN_COLL_OPS 1 else s) s

/-- ACT: handoff items from a producer on the peer. -/
def execAct (port num : Nat) (tags : List Nat) (data : List Byte) (s : State) : Answer :=
  runCmdIf (fun s => s.portIn port TanPort.isUp) (fun s => s.actArrived port num tags data) s

end Sys2Proof.Machine
end

