-- ==== Sys2Proof/Machine/Dispatch.lean ====
section
/-! DEFINITION. The meaning of every command: one arm for each constructor of `Instr`, each a call of the command's own
definition. -/
namespace Sys2Proof.Machine
open Sys2Proof

/-- The effect of a command on everything but the queue (the rows of the opcode table). -/
def exec (i : Instr) (s : State) : Host.Outcome State Fault Refusal :=
  match i with
  | .vinRise => Sys2Proof.Machine.execVinRise s
  | .vinLoss => Sys2Proof.Machine.execVinLoss s
  | .resetNPulse lowUs => Sys2Proof.Machine.execResetNPulse lowUs s
  | .coldReset b => Sys2Proof.Machine.execColdReset b s
  | .islandStartupTests failed => Sys2Proof.Machine.execIslandStartupTests failed s
  | .fwBankSelect => Sys2Proof.Machine.execFwBankSelect s
  | .bootWaitDriver => Sys2Proof.Machine.execBootWaitDriver s
  | .deviceReset b => Sys2Proof.Machine.execDeviceReset b s
  | .rstCtlDeviceReset agent val => Sys2Proof.Machine.execRstCtlDeviceReset agent val s
  | .tickEdge a uJ => Sys2Proof.Machine.execTickEdge a uJ s
  | .routerFrameEdge a => Sys2Proof.Machine.execRouterFrameEdge a s
  | .sinkDecisionPoint sink => Sys2Proof.Machine.execSinkDecisionPoint sink s
  | .sinkUnderrun sink => Sys2Proof.Machine.execSinkUnderrun sink s
  | .sinkOverrun sink => Sys2Proof.Machine.execSinkOverrun sink s
  | .pcmFrame port dir bits => Sys2Proof.Machine.execPcmFrame port dir bits s
  | .pcmRateMeasure port dir rate => Sys2Proof.Machine.execPcmRateMeasure port dir rate s
  | .pcmClockLost port dir => Sys2Proof.Machine.execPcmClockLost port dir s
  | .pcmClockReturn port dir => Sys2Proof.Machine.execPcmClockReturn port dir s
  | .tickSourceLost => Sys2Proof.Machine.execTickSourceLost s
  | .audioPortFail page stalled => Sys2Proof.Machine.execAudioPortFail page stalled s
  | .refLost => Sys2Proof.Machine.execRefLost s
  | .thmSample readings => Sys2Proof.Machine.execThmSample readings s
  | .vinSample mv => Sys2Proof.Machine.execVinSample mv s
  | .headwindPowerDecay => Sys2Proof.Machine.execHeadwindPowerDecay s
  | .headwindThermalDecay => Sys2Proof.Machine.execHeadwindThermalDecay s
  | .dvfsCapLower => Sys2Proof.Machine.execDvfsCapLower s
  | .dvfsCapRaise => Sys2Proof.Machine.execDvfsCapRaise s
  | .pwrStateRequest agent val => Sys2Proof.Machine.execPwrStateRequest agent val s
  | .powerTransitionDone => Sys2Proof.Machine.execPowerTransitionDone s
  | .hostAccessInAon agent off be val => Sys2Proof.Machine.execHostAccessInAon agent off be val s
  | .aonTimerExpire => Sys2Proof.Machine.execAonTimerExpire s
  | .tandemSbWake port => Sys2Proof.Machine.execTandemSbWake port s
  | .tickCtlWrite agent val => Sys2Proof.Machine.execTickCtlWrite agent val s
  | .presencePress => Sys2Proof.Machine.execPresencePress s
  | .presenceWindowExpire => Sys2Proof.Machine.execPresenceWindowExpire s
  | .prsCtlClose agent val => Sys2Proof.Machine.execPrsCtlClose agent val s
  | .hdrClaimClaim agent page => Sys2Proof.Machine.execHdrClaimClaim agent page s
  | .hdrClaimCommit agent page => Sys2Proof.Machine.execHdrClaimCommit agent page s
  | .hdrClaimAbandon agent page => Sys2Proof.Machine.execHdrClaimAbandon agent page s
  | .claimExpire page => Sys2Proof.Machine.execClaimExpire page s
  | .hdrIntStatusClear agent page val => Sys2Proof.Machine.execHdrIntStatusClear agent page val s
  | .hdrIntEnableWrite agent page val => Sys2Proof.Machine.execHdrIntEnableWrite agent page val s
  | .hdrIntSet agent page val => Sys2Proof.Machine.execHdrIntSet agent page val s
  | .hdrErrClear agent page val => Sys2Proof.Machine.execHdrErrClear agent page val s
  | .registerWrite agent off be val => Sys2Proof.Machine.execRegisterWrite agent off be val s
  | .counterClear agent off val => Sys2Proof.Machine.execCounterClear agent off val s
  | .hubRestartRequest agent hub val => Sys2Proof.Machine.execHubRestartRequest agent hub val s
  | .hubWatchdogExpire hub torn => Sys2Proof.Machine.execHubWatchdogExpire hub torn s
  | .hubFault hub torn => Sys2Proof.Machine.execHubFault hub torn s
  | .hubRestartDone hub => Sys2Proof.Machine.execHubRestartDone hub s
  | .hubRestartTimeout hub digestFail => Sys2Proof.Machine.execHubRestartTimeout hub digestFail s
  | .pageHubHoldTimeout => Sys2Proof.Machine.execPageHubHoldTimeout s
  | .hubIfaceOffer agent val => Sys2Proof.Machine.execHubIfaceOffer agent val s
  | .fwOpWrite agent val image stored => Sys2Proof.Machine.execFwOpWrite agent val image stored s
  | .fwOpRollback agent val => Sys2Proof.Machine.execFwOpRollback agent val s
  | .fwOpConfirm agent val => Sys2Proof.Machine.execFwOpConfirm agent val s
  | .fwOpRecoveryRun agent val image => Sys2Proof.Machine.execFwOpRecoveryRun agent val image s
  | .fwOpReset agent val => Sys2Proof.Machine.execFwOpReset agent val s
  | .fwOpInvalid agent val => Sys2Proof.Machine.execFwOpInvalid agent val s
  | .fwOpDone => Sys2Proof.Machine.execFwOpDone s
  | .retrainDue chan => Sys2Proof.Machine.execRetrainDue chan s
  | .retrainWindowDone chan pass => Sys2Proof.Machine.execRetrainWindowDone chan pass s
  | .patrolScrub chan gran corrected => Sys2Proof.Machine.execPatrolScrub chan gran corrected s
  | .eccReadError chan addr kind => Sys2Proof.Machine.execEccReadError chan addr kind s
  | .spokeRehome chan => Sys2Proof.Machine.execSpokeRehome chan s
  | .sramError spoke offset corrected => Sys2Proof.Machine.execSramError spoke offset corrected s
  | .residueMismatch spoke => Sys2Proof.Machine.execResidueMismatch spoke s
  | .rimCheckFail spoke prt again => Sys2Proof.Machine.execRimCheckFail spoke prt again s
  | .partitionResetCleared prt => Sys2Proof.Machine.execPartitionResetCleared prt s
  | .partitionRebuild row spareGood => Sys2Proof.Machine.execPartitionRebuild row spareGood s
  | .prtBuildDone prt => Sys2Proof.Machine.execPrtBuildDone prt s
  | .strokeEnd prt => Sys2Proof.Machine.execStrokeEnd prt s
  | .handoffArrival producer consumer => Sys2Proof.Machine.execHandoffArrival producer consumer s
  | .pannierDigestCheck prt layer match_ => Sys2Proof.Machine.execPannierDigestCheck prt layer match_ s
  | .pannierStarveAbandon prt => Sys2Proof.Machine.execPannierStarveAbandon prt s
  | .kvSpillDone seq tensor ring => Sys2Proof.Machine.execKvSpillDone seq tensor ring s
  | .kvPrefetchDone seq tensor ring good => Sys2Proof.Machine.execKvPrefetchDone seq tensor ring good s
  | .descriptorFetch rider ring batch => Sys2Proof.Machine.execDescriptorFetch rider ring batch s
  | .rdrSqTail agent rider ring val => Sys2Proof.Machine.execRdrSqTail agent rider ring val s
  | .rdrCqHead agent rider ring val => Sys2Proof.Machine.execRdrCqHead agent rider ring val s
  | .nop rider ring d => Sys2Proof.Machine.execNop rider ring d s
  | .jnlMark rider ring d => Sys2Proof.Machine.execJnlMark rider ring d s
  | .outRebind rider ring d => Sys2Proof.Machine.execOutRebind rider ring d s
  | .casLoad rider ring d => Sys2Proof.Machine.execCasLoad rider ring d s
  | .casEvict rider ring d => Sys2Proof.Machine.execCasEvict rider ring d s
  | .casReplace rider ring d => Sys2Proof.Machine.execCasReplace rider ring d s
  | .adpLoad rider ring d => Sys2Proof.Machine.execAdpLoad rider ring d s
  | .adpUnload rider ring d => Sys2Proof.Machine.execAdpUnload rider ring d s
  | .imageHeaderArrived order bytes => Sys2Proof.Machine.execImageHeaderArrived order bytes s
  | .imageTablesArrived order bytes => Sys2Proof.Machine.execImageTablesArrived order bytes s
  | .imageLastByte order bytes => Sys2Proof.Machine.execImageLastByte order bytes s
  | .prtBuild rider ring d => Sys2Proof.Machine.execPrtBuild rider ring d s
  | .prtDiscard rider ring d => Sys2Proof.Machine.execPrtDiscard rider ring d s
  | .strOpen rider ring d => Sys2Proof.Machine.execStrOpen rider ring d s
  | .strClose rider ring d => Sys2Proof.Machine.execStrClose rider ring d s
  | .strExport rider ring d => Sys2Proof.Machine.execStrExport rider ring d s
  | .strExportWritten order => Sys2Proof.Machine.execStrExportWritten order s
  | .strImportDone handle blob => Sys2Proof.Machine.execStrImportDone handle blob s
  | .seqSubmit rider ring d => Sys2Proof.Machine.execSeqSubmit rider ring d s
  | .seqAppend rider ring d => Sys2Proof.Machine.execSeqAppend rider ring d s
  | .seqCancel rider ring d => Sys2Proof.Machine.execSeqCancel rider ring d s
  | .lnkAudSet rider ring d => Sys2Proof.Machine.execLnkAudSet rider ring d s
  | .tanPair rider ring d => Sys2Proof.Machine.execTanPair rider ring d s
  | .migrate rider ring d => Sys2Proof.Machine.execMigrate rider ring d s
  | .jnlErase rider ring d => Sys2Proof.Machine.execJnlErase rider ring d s
  | .sigPolicy rider ring d => Sys2Proof.Machine.execSigPolicy rider ring d s
  | .privPolicy rider ring d => Sys2Proof.Machine.execPrivPolicy rider ring d s
  | .debugUnlock rider ring d => Sys2Proof.Machine.execDebugUnlock rider ring d s
  | .sealBurn rider ring d => Sys2Proof.Machine.execSealBurn rider ring d s
  | .jnlReadIdx agent val => Sys2Proof.Machine.execJnlReadIdx agent val s
  | .jnlDumpGo agent val => Sys2Proof.Machine.execJnlDumpGo agent val s
  | .jnlDumpDone fail => Sys2Proof.Machine.execJnlDumpDone fail s
  | .strReadIdx agent val => Sys2Proof.Machine.execStrReadIdx agent val s
  | .kvcSeqReadIdx agent val => Sys2Proof.Machine.execKvcSeqReadIdx agent val s
  | .rdrCtlReset agent rider val => Sys2Proof.Machine.execRdrCtlReset agent rider val s
  | .functionLevelReset fn => Sys2Proof.Machine.execFunctionLevelReset fn s
  | .vfEnableClear => Sys2Proof.Machine.execVfEnableClear s
  | .riderResetEnd rider => Sys2Proof.Machine.execRiderResetEnd rider s
  | .hostLinkReset cause => Sys2Proof.Machine.execHostLinkReset cause s
  | .linkUp width rate => Sys2Proof.Machine.execLinkUp width rate s
  | .linkWidthSpeedChange width rate => Sys2Proof.Machine.execLinkWidthSpeedChange width rate s
  | .dmaFailure rider kind t => Sys2Proof.Machine.execDmaFailure rider kind t s
  | .deliveryHoldEnd rider => Sys2Proof.Machine.execDeliveryHoldEnd rider s
  | .msixSend rider vec => Sys2Proof.Machine.execMsixSend rider vec s
  | .l1IdleEntry => Sys2Proof.Machine.execL1IdleEntry s
  | .tanPortRetrain agent port val => Sys2Proof.Machine.execTanPortRetrain agent port val s
  | .tanPortUnpair agent port val => Sys2Proof.Machine.execTanPortUnpair agent port val s
  | .tanPortWakePeer agent port val => Sys2Proof.Machine.execTanPortWakePeer agent port val s
  | .tanDetectTimeout port => Sys2Proof.Machine.execTanDetectTimeout port s
  | .tanTrainAlign port lanes => Sys2Proof.Machine.execTanTrainAlign port lanes s
  | .hello port id chip peerPort maxWidth credits0 credits1 tickLen recorded => Sys2Proof.Machine.execHello port id chip peerPort maxWidth credits0 credits1 tickLen recorded s
  | .tanLaneLoss port lanes => Sys2Proof.Machine.execTanLaneLoss port lanes s
  | .tanFlitReceive port flit => Sys2Proof.Machine.execTanFlitReceive port flit s
  | .tanReplayTimeout port => Sys2Proof.Machine.execTanReplayTimeout port s
  | .tanNak port ack => Sys2Proof.Machine.execTanNak port ack s
  | .pairReq port own peer => Sys2Proof.Machine.execPairReq port own peer s
  | .pairAck port own => Sys2Proof.Machine.execPairAck port own s
  | .tanPairTimeout port => Sys2Proof.Machine.execTanPairTimeout port s
  | .tick port number lenCode h w root skewNs => Sys2Proof.Machine.execTick port number lenCode h w root skewNs s
  | .tanLockAchieved => Sys2Proof.Machine.execTanLockAchieved s
  | .tanLockLost reason => Sys2Proof.Machine.execTanLockLost reason s
  | .stroke port slot gear number tick members => Sys2Proof.Machine.execStroke port slot gear number tick members s
  | .commit port slot tick => Sys2Proof.Machine.execCommit port slot tick s
  | .report port slot handle ed => Sys2Proof.Machine.execReport port slot handle ed s
  | .groupReset port slot code => Sys2Proof.Machine.execGroupReset port slot code s
  | .migOffer port handle layout graph adapter mask bytes => Sys2Proof.Machine.execMigOffer port handle layout graph adapter mask bytes s
  | .migAccept port handle => Sys2Proof.Machine.execMigAccept port handle s
  | .migRefuse port code => Sys2Proof.Machine.execMigRefuse port code s
  | .migDone port bytes => Sys2Proof.Machine.execMigDone port bytes s
  | .migAbandon port code => Sys2Proof.Machine.execMigAbandon port code s
  | .migLate port => Sys2Proof.Machine.execMigLate port s
  | .xfer port num offset data => Sys2Proof.Machine.execXfer port num offset data s
  | .coll port num offset data => Sys2Proof.Machine.execColl port num offset data s
  | .act port num tags data => Sys2Proof.Machine.execAct port num tags data s
  | .safCtlForce agent val => Sys2Proof.Machine.execSafCtlForce agent val s
  | .safCtlRelease agent val => Sys2Proof.Machine.execSafCtlRelease agent val s
  | .safCtlStore agent val => Sys2Proof.Machine.execSafCtlStore agent val s
  | .lockstepMismatch => Sys2Proof.Machine.execLockstepMismatch s
  | .periodicSelfTest failed => Sys2Proof.Machine.execPeriodicSelfTest failed s
  | .ceilingExceedance output => Sys2Proof.Machine.execCeilingExceedance output s
  | .ceilingLongEval output => Sys2Proof.Machine.execCeilingLongEval output s
  | .muteCheckFail output => Sys2Proof.Machine.execMuteCheckFail output s
  | .safCeilClear agent output val => Sys2Proof.Machine.execSafCeilClear agent output val s
  | .lampSenseSample current mv => Sys2Proof.Machine.execLampSenseSample current mv s
  | .lampOffCheck mv => Sys2Proof.Machine.execLampOffCheck mv s
  | .gateCheckFail input => Sys2Proof.Machine.execGateCheckFail input s
  | .safPrivClear agent val => Sys2Proof.Machine.execSafPrivClear agent val s
  | .islandThermalSample quarters => Sys2Proof.Machine.execIslandThermalSample quarters s
  | .islandThermalClear => Sys2Proof.Machine.execIslandThermalClear s
  | .islandSensorCompare => Sys2Proof.Machine.execIslandSensorCompare s
  | .safTestCeiling agent val => Sys2Proof.Machine.execSafTestCeiling agent val s
  | .safTestTag agent val => Sys2Proof.Machine.execSafTestTag agent val s
  | .safTestLamp agent val => Sys2Proof.Machine.execSafTestLamp agent val s
  | .trcLogRead agent val => Sys2Proof.Machine.execTrcLogRead agent val s
  | .trcObjRead agent val => Sys2Proof.Machine.execTrcObjRead agent val s
  | .trcSnapGo agent val => Sys2Proof.Machine.execTrcSnapGo agent val s
  | .trcSnapDone fail => Sys2Proof.Machine.execTrcSnapDone fail s
  | .traceRecord => Sys2Proof.Machine.execTraceRecord s
  | .traceStagingDrain => Sys2Proof.Machine.execTraceStagingDrain s
  | .configSpaceWrite fn field => Sys2Proof.Machine.execConfigSpaceWrite fn field s
  | .msixTableWrite fn vec addr data masked => Sys2Proof.Machine.execMsixTableWrite fn vec addr data masked s
  | .perstNDeassert => Sys2Proof.Machine.execPerstNDeassert s
  | .presNRelease => Sys2Proof.Machine.execPresNRelease s
  | .tanPartnerDetect port => Sys2Proof.Machine.execTanPartnerDetect port s

end Sys2Proof.Machine
end

