-- ==== Sys2Proof/Safety.lean ====
section
/-! DEFINITION. The terms in which claims are stated: a run that goes on, a command's own effect, the canonical form of the register
file, and what no event changes of a part. -/
namespace Sys2Proof
open Sys2Proof.Machine

/-- A step that does not end the run. -/
def Continues (s : State) : Prop := ∃ t, step s = .next t

/-- Command `c` answers a next state, and its own effect is `u`: the next state is `u`, settled (a group gets the strokes that begin, the
fenced commands whose turn has come are admitted, channels stand as partitions require), with the queue, the clock, the tick
number and the fuses of `s`. -/
def Does (c : Instr) (s u : State) : Prop := exec c s = .next (State.keepCmd (fun _ => u) s)

/-- As `Does`, for an event whose time the spec gives: the clock stands at `due`, or later, when the effect takes place. -/
def DoesBy (c : Instr) (s : State) (due : Nat) (u : State) : Prop :=
  exec c s = .next (State.keepCmd (fun _ => u) (s.waitTo due))

/-- Nothing follows the effect `u` of a command: no command is fenced, no stroke begins, and every channel stands as the power state
and the partitions require. -/
structure Calm (s u : State) : Prop where
  fence : ∀ c ∈ u.link.cmds, c.stage ≠ .fenced
  stroke : ∀ x ∈ u.prts, ∀ a, x.2.stroke = some a → ∃ b, (s.prt x.1).bind Prt.stroke = some b ∧ a.start = b.start ∧ a.number = b.number
  chan : ∀ n, n < u.chanCount → (u.chan n).survives = true →
    (u.chan n).st = if u.channelOn n then .active else .selfRefresh

/-- The register file is in canonical form: offsets strictly rising, and no entry equal to what its register reads at reset. -/
abbrev RegsCanonical (s : State) : Prop :=
  s.regs.vals.Pairwise (fun x y => x.1 < y.1) ∧ ∀ x ∈ s.regs.vals, x.2 ≠ resetWord s.part.variant x.1

/-- The rows that are a write of registers by an agent. -/
def isWrite : Instr → Bool
  | .counterClear _ _ _ | .hubRestartRequest _ _ _ | .rstCtlDeviceReset _ _ | .pwrStateRequest _ _ | .tickCtlWrite _ _
  | .prsCtlClose _ _ | .hdrClaimClaim _ _ | .hdrClaimCommit _ _ | .hdrClaimAbandon _ _ | .hdrIntStatusClear _ _ _
  | .hdrIntEnableWrite _ _ _ | .hdrIntSet _ _ _ | .hdrErrClear _ _ _ | .registerWrite _ _ _ _ | .hubIfaceOffer _ _
  | .fwOpWrite _ _ _ _ | .fwOpRollback _ _ | .fwOpConfirm _ _ | .fwOpRecoveryRun _ _ _ | .fwOpReset _ _ | .fwOpInvalid _ _
  | .rdrSqTail _ _ _ _ | .rdrCqHead _ _ _ _ | .jnlReadIdx _ _ | .jnlDumpGo _ _ | .strReadIdx _ _ | .kvcSeqReadIdx _ _
  | .rdrCtlReset _ _ _ | .tanPortRetrain _ _ _ | .tanPortUnpair _ _ _ | .tanPortWakePeer _ _ _ | .safCtlForce _ _
  | .safCtlRelease _ _ | .safCtlStore _ _ | .safCeilClear _ _ _ | .safPrivClear _ _ | .safTestCeiling _ _ | .safTestTag _ _
  | .safTestLamp _ _ | .trcLogRead _ _ | .trcObjRead _ _ | .trcSnapGo _ _ => true
  | _ => false

/-- The control side of the block, which the work of riders and of the memories leaves as it is. -/
structure Fixed where
  pending : List Instr
  now : Nat
  part : Part
  tick : TickGen
  pwr : Power
  gov : Governor
  sensors : List (Nat × Sensor)
  hubs : List (Nat × Hub)
  boot : Boot
  window : Option Window
  debug : Bool
  isl : Island

/-- The control side of a state; of boot, without the progress of a firmware store operation. -/
def Machine.State.fixed (s : State) : Fixed :=
  ⟨s.pending, s.now, s.part, s.tick, s.pwr, s.gov, s.sensors, s.hubs, { s.boot with op := none }, s.window, s.debug, s.isl⟩

/-- From `s` to `u` the 32-bit counter at `off` counts `n` events, and stops at its maximum (R117). -/
def Counts (s u : State) (off n : Nat) : Prop := (u.rd off).toNat = min (2 ^ 32 - 1) ((s.rd off).toNat + n)

/-- From `s` to `u` cause `c` of the kickstand arises, and no other arises or clears. -/
def Kicks (s u : State) (c : Nat) : Prop := ∀ i, u.kickCauses.testBit i = (s.kickCauses.testBit i || i = c)

/-- The block stands in cold reset (R131): boot at stage 0, the tick not begun, no work of any rider, and the part is that of `s`. -/
structure InColdReset (s t : State) : Prop where
  part : t.part = s.part
  stage : t.boot.stage = 0
  fw : t.boot.fw = .booting
  tick : t.tick.running = false ∧ t.tick.number = 0
  slots : t.slots = []
  prts : t.prts = []
  streams : t.streams = []
  seqs : t.seqs = []
  cmds : t.link.cmds = []
  window : t.window = none
  claims : t.regs.claims = []

/-- The governor's components and its counts of edges lie in their ranges (R82, R85). -/
structure Governor.InRange (g : Governor) : Prop where
  power : g.hPower ≤ 12
  thermal : g.hThermal ≤ 12
  cap : g.cap ≤ 3
  low : g.lowEdges ≤ 8
  cool : g.coolEdges ≤ 8
  hot : g.hotEdges ≤ 10
  easy : g.easyEdges ≤ 100

/-- The registers whose RW fields are only stored: what is written acts on nothing else, and does not wait. -/
def onlyStores (b : Block) (o : Nat) : Bool :=
  match b with
  | .idn | .thm | .rst | .prs | .hub | .lnk | .srv | .drl | .cas | .stk | .chn | .spk => true
  | .pwr => o ≠ 0x068
  | .prt | .str | .kvc | .tanc => o ≠ 0x044
  | .clk => o ≠ 0x04C && o ≠ 0x058
  | .jnl => o ≠ 0x050
  | .trc => o ≠ 0x040 && o ≠ 0x070 && o ≠ 0x07C
  | .tan => o ≠ 0x040
  | .saf => !(0x080 ≤ o && o < 0x090)
  | .rdr => !(0x100 ≤ o && o < 0x280 && (o % 0x20 = 0x08 || o % 0x20 = 0x0C))
  | .aud | .pcm | .pdm => false

/-- The state as an access of an agent finds it: a rider's access wakes the host link from L1 (R180). -/
def woken (s : State) (agent : Nat) : State := if agent < 0x10 then s.wakeLink else s

/-- `t` differs from `s` in the register file, the host link, what has been sent and the trace unit at most. -/
def Machine.State.SameBut4 (s t : State) : Prop := t = { s with regs := t.regs, link := t.link, out := t.out, trc := t.trc }

/-- From `s` to `t` no stored register but those at `offs` changes, and nothing else of the block but the claims and waiting writes
of the register file, the interrupts of the host link, what has been sent and the trace unit. -/
def TouchesOnly (s t : State) (offs : List Nat) : Prop := State.SameBut4 s t ∧ ∀ o, o ∉ offs → t.rd o = s.rd o

/-- A write of a whole word by an agent at an offset arrives at the register there: the part is powered, the agent exists, the page
answers, may be written by the agent and exists, and no commit is being applied on it (R97 to R100, R113). -/
structure Reaches (s : State) (agent off : Nat) : Prop where
  alive : s.alive = true
  rider : agent < 0x10 → s.riderExists agent = true ∧ s.pwr.st ≠ .aon
  aligned : off % 4 = 0
  page : ∃ b inst, pageOf (off / 0x1000) = some (b, inst) ∧ s.responds b inst = true
    ∧ permitted agent b inst (off % 0x1000) true = true ∧ b.present s.part.variant inst = true
  reg : (specAt off).isSome = true
  commit : Tab.find s.regs.commits (off / 0x1000) = none

/-- As `Does`, for an effect that leaves the control side of the block as it is. -/
def Works (c : Instr) (s u : State) : Prop := Does c s u ∧ u.fixed = s.fixed

/-- The state in which the checks of a descriptor that is fetched alone are made: it has entered the order of acceptance. -/
def Machine.State.entered (s : State) (rider ring : Nat) (d : Desc) : State := (s.fetchFrom rider ring 1).enter rider ring d

/-- A descriptor fetched alone, with no fenced command waiting, passes checks 1 to 9 (R203); where it has a fence of its own, no
earlier command of its ring is open (R196). -/
structure Passes (s : State) (rider ring : Nat) (d : Desc) : Prop where
  alive : s.alive = true
  visit : s.visitOk rider ring [d] = true
  calm : ∀ c ∈ s.link.cmds, c.stage ≠ .fenced
  turn : d.flags % 2 = 1 → ∀ c ∈ s.link.cmds, c.own.rider = rider → c.own.sq = ring → c.open_ = false
  checks : (s.entered rider ring d).checks rider d = none

/-- The command that is next in acceptance order in `s` stands at a stage in `t`. -/
def NewCmdAt (s t : State) (st : CmdStage) : Prop := ∃ c ∈ t.link.cmds, c.own.order = s.link.accepted ∧ c.stage = st

/-- That command is decided; where no command of `s` has its number, its FINAL is produced with the status, the result and the
descriptor's rider and tag (R198). -/
def NewFinal (s t : State) (rider : Nat) (d : Desc) (status result : Nat) : Prop :=
  NewCmdAt s t .decided ∧ ((∀ c ∈ s.link.cmds, c.own.order ≠ s.link.accepted) → ∃ e ∈ t.link.entries,
    e.order = s.link.accepted ∧ e.kind = .final ∧ e.rider = rider ∧ e.tag = d.tag ∧ e.code = d.opcode ∧ e.status = status
    ∧ e.result = result % 2 ^ 32)

/-- What is fused into a part, and cannot be changed: its variant, die identifier, repair fuses and boot keys; the seal fuse may
be burnt and is never restored. -/
structure SameFuses (p q : Part) : Prop where
  variant : q.variant = p.variant
  dieId : q.dieId = p.dieId
  repair : q.repairFuses = p.repairFuses
  revoked : q.revoked = p.revoked
  keys : q.bootKeys = p.bootKeys
  sealed : p.sealFuse = true → q.sealFuse = true

end Sys2Proof
end

