-- ==== Sys2Proof/Certificates/Slice0/Obligations.lean ====
section
/-! DEFINITION. The statements of this model for the provers, family by family in the order of the opcode table. -/
open Sys2Proof Sys2Proof.Machine

/-- O1. With command c at the front of the queue and rest behind it, a step is the effect of c on the same state with rest as its queue.
(spec/95_what_each_step_holds.md) -/
def Obligations.StepRunsTheFront : Prop :=
  ∀ (s : State) (c : Instr) (rest : List Instr), s.pending = c :: rest → step s = exec c { s with pending := rest }

/-- O2. With an empty queue a step changes nothing but the model's clock, which goes on by one microsecond: the model's choice (assumption
1). (spec/95_what_each_step_holds.md) -/
def Obligations.IdleStepPassesAMicrosecond : Prop :=
  ∀ s : State, s.pending = [] → step s = .next { s with now := s.now + 1 }

/-- O3. At reset the part is in cold reset: the queue is empty, boot is at stage 0 in BOOTING, no hub runs, the tick generator has not
started and the tick number is 0, the host link is down, the journal is empty and gives the next entry sequence number 1 and epoch 0, no
presence window is open, no slot, partition, stream or sequence is in use, the kickstand holds KICK_N low until the start-up tests pass,
and the register file is in canonical form. (R128, R131, R19, R205, R212, R498) -/
def Obligations.ResetIsColdReset : Prop :=
  State.reset.pending = [] ∧ State.reset.boot.stage = 0 ∧ State.reset.boot.fw = .booting ∧ (∀ h, (State.reset.hub h).run = .held)
    ∧ State.reset.tick.running = false ∧ State.reset.tick.number = 0 ∧ State.reset.linkUp = false
    ∧ State.reset.jnl.pos = [] ∧ State.reset.jnl.next = 1 ∧ State.reset.jnl.epoch = 0 ∧ State.reset.window = none
    ∧ State.reset.slots = [] ∧ State.reset.prts = [] ∧ State.reset.streams = [] ∧ State.reset.seqs = []
    ∧ State.reset.isl.started = false ∧ State.reset.isl.kickRun = true ∧ RegsCanonical State.reset

/-- O4. No command is refused in any state; where a command stops, it is because the block cannot show that event then, and the part is
powered and not in factory test, unless the command is VIN_RISE of a part that is powered already. (spec/95_what_each_step_holds.md) -/
def Obligations.NoCommandIsRefused : Prop :=
  ∀ (s : State) (c : Instr), (∀ r, exec c s ≠ .refused r)
    ∧ ∀ f, exec c s = .fault f → f = .noSuchEvent ∧ (s.alive = true ∨ (c = .vinRise ∧ s.pwr.st ≠ .off))

/-- O5. Every row that is a write by an agent (a register write, a counter clear, a header or claim write, a doorbell, a control bit, a
test trigger) answers a next state in every state, whatever the agent, the offset, the byte enables and the value. (R97, R99, R100, R105,
R109) -/
def Obligations.WritesNeverStop : Prop :=
  ∀ (s : State) (c : Instr), isWrite c = true → ∃ t, exec c s = .next t

/-- O6. While the part is in OFF or in factory test, every command but VIN_RISE, VIN_LOSS and RESET_N_PULSE leaves the state as it is.
(R51, R60) -/
def Obligations.DeadPartKeepsItsState : Prop :=
  ∀ (s : State) (c : Instr), s.alive = false → c ≠ .vinRise → c ≠ .vinLoss → (∀ n, c ≠ .resetNPulse n) → exec c s = .next s

/-- O7. For every part p and every state whose part has the fuses of p, a step to a next state leaves them so: variant, die identifier,
repair fuses, revocation fuses and boot keys are those of p, and a seal fuse burnt in p stays burnt. (R48, R133, R138, R215, R444) -/
def Obligations.FusesStay : Prop :=
  ∀ (p : Part) (s t : State), SameFuses p s.part → step s = .next t → SameFuses p t.part

/-- O8. At reset the part has the fuses of a fresh part. (R48, R133) -/
def Obligations.FusesAtReset : Prop :=
  SameFuses Part.fresh State.reset.part

/-- O9. For every step from s to t: where the tick number is not that of s, the command in front was TICK_EDGE and it is one higher,
modulo 2^64, or the command was VIN_RISE, VIN_LOSS, RESET_N_PULSE or COLD_RESET and the tick number is 0. (R19, R43, R131) -/
def Obligations.TickNumberMovesByOne : Prop :=
  ∀ s t : State, step s = .next t → t.tick.number = s.tick.number
    ∨ (∃ a u rest, s.pending = .tickEdge a u :: rest ∧ t.tick.number = s.tick.number + 1)
    ∨ (∃ c rest, s.pending = c :: rest ∧ t.tick.number = 0
        ∧ (c = .vinRise ∨ c = .vinLoss ∨ (∃ n, c = .resetNPulse n) ∨ ∃ b, c = .coldReset b))

/-- O10. For every step from s to t, the queue of t is that of s without its front, and the clock of t is not before that of s.
(spec/95_what_each_step_holds.md) -/
def Obligations.QueueIsFirstInFirstOut : Prop :=
  ∀ s t : State, step s = .next t → t.pending = s.pending.tail ∧ s.now ≤ t.now

/-- O11. Where no command is fenced in u, no stroke begins in u that was not there in s, and every channel of u stands as the power state
and the partitions require, the next state after a command whose own effect is u is u itself, with the queue, the clock, the tick number
and the fuses of s. (R196, R453, R63) -/
def Obligations.NothingFollows : Prop :=
  ∀ s u : State, Calm s u → State.keepCmd (fun _ => u) s =
    { u with pending := s.pending, now := s.now, tick := { u.tick with number := s.tick.number },
             part := { u.part with variant := s.part.variant, sealFuse := s.part.sealFuse || u.part.sealFuse,
                                   repairFuses := s.part.repairFuses, revoked := s.part.revoked, dieId := s.part.dieId,
                                   bootKeys := s.part.bootKeys } }

/-- O12. A write that arrives at the header of a page: HDR_INT_STATUS loses the bits written 1; HDR_INT_ENABLE takes the word's
implemented bits; HDR_INT_SET sets the matching implemented bits of HDR_INT_STATUS; writing HDR_ERR.valid clears HDR_ERR and HDR_ERR_ADDR.
No other stored register changes, and nothing of the block but interrupts. A claim on the page, of whatever agent, makes no difference.
(R101, R114, R122, R123) -/
def Obligations.HeaderWritesTakeEffect : Prop :=
  ∀ (s : State) (agent page : Nat) (val : Word) (b : Block) (inst : Nat), pageOf page = some (b, inst) →
    (Reaches s agent (hdrOff page 0x010) → ∃ u, Does (.hdrIntStatusClear agent page val) s u
      ∧ u.rd (hdrOff page 0x010) = (woken s agent).rd (hdrOff page 0x010) &&& ~~~val
      ∧ TouchesOnly (woken s agent) u [hdrOff page 0x010])
    ∧ (Reaches s agent (hdrOff page 0x014) → ∃ u, Does (.hdrIntEnableWrite agent page val) s u
      ∧ u.rd (hdrOff page 0x014) = val &&& BitVec.ofNat 32 (intMask b inst)
      ∧ TouchesOnly (woken s agent) u [hdrOff page 0x014])
    ∧ (Reaches s agent (hdrOff page 0x018) → ∃ u, Does (.hdrIntSet agent page val) s u
      ∧ u.rd (hdrOff page 0x010) = (woken s agent).rd (hdrOff page 0x010) ||| (val &&& BitVec.ofNat 32 (intMask b inst))
      ∧ TouchesOnly (woken s agent) u [hdrOff page 0x010])
    ∧ (Reaches s agent (hdrOff page 0x01C) → ∃ u, Does (.hdrErrClear agent page val) s u
      ∧ u.rd (hdrOff page 0x01C) = 0 ∧ u.rd (hdrOff page 0x020) = 0
      ∧ TouchesOnly (woken s agent) u [hdrOff page 0x01C, hdrOff page 0x020])

/-- O13. On a claimable page with no claim, a claim is granted to the agent with an empty shadow and the generation counts on. The owner's
abandon discards the claim, and no stored register changes. The owner's commit on an audio page leaves the claim and hands its shadow and
its held triggers to the commit that the next router-frame edge applies; on a page whose registers only store, a commit of one shadowed
word that is in range stores the word's RW bits. A claim whose 100 ms have passed is lost, with CLAIM_EXPIRED recorded for its owner.
Claims of other pages stand. (R111, R113, R115) -/
def Obligations.ClaimsAreGrantedAndEnded : Prop :=
  ∀ (s : State) (agent page : Nat) (b : Block) (inst : Nat), pageOf page = some (b, inst) →
    (Reaches s agent (hdrOff page 0x024) →
      (b.claimable = true → s.claimOf page = none → ∃ u, Does (.hdrClaimClaim agent page) s u
        ∧ u.claimOf page = some { owner := agent, since := s.now, shadow := [], trigger := [] }
        ∧ u.fld (hdrOff page 0x028) 8 8 = ((woken s agent).fld (hdrOff page 0x028) 8 8 + 1) % 256
        ∧ (∀ p, p ≠ page → u.claimOf p = s.claimOf p) ∧ TouchesOnly (woken s agent) u [hdrOff page 0x028])
      ∧ ∀ c, s.claimOf page = some c → c.owner = agent →
        (∃ u, Does (.hdrClaimAbandon agent page) s u ∧ u.claimOf page = none
          ∧ (∀ p, p ≠ page → u.claimOf p = s.claimOf p) ∧ TouchesOnly (woken s agent) u [])
        ∧ (b.audio = true → ∃ u, Does (.hdrClaimCommit agent page) s u ∧ u.claimOf page = none
          ∧ Tab.find u.regs.commits page = some { owner := agent, shadow := c.shadow, trigger := c.trigger, behind := [] }
          ∧ (∀ p, p ≠ page → u.claimOf p = s.claimOf p) ∧ TouchesOnly (woken s agent) u [])
        ∧ (∀ o w r, onlyStores b o = true → c.shadow = [(hdrOff page o, w)] → c.trigger = [] → 0x40 ≤ o → o < 0x1000 →
          specAt (hdrOff page o) = some r → r.role = .single → (woken s agent).verdict b inst o (hdrOff page o) w = .take →
          ∃ u, Does (.hdrClaimCommit agent page) s u ∧ u.claimOf page = none
            ∧ u.rd (hdrOff page o) = (woken s agent).merged b r o (hdrOff page o) w
            ∧ TouchesOnly (woken s agent) u [hdrOff page o]))
    ∧ (∀ c, s.alive = true → s.claimOf page = some c → ∃ u, DoesBy (.claimExpire page) s (c.since + 99000) u
        ∧ u.claimOf page = none ∧ (∀ p, p ≠ page → u.claimOf p = s.claimOf p)
        ∧ u.fld (hdrOff page 0x01C) 0 16 = 0x0105 ∧ u.fld (hdrOff page 0x01C) 16 8 = c.owner % 256
        ∧ u.bit (hdrOff page 0x010) 29 = true ∧ u.bit (hdrOff page 0x010) 31 = true)

/-- O14. A whole-word write that arrives at a single register with no claim on its page, where the register only stores: in range, the RW
bits of the word are stored, every other bit stays, and no other register changes; out of range, no register but the header's error
registers and interrupt status (and the log's) changes, and HDR_ERR holds BADVAL with the agent. Under the agent's own claim the RW bits
go to the shadow, and no stored register changes; under another agent's claim the write is dropped and HDR_ERR holds CLAIM_HELD with the
agent. (R105, R109, R112, R114) -/
def Obligations.WordWritesStoreTheirFields : Prop :=
  ∀ (s : State) (agent page o : Nat) (val : DWord) (b : Block) (inst : Nat) (r : RegSpec), pageOf page = some (b, inst) → 0x40 ≤ o →
    o < 0x1000 → specAt (hdrOff page o) = some r → r.role = .single → r.rw ≠ 0 → Reaches s agent (hdrOff page o) →
    let w := woken s agent
    let v : Word := BitVec.ofNat 32 val.toNat
    (s.claimOf page = none → onlyStores b o = true → v.toNat &&& (r.w1c ||| (r.w1s ||| r.wo)) = 0 →
      (w.verdict b inst o (hdrOff page o) v = .take → ∃ u, Does (.registerWrite agent (hdrOff page o) 0xF val) s u
        ∧ u.rd (hdrOff page o) = w.merged b r o (hdrOff page o) v ∧ TouchesOnly w u [hdrOff page o])
      ∧ (w.verdict b inst o (hdrOff page o) v = .bad → ∃ u, Does (.registerWrite agent (hdrOff page o) 0xF val) s u
        ∧ u.fld (hdrOff page 0x01C) 0 16 = 0x0107 ∧ u.fld (hdrOff page 0x01C) 16 8 = agent % 256
        ∧ u.rd (hdrOff page o) = w.rd (hdrOff page o)))
    ∧ (∀ c, s.claimOf page = some c → c.owner = agent → v.toNat &&& (r.w1c ||| (r.w1s ||| r.wo)) = 0 →
      ∃ u, Does (.registerWrite agent (hdrOff page o) 0xF val) s u ∧ TouchesOnly w u []
        ∧ ∃ d x, u.claimOf page = some d ∧ d.owner = agent ∧ d.trigger = c.trigger ∧ Tab.find d.shadow (hdrOff page o) = some x
          ∧ x.toNat &&& r.rw = v.toNat &&& r.rw)
    ∧ (∀ c, s.claimOf page = some c → c.owner ≠ agent → ∃ u, Does (.registerWrite agent (hdrOff page o) 0xF val) s u
        ∧ u.fld (hdrOff page 0x01C) 0 16 = 0x0103 ∧ u.fld (hdrOff page 0x01C) 16 8 = agent % 256
        ∧ u.rd (hdrOff page o) = w.rd (hdrOff page o) ∧ u.claimOf page = some c)

/-- O15. In the state REFUSED the pages IDN, PRS, HUB[0] and JNL respond, and no other does: at every other page, its header included, a
read by any agent gives zero, and a write of up to a word by any agent changes nothing and is recorded nowhere (a rider's access wakes the
host link, as every access does). (R100) -/
def Obligations.RefusedFirmwareAnswersFourPages : Prop :=
  ∀ s : State, s.boot.fw = .refused →
    (∀ b inst, s.responds b inst = true ↔ b = .idn ∨ b = .prs ∨ b = .jnl ∨ (b = .hub ∧ inst = 0))
    ∧ ∀ (agent off : Nat) (b : Block) (inst : Nat), pageOf (off / 0x1000) = some (b, inst) → b ≠ .idn → b ≠ .prs → b ≠ .jnl →
      (b = .hub → inst ≠ 0) → s.alive = true →
      s.readReg agent off = 0
      ∧ ∀ be val, be < 16 → (agent < 0x10 → s.riderExists agent = true ∧ s.pwr.st ≠ .aon) →
        Does (.registerWrite agent off be val) s (woken s agent)

/-- O16. For a write by an agent that exists, to a page that answers: where the class of the page does not permit it, nothing of the page
changes and DENIED is recorded with the agent, in the rider's own RDR page (for a hub, in the page addressed); where it is permitted and
the page is absent or the offset reserved, nothing changes at all; where it is permitted and does not cover its register, it is dropped
and the page records ACCERR with the agent. (R97, R98, R99, R105, R109) -/
def Obligations.WritesTurnedAway : Prop :=
  ∀ (s : State) (agent page o be : Nat) (val : DWord) (b : Block) (inst : Nat), s.alive = true → agent < 256 →
    (agent < 0x10 → s.riderExists agent = true ∧ s.pwr.st ≠ .aon) → pageOf page = some (b, inst) → o < 0x1000 → 0 < be → be < 16 →
    s.responds b inst = true →
    (permitted agent b inst o true = false →
      let pg := if agent < 0x10 then 0x040 + agent else page
      ∃ u, Does (.registerWrite agent (hdrOff page o) be val) s u
        ∧ u.fld (hdrOff pg 0x01C) 0 16 = 0x0102 ∧ u.fld (hdrOff pg 0x01C) 16 8 = agent ∧ u.bit (hdrOff pg 0x01C) 31 = true
        ∧ u.rd (hdrOff pg 0x020) = BitVec.ofNat 32 (hdrOff page o % 2 ^ 21 + 2 ^ 21 + be * 2 ^ (o % 4) % 16 * 2 ^ 22)
        ∧ ∀ a, 0x40 ≤ a % 0x1000 → a / 0x1000 = page → u.rd a = (woken s agent).rd a)
    ∧ (permitted agent b inst o true = true → (b.present s.part.variant inst = false ∨ specAt (hdrOff page o / 4 * 4) = none) →
      Does (.registerWrite agent (hdrOff page o) be val) s (woken s agent))
    ∧ (permitted agent b inst o true = true → b.present s.part.variant inst = true → (specAt (hdrOff page o / 4 * 4)).isSome = true →
      (o % 4 ≠ 0 ∨ be ≠ 0xF) → ∃ u, Does (.registerWrite agent (hdrOff page o) be val) s u
        ∧ u.fld (hdrOff page 0x01C) 0 16 = 0x0101 ∧ u.fld (hdrOff page 0x01C) 16 8 = agent ∧ u.bit (hdrOff page 0x01C) 31 = true
        ∧ u.bit (hdrOff page 0x010) 31 = true
        ∧ ∀ a, 0x40 ≤ a % 0x1000 → a / 0x1000 = page → u.rd a = (woken s agent).rd a)

/-- O17. At a pair whose words only store, with no claim on its page: a 64-bit write that is in range stores both words at once, and no
other register changes; a write to _LO changes no register and is held for the writing agent alone; a write to _HI stores both words, the
_LO being what that agent holds, or else the current one. What other agents hold stays. (R106, R107) -/
def Obligations.PairsApplyTogether : Prop :=
  ∀ (s : State) (agent page o : Nat) (val : DWord) (b : Block) (inst : Nat) (r q : RegSpec), pageOf page = some (b, inst) → 0x40 ≤ o →
    o + 4 < 0x1000 → specAt (hdrOff page o) = some r → r.role = .lo → r.rw ≠ 0 → specAt (hdrOff page (o + 4)) = some q → q.role = .hi →
    q.rw ≠ 0 → onlyStores b o = true → onlyStores b (o + 4) = true → s.claimOf page = none → Reaches s agent (hdrOff page o) →
    let w := woken s agent
    let l : Word := BitVec.ofNat 32 val.toNat
    let h : Word := BitVec.ofNat 32 (val.toNat / 2 ^ 32)
    let held := (Tab.find s.regs.heldLo (agent, hdrOff page o)).getD (w.rd (hdrOff page o))
    (w.verdict b inst o (hdrOff page o) l = .take → w.verdict b inst (o + 4) (hdrOff page (o + 4)) h = .take →
      ∃ u, Does (.registerWrite agent (hdrOff page o) 0xFF val) s u
        ∧ u.rd (hdrOff page o) = w.merged b r o (hdrOff page o) l
        ∧ u.rd (hdrOff page (o + 4)) = w.merged b q (o + 4) (hdrOff page (o + 4)) h
        ∧ TouchesOnly w u [hdrOff page o, hdrOff page (o + 4)])
    ∧ (∃ u, Does (.registerWrite agent (hdrOff page o) 0xF val) s u ∧ TouchesOnly w u []
        ∧ Tab.find u.regs.heldLo (agent, hdrOff page o) = some l
        ∧ ∀ x, x ≠ (agent, hdrOff page o) → Tab.find u.regs.heldLo x = Tab.find s.regs.heldLo x)
    ∧ (w.verdict b inst o (hdrOff page o) held = .take → w.verdict b inst (o + 4) (hdrOff page (o + 4)) l = .take →
      ∃ u, Does (.registerWrite agent (hdrOff page (o + 4)) 0xF val) s u
        ∧ u.rd (hdrOff page o) = w.merged b r o (hdrOff page o) held
        ∧ u.rd (hdrOff page (o + 4)) = w.merged b q (o + 4) (hdrOff page (o + 4)) l
        ∧ TouchesOnly w u [hdrOff page o, hdrOff page (o + 4)]
        ∧ ∀ x, x.1 ≠ agent → Tab.find u.regs.heldLo x = Tab.find s.regs.heldLo x)

/-- O18. PWR_LIMIT.limit_mw is at reset the sustained maximum of the part's variant, and a write that applies leaves the written value
clamped to between 300 mW and that maximum. (R90) -/
def Obligations.PowerLimitIsClamped : Prop :=
  (∀ p : Part, (State.resetOf p).fld Reg.PWR_LIMIT 0 16 = p.variant.maxMw)
    ∧ ∀ (s : State) (agent : Nat) (val : DWord), Reaches s agent Reg.PWR_LIMIT → s.claimOf 0x001 = none →
      ∃ u, Does (.registerWrite agent Reg.PWR_LIMIT 0xF val) s u
        ∧ u.fld Reg.PWR_LIMIT 0 16 = max 300 (min s.part.variant.maxMw (val.toNat % 65536))

/-- O19. A 32-bit counter counts on by what is added and stops at its maximum, where the page's sat cause is set, and neither it nor
another register wraps or changes. A write of a block's clear register that arrives with no claim, while no hub of the page restarts,
returns to zero every counter whose bit is 1 and is implemented, and no other register changes; an event of the same cycle counts after
it, so that the counter reads 1. (R117, R118) -/
def Obligations.CountersStopAndClear : Prop :=
  (∀ (s : State) (off n : Nat), off ≠ hdrOff (off / 0x1000) 0x010 →
      ((s.count off n).rd off).toNat = min (2 ^ 32 - 1) ((s.rd off).toNat + n)
      ∧ ((s.rd off).toNat < 2 ^ 32 - 1 → 2 ^ 32 - 1 ≤ (s.rd off).toNat + n → (s.count off n).bit (hdrOff (off / 0x1000) 0x010) 30 = true)
      ∧ ∀ a, a ≠ off → a ≠ hdrOff (off / 0x1000) 0x010 → (s.count off n).rd a = s.rd a)
    ∧ ∀ (s : State) (agent page o : Nat) (val : Word) (b : Block) (inst : Nat) (r : RegSpec), pageOf page = some (b, inst) → o < 0x1000 →
      specAt (hdrOff page o) = some r → clears b o ≠ [] → Reaches s agent (hdrOff page o) → s.claimOf page = none →
      (∀ h, hubOf b inst = some h → s.restarting h = false) →
      ∃ u, Does (.counterClear agent (hdrOff page o) val) s u
        ∧ (∀ i l, (clears b o)[i]? = some l → val.toNat.testBit i = true → r.wo.testBit i = true →
            ∀ c ∈ l, u.rd (hdrOff page c) = 0 ∧ ((u.count (hdrOff page c) 1).rd (hdrOff page c)).toNat = 1)
        ∧ TouchesOnly (woken s agent) u ((clears b o).flatten.map fun c => hdrOff page c)

/-- O20. A control write that arrives with no claim, where no hub that acts on the page restarts. RST_CTL: a device reset with cause 3 is
asked for, unless one runs or is asked for. PWR_STATE_CTL: the state of the word's target field is requested now. CLK_TICK_CTL: a
selection that can stand waits for its edge and stands in the register, another is refused and leaves the register. PRS_CTL: an open
window closes, and no window opens. HUB_CTL: a running hub restarts with cause 1; a hub that does not run is left as it is. HUB_IFACE_CTL:
an offer in WAIT_DRIVER leads to RUNNING with result 1 and the lesser minor where the majors are equal, and to REFUSED with result 2 where
they differ; in BOOTING it waits. (R18, R103, R128, R143, R148, R157, R212) -/
def Obligations.ControlsTakeEffect : Prop :=
  ∀ (s : State) (agent : Nat) (val : Word),
    (Reaches s agent Reg.RST_CTL → s.claimOf 0x004 = none → s.restarting 0 = false → ∃ u, Does (.rstCtlDeviceReset agent val) s u
      ∧ u.boot.resetReq = (if s.boot.resetting ∨ s.boot.resetReq ≠ none then s.boot.resetReq else some 3)
      ∧ (s.boot.resetReq = none → s.boot.resetting = false → u.bit Reg.RST_CTL 0 = true)
      ∧ ∀ o, o ≠ Reg.RST_CTL → u.rd o = (woken s agent).rd o)
    ∧ (Reaches s agent Reg.PWR_STATE_CTL → s.claimOf 0x001 = none → s.restarting 1 = false → ∃ u, Does (.pwrStateRequest agent val) s u
      ∧ u.pwr.request = some (Word.fld val 0 3, s.now) ∧ u.bit Reg.PWR_STATE_CTL 31 = true ∧ u.pwr.st = s.pwr.st
      ∧ ∀ o, o ≠ Reg.PWR_STATE_CTL → o ≠ Reg.PWR_STATE → u.rd o = (woken s agent).rd o)
    ∧ (Reaches s agent Reg.CLK_TICK_CTL → s.claimOf 0x002 = none → s.restarting 1 = false → ∃ u, Does (.tickCtlWrite agent val) s u
      ∧ (if (woken s agent).slavedOk (Word.fld val 0 2) (Word.fld val 4 3) = true then
          u.tick = { s.tick with pend := some (Word.fld val 0 2, Word.fld val 4 3, s.now), refused := false }
          ∧ u.rd Reg.CLK_TICK_CTL = val &&& 0x73
        else u.tick = { s.tick with refused := true } ∧ u.rd Reg.CLK_TICK_CTL = s.rd Reg.CLK_TICK_CTL
          ∧ u.bit (hdrOff 0x002 0x010) 0 = true))
    ∧ (Reaches s agent Reg.PRS_CTL → s.claimOf 0x007 = none → ∃ u, Does (.prsCtlClose agent val) s u ∧ u.window = none
      ∧ (s.window ≠ none → u.bit (hdrOff 0x007 0x010) 1 = true) ∧ (s.window = none → u = woken s agent))
    ∧ (∀ hub, hub < 4 → Reaches s agent (Reg.HUB_CTL hub) → s.claimOf (0x008 + hub) = none →
      ∃ u, Does (.hubRestartRequest agent hub val) s u
        ∧ (if (s.hub hub).run = .running then (u.hub hub).run = .restarting ∧ (u.hub hub).cause = 1 ∧ (u.hub hub).since = s.now
          else u = woken s agent) ∧ ∀ h, h ≠ hub → u.hub h = s.hub h)
    ∧ (Reaches s agent Reg.HUB_IFACE_CTL → s.claimOf 0x008 = none → s.restarting 0 = false → ∃ u, Does (.hubIfaceOffer agent val) s u
      ∧ (s.boot.fw = .booting → u.boot.offer = true ∧ u.boot.fw = .booting)
      ∧ (s.boot.fw = .waitDriver → s.fld Reg.HUB_IFACE_DRIVER 16 16 = fwMajor s.boot.image →
          u.boot.fw = .running ∧ u.fld Reg.HUB_IFACE_CTL 4 2 = 1
          ∧ u.fld Reg.HUB_IFACE_CTL 16 16 = min (s.fld Reg.HUB_IFACE_DRIVER 0 16) (fwMinor s.boot.image) % 65536)
      ∧ (s.boot.fw = .waitDriver → s.fld Reg.HUB_IFACE_DRIVER 16 16 ≠ fwMajor s.boot.image →
          u.boot.fw = .refused ∧ u.fld Reg.HUB_IFACE_CTL 4 2 = 2))

/-- O21. A go that arrives while the BOOT hub does not restart and HUB[0] has no claim: an operation code that names none ends with result
0x0F, and while an operation runs every other with result 0x02, and neither starts or ends anything; with none running, and with presence
where the operation is privileged, a write starts with the image staged, a rollback starts on the STANDBY bank, a confirmation starts on
the bank booted, a recovery image starts in RECOVERY with the result its checks give, and a reset asks for a device reset with cause 4,
unless one runs or is asked for. (R153, R154, R155, R156, R141) -/
def Obligations.FirmwareOperationsStart : Prop :=
  ∀ (s : State) (agent : Nat) (val : Word) (image : Option (List Byte)) (stored : Bool), Reaches s agent Reg.HUB_FW_CTL →
    s.claimOf 0x008 = none → s.restarting 0 = false →
    (∃ u, Does (.fwOpInvalid agent val) s u ∧ u.fld Reg.HUB_FW_STATUS 8 8 = 0x0F ∧ u.boot = s.boot ∧ u.part = s.part)
    ∧ (∃ u, Does (.fwOpWrite agent val image stored) s u
        ∧ (s.boot.op ≠ none → u.boot = s.boot ∧ u.part = s.part ∧ u.fld Reg.HUB_FW_STATUS 8 8 = 0x02)
        ∧ (s.boot.op = none → s.boot.fw ≠ .booting → s.windowStatus = none → ∃ o, u.boot.op = some o ∧ o.op = 1 ∧ o.image = image.getD [])
        ∧ (s.boot.op = none → s.boot.fw ≠ .booting → s.windowStatus ≠ none → u.boot = s.boot ∧ u.part = s.part
          ∧ u.fld Reg.HUB_FW_STATUS 8 8 = 0x01))
    ∧ (∃ u, Does (.fwOpRollback agent val) s u
        ∧ (s.boot.op = none → (s.boot.fw = .running ∨ s.boot.fw = .refused) → s.windowStatus = none → ∀ i, s.part.bankIn .standby = some i →
          u.boot.op = some { op := 2, target := i, image := [], result := 0, scratch := none } ∧ u.part = s.part))
    ∧ (∃ u, Does (.fwOpConfirm agent val) s u
        ∧ (s.boot.op = none → s.boot.fw = .running → s.boot.trial = true →
          u.boot.op = some { op := 3, target := s.boot.booted, image := [], result := 0, scratch := none } ∧ u.part = s.part))
    ∧ (∃ u, Does (.fwOpRecoveryRun agent val image) s u
        ∧ (s.boot.op = none → s.boot.fw = .recovery →
          u.boot.op = some { op := 4, target := 0, image := image.getD [], result := s.imageResult image, scratch := none }
          ∧ u.part = s.part))
    ∧ (∃ u, Does (.fwOpReset agent val) s u
        ∧ (s.boot.op = none → s.boot.fw ≠ .booting → u.fld Reg.HUB_FW_STATUS 8 8 = 0
          ∧ u.boot.resetReq = (if s.boot.resetting ∨ s.boot.resetReq ≠ none then s.boot.resetReq else some 4)))

/-- O22. For a ring of a rider of which no reset runs, and a doorbell that arrives with no claim on the rider's page: a tail doorbell
whose ring is enabled, whose slot lies below the ring size, that lies at most one ring size ahead of the head and not behind the previous
tail is taken; a head doorbell whose ring is enabled, whose slot lies below the size and that lies between the current head and the tail
is taken. Any other is ignored: the register keeps its value, and the RDR page records BADVAL with the agent. (R190) -/
def Obligations.DoorbellsAreJudged : Prop :=
  ∀ (s : State) (agent n q : Nat) (val : Word), n < 16 → q < 4 → s.claimOf (0x040 + n) = none → Tab.find s.link.resetting n = none →
    (Reaches s agent (Reg.RDR_SQ_TAIL n q) →
      let size := ringSize (s.rd (Reg.RDR_SQ_CTL n q))
      let ahead := fun w => ringDist size (ringPos size (s.rd (Reg.RDR_SQ_HEAD n q))) (ringPos size w)
      ∃ u, Does (.rdrSqTail agent n q val) s u
        ∧ (if Word.bit (s.rd (Reg.RDR_SQ_CTL n q)) 8 = true ∧ Word.fld val 0 16 < size ∧ ahead val ≤ size
              ∧ ahead (s.rd (Reg.RDR_SQ_TAIL n q)) ≤ ahead val then
            u.rd (Reg.RDR_SQ_TAIL n q) = val &&& 0x1FFFF ∧ TouchesOnly (woken s agent) u [Reg.RDR_SQ_TAIL n q]
          else u.rd (Reg.RDR_SQ_TAIL n q) = s.rd (Reg.RDR_SQ_TAIL n q)
            ∧ u.fld (hdrOff (0x040 + n) 0x01C) 0 16 = 0x0107 ∧ u.fld (hdrOff (0x040 + n) 0x01C) 16 8 = agent % 256))
    ∧ (Reaches s agent (Reg.RDR_CQ_HEAD n q) →
      let size := ringSize (s.rd (Reg.RDR_CQ_CTL n q))
      let ahead := fun w => ringDist size (ringPos size (s.rd (Reg.RDR_CQ_HEAD n q))) (ringPos size w)
      ∃ u, Does (.rdrCqHead agent n q val) s u
        ∧ (if Word.bit (s.rd (Reg.RDR_CQ_CTL n q)) 16 = true ∧ Word.fld val 0 16 < size
              ∧ ahead val ≤ ahead (s.rd (Reg.RDR_CQ_TAIL n q)) then
            u.rd (Reg.RDR_CQ_HEAD n q) = val &&& 0x1FFFF ∧ TouchesOnly (woken s agent) u [Reg.RDR_CQ_HEAD n q]
          else u.rd (Reg.RDR_CQ_HEAD n q) = s.rd (Reg.RDR_CQ_HEAD n q)
            ∧ u.fld (hdrOff (0x040 + n) 0x01C) 0 16 = 0x0107 ∧ u.fld (hdrOff (0x040 + n) 0x01C) 16 8 = agent % 256))

/-- O23. A write that arrives with no claim, where no hub that acts on the page restarts: an index of the journal latches the entry at
that position, if one stands there; an index of the stream or of the sequence table puts the 32 bytes of that entry into the data words; a
log read index latches the entry of that hub's ring; an object index puts that object's eight counters into the data words. A dump starts
at the dump address unless one runs, and a snapshot is asked for unless one is. (R210, R341, R371, R546, R555, R556) -/
def Obligations.ReadWindowsLatch : Prop :=
  ∀ (s : State) (agent : Nat) (val : Word), let w := woken s agent
    (Reaches s agent Reg.JNL_READ_IDX → s.claimOf 0x006 = none → ∃ u, Does (.jnlReadIdx agent val) s u
      ∧ u.jnl = { s.jnl with latched := Tab.find s.jnl.pos (Word.fld val 0 13) } ∧ u.fld Reg.JNL_READ_IDX 0 13 = Word.fld val 0 13)
    ∧ (Reaches s agent Reg.STR_READ_IDX → s.claimOf 0x010 = none → s.restarting 1 = false → ∃ u, Does (.strReadIdx agent val) s u
      ∧ (∀ k, k < 8 → u.rd (Reg.STR_ENTRY k) = BitVec.ofNat 32 (wordOf (s.strEntry (Word.fld val 0 10)) k))
      ∧ TouchesOnly w u (Reg.STR_READ_IDX :: (List.range 8).map fun k => Reg.STR_ENTRY k))
    ∧ (Reaches s agent Reg.KVC_SEQ_READ_IDX → s.claimOf 0x011 = none → s.restarting 2 = false → ∃ u, Does (.kvcSeqReadIdx agent val) s u
      ∧ (∀ k, k < 8 → u.rd (Reg.KVC_SEQ_ENTRY k) = BitVec.ofNat 32 (wordOf (s.seqEntry (Word.fld val 0 10)) k))
      ∧ TouchesOnly w u (Reg.KVC_SEQ_READ_IDX :: (List.range 8).map fun k => Reg.KVC_SEQ_ENTRY k))
    ∧ (Reaches s agent Reg.TRC_LOG_READ → s.claimOf 0x00D = none → ∃ u, Does (.trcLogRead agent val) s u
      ∧ u.trc.latched = Tab.find (Tab.get LogRing.zero w.trc.logs (Word.fld val 0 2)).pos (Word.fld val 2 11))
    ∧ (Reaches s agent Reg.TRC_OBJ_READ → s.claimOf 0x00D = none →
      let k := Word.fld val 0 10 + (if Word.bit val 10 then 1024 else 0)
      ∃ u, Does (.trcObjRead agent val) s u ∧ u.trc.objLast = some k
        ∧ ∀ i, i < 8 → u.rd (Reg.TRC_OBJ_DATA i) = BitVec.ofNat 32 ((Tab.get (List.replicate 8 0) w.trc.objs k).getD i 0))
    ∧ (Reaches s agent Reg.JNL_DUMP_CTL → s.claimOf 0x006 = none → ∃ u, Does (.jnlDumpGo agent val) s u
      ∧ u.jnl = { s.jnl with dumping := some (s.jnl.dumping.getD (s.rd64 Reg.JNL_DUMP_ADDR_LO)) } ∧ TouchesOnly { w with jnl := u.jnl } u [])
    ∧ (Reaches s agent Reg.TRC_SNAP_CTL → s.claimOf 0x00D = none → ∃ u, Does (.trcSnapGo agent val) s u
      ∧ u.trc.snap = some (w.trc.snap.getD none) ∧ TouchesOnly w u [])

/-- O24. Where no reset of the rider runs, a reset by RDR_CTL or a function-level reset starts one now: the rider's own registers stand at
their reset values, no message or MSI-X entry of it is kept, no _LO of it is held, and no link-audio port is its. A function-level reset
also returns the function's configuration but its payload size; that of function 0, and clearing VF Enable, do so to every rider that VF
Enable made and clear it. The end of a reset raises reset_done and counts, and nothing of the rider is resetting. (R177, R178, R165, R101,
R107) -/
def Obligations.RiderResetsClearHostContext : Prop :=
  ∀ (s : State),
    (∀ (agent n : Nat) (val : Word), n < 16 → Reaches s agent (Reg.RDR_CTL n) → s.claimOf (0x040 + n) = none →
      Tab.find s.link.resetting n = none → ∃ u, Does (.rdrCtlReset agent n val) s u ∧ Tab.find u.link.resetting n = some s.now
        ∧ (∀ off, riderReg n off = true → u.rd off = resetWord u.part.variant off) ∧ (∀ v, Tab.find u.link.vecs (n, v) = none)
        ∧ (∀ v, Tab.find u.link.msix (n, v) = none) ∧ (∀ off, Tab.find u.regs.heldLo (n, off) = none)
        ∧ ∀ p ∈ u.aud.ports, p.2.owner ≠ n)
    ∧ (∀ n, s.alive = true → s.linkUp = true → s.riderExists n = true → ∃ u, Does (.functionLevelReset n) s u
        ∧ (Tab.find u.link.resetting n).isSome = true ∧ u.fn n = { FnCfg.zero with mps := (s.fn n).mps }
        ∧ (n = 0 → u.link.pf.vfEnable = false)
        ∧ (Tab.find s.link.resetting n = none → n ≠ 0 → ∀ off, riderReg n off = true → u.rd off = resetWord u.part.variant off))
    ∧ (s.alive = true → s.linkUp = true → s.link.pf.vfEnable = true → ∃ u, Does .vfEnableClear s u ∧ u.link.pf.vfEnable = false
        ∧ ∀ n, 1 ≤ n → s.riderExists n = true → (Tab.find u.link.resetting n).isSome = true
          ∧ u.fn n = { FnCfg.zero with mps := (s.fn n).mps })
    ∧ (∀ n, n < 16 → s.alive = true → s.resetOver n = true → ∃ u, DoesBy (.riderResetEnd n) s (s.resetDue n) u
        ∧ Tab.find u.link.resetting n = none ∧ Tab.find u.link.hostReset n = none ∧ Tab.find u.link.reads n = none
        ∧ ((Tab.find s.link.resetting n).isSome = true → u.bit (hdrOff (0x040 + n) 0x010) 0 = true
          ∧ Counts s u (Reg.RDR_RESETS n) 1))

/-- O25. A write of SAF_CTL.force that arrives sets cause 9 of the kickstand and no other; a write of SAF_CTL.release clears cause 9 and
nothing else of the causes in force. Neither needs a presence window: the state may hold one or not, and it stays as it is. (R504) -/
def Obligations.KickstandForceAndRelease : Prop :=
  ∀ (s : State) (agent : Nat) (val : Word), Reaches s agent Reg.SAF_CTL → s.claimOf 0x005 = none →
    (Word.bit val 1 = false → Word.bit val 2 = false → ∃ u, Does (.safCtlForce agent val) s u
      ∧ u.kickCauses = s.kickCauses ||| 2 ^ 9 ∧ u.window = s.window)
    ∧ (Word.bit val 0 = false → Word.bit val 2 = false → ∃ u, Does (.safCtlRelease agent val) s u
      ∧ (∀ i, u.kickCauses.testBit i = (s.kickCauses.testBit i && i ≠ 9)) ∧ u.window = s.window)

/-- O26. A write that arrives at the SAF page with no claim. SAF_CTL.store puts the four ceiling maxima into the store of a part that is
not sealed, and in a sealed part leaves the store and records BADVAL. SAF_CEIL_STATE.clear asks for the clear of that output alone.
SAF_PRIV.clear clears the latched fault and its kind. SAF_TEST: bit o mutes output o where it is not muted and a limit lies below +3 dBFS;
tag counts a mismatch; lamp makes the lamp read dark. (R508, R509, R512, R513, R523, R517) -/
def Obligations.SafetyRegistersAct : Prop :=
  ∀ (s : State) (agent : Nat) (val : Word), s.claimOf 0x005 = none →
    (Reaches s agent Reg.SAF_CTL → Word.bit val 0 = false → Word.bit val 1 = false → ∃ u, Does (.safCtlStore agent val) s u
      ∧ (s.part.sealFuse = false → u.part = { s.part with ceilMax := (List.range 4).map fun o => (o, s.rd (Reg.SAF_CEIL_MAX o)) }
          ∧ ∀ o, u.rd o = (woken s agent).rd o)
      ∧ (s.part.sealFuse = true → u.part = s.part ∧ u.fld (hdrOff 0x005 0x01C) 0 16 = 0x0107))
    ∧ (∀ o, o < 4 → Reaches s agent (Reg.SAF_CEIL_STATE o) → ∃ u, Does (.safCeilClear agent o val) s u
      ∧ u.pinOut o = { s.pinOut o with clear := true } ∧ (∀ k, k ≠ o → u.pinOut k = s.pinOut k)
      ∧ ∀ a, u.rd a = (woken s agent).rd a)
    ∧ (Reaches s agent Reg.SAF_PRIV → ∃ u, Does (.safPrivClear agent val) s u ∧ u.fld Reg.SAF_PRIV 2 3 = 0 ∧ u.privFault = false
      ∧ TouchesOnly (woken s agent) u [Reg.SAF_PRIV])
    ∧ (Reaches s agent Reg.SAF_TEST → Word.fld val 4 28 = 0 → ∃ u, Does (.safTestCeiling agent val) s u
      ∧ ∀ o, o < 4 → (u.pinOut o).muted = ((s.pinOut o).muted || (Word.bit val o && (s.ceiling o 0 < 12 || s.ceiling o 1 < 12))))
    ∧ (Reaches s agent Reg.SAF_TEST → ∃ u, Does (.safTestTag agent val) s u
      ∧ Counts s u Reg.SAF_TAG_MISMATCHES 1
      ∧ u.bit (hdrOff 0x005 0x010) 4 = true)
    ∧ (Reaches s agent Reg.SAF_TEST → ∃ u, Does (.safTestLamp agent val) s u ∧ u.isl.forceDark = 5)

/-- O27. A write of TAN_PORT_CTL that arrives with no claim, while the SERVE hub does not restart. Retrain of an enabled port in SERVE
takes it to DETECT with nothing of its old link. Unpair, enable staying as it was, erases the port's record, needs no presence, and takes
a port that is UP to LINKED, the cause down being raised. Wake_peer alone holds the sideband low for 2 ms. (R436, R446, R462) -/
def Obligations.TandemPortWrites : Prop :=
  ∀ (s : State) (agent p : Nat) (val : Word), p < 2 → Reaches s agent (Reg.TAN_PORT_CTL p) → s.claimOf (0x020 + p) = none →
    s.restarting 1 = false →
    (Word.fld val 5 2 = 0 → Word.bit val 0 = true → s.pwr.st = .serve → ∃ u, Does (.tanPortRetrain agent p val) s u
      ∧ (u.tport p).st = .detect ∧ u.record p = s.record p)
    ∧ (Word.bit val 0 = s.bit (Reg.TAN_PORT_CTL p) 0 → Word.bit val 4 = false → Word.bit val 6 = false →
      ∃ u, Does (.tanPortUnpair agent p val) s u ∧ u.record p = none ∧ (∀ k, k ≠ p → u.record k = s.record k)
        ∧ (u.tport p).st = (if (s.tport p).st = .up then .linked else (s.tport p).st) ∧ (u.tport p).willUp = false
        ∧ ((s.tport p).st = .up → u.bit (hdrOff (0x020 + p) 0x010) 1 = true))
    ∧ (Word.bit val 0 = s.bit (Reg.TAN_PORT_CTL p) 0 → Word.bit val 4 = false → Word.bit val 5 = false →
      ∃ u, Does (.tanPortWakePeer agent p val) s u ∧ u.tport p = { s.tport p with sbUntil := s.now + 2000 }
        ∧ ∃ l, u.out = .sideband p :: l)

/-- O28. At a decision point of a sink that runs, has started, is not in underrun and holds samples: with less than 250 µs held its oldest
sample is put out twice and a repeat is counted, with more than 750 µs held its oldest is dropped and a drop is counted, and in between
nothing happens. A sink that runs dry is in underrun, no longer started, and counts it. A sink whose buffer is full counts an overrun,
keeps its samples' number and takes no more. Other sinks keep what they hold. A router-frame edge stands 1 ms after the last, or later
where the clock is past that, and no policy waits after it. (R482, R483, R484, R485, R467) -/
def Obligations.SinksSlipAndRunDry : Prop :=
  ∀ (s : State), s.alive = true →
    (∀ j, s.sinkOn j = true → (s.sink j).under = false → (s.sink j).started = true → (s.sink j).buf ≠ [] →
      let held := (s.sink j).buf.length - (s.sink j).newest
      let rate := max 1 ((s.sinkRate j).getD 0)
      ∃ u, Does (.sinkDecisionPoint j) s u ∧ (∀ k, k ≠ j → u.sink k = s.sink k)
        ∧ (held * 1000000 < 250 * rate → (u.sink j).buf = (s.sink j).buf.headD (0, 0) :: (s.sink j).buf ∧ Counts s u (Reg.AUD_SLIP_REPEAT j) 1)
        ∧ (750 * rate < held * 1000000 → (u.sink j).buf = (s.sink j).buf.drop 1 ∧ Counts s u (Reg.AUD_SLIP_DROP j) 1)
        ∧ (250 * rate ≤ held * 1000000 → held * 1000000 ≤ 750 * rate → u = s))
    ∧ (∀ j, s.dry j = true → ∃ u, Does (.sinkUnderrun j) s u ∧ (u.sink j).under = true ∧ (u.sink j).started = false
        ∧ Counts s u (Reg.AUD_UNDERRUN j) 1)
    ∧ (∀ j, s.brim j = true → ∃ u, Does (.sinkOverrun j) s u ∧ (u.sink j).flooded = true
        ∧ (u.sink j).buf.length = (s.sink j).buf.length ∧ (∀ k, k ≠ j → u.sink k = s.sink k) ∧ Counts s u (Reg.AUD_OVERRUN j) 1)
    ∧ (∀ a, s.tick.running = true → ∃ u, DoesBy (.routerFrameEdge a) s (s.aud.lastFrame + 1000) u
        ∧ u.aud.lastFrame = max s.now (s.aud.lastFrame + 1000) ∧ u.isl.polNext = none)

/-- O29. For a slaved direction whose clock is there: a frame of its own length changes nothing and one of another length is counted; a
rate measured is shown, and the first after a restart is the reference; the loss of its clock is shown, counted and signalled. Returned
edges restart the measurement and change nothing else. A tick whose source has lost its clock falls back to REF, counted and signalled,
and keeps its number and length. A port that fails is disabled, recorded and kept as failed. (R475, R479, R480, R481, R527) -/
def Obligations.PcmDirectionsAreWatched : Prop :=
  ∀ (s : State), s.alive = true →
    (∀ p dir n, s.slaved p dir false = true →
      (∃ u, Does (.pcmFrame p dir n) s u ∧ (if n = s.frameBits p dir then u = s else Counts s u (Reg.PCM_FRAME_ERRS p) 1))
      ∧ (∃ u, Does (.pcmRateMeasure p dir n) s u ∧ (u.rd (Reg.PCM_TX_MEAS p + 0x20 * dir)).toNat = n % 2 ^ 24
          ∧ ((s.pcmClock p dir).refSet = false → (u.rd (Reg.PCM_TX_REF p + 0x20 * dir)).toNat = n % 2 ^ 24
            ∧ (u.pcmClock p dir).refSet = true))
      ∧ (∃ u, Does (.pcmClockLost p dir) s u ∧ (u.pcmClock p dir).lost = true ∧ Counts s u (Reg.PCM_CLK_LOST p) 1
          ∧ u.bit (hdrOff (0x016 + p) 0x010) (2 + dir) = true))
    ∧ (∀ p dir, s.slaved p dir true = true →
      Does (.pcmClockReturn p dir) s (s.setPcmClock p dir { s.pcmClock p dir with lost := false, refSet := false }))
    ∧ (s.sourceLost = true → ∃ u, Does .tickSourceLost s u ∧ u.tick = { s.tick with source := 0, fallback := true }
        ∧ Counts s u Reg.AUD_TICK_LOST 1 ∧ u.bit (hdrOff 0x012 0x010) 3 = true)
    ∧ (∀ pg stalled, s.mayFail pg stalled = true → ∃ u, Does (.audioPortFail pg stalled) s u ∧ u.aud.failed = pg :: s.aud.failed
        ∧ u.fld (hdrOff pg 0x01C) 0 16 = 0x0D01 ∧ u.fld (hdrOff pg 0x01C) 16 8 = 0x13
        ∧ (pg < 0x018 → u.bit (pcmCtl (pg - 0x016) 0) 0 = false ∧ u.bit (pcmCtl (pg - 0x016) 1) 0 = false)
        ∧ (0x018 ≤ pg → u.bit (Reg.PDM_CTL (pg - 0x018)) 0 = false))

/-- O30. The start-up self-tests, run once, show in SAF_STATUS whether they passed, and release the kickstand that reset began where they
did and no cause is in force. A periodic run that passes is counted and sets no cause; a failed clock test sets cause 8, a failed sensor
test cause 7 and any other failed test but the interlock's cause 1. A lockstep mismatch sets cause 2, a failed mute check of a muted
output cause 5, and a failed gate check cause 6. Four island samples in a row at or above 110 °C set cause 4; one second below 95 °C
clears it. Three comparisons in a row more than 10 °C apart set cause 7. (R501, R506, R514, R518, R519) -/
def Obligations.KickstandCausesArise : Prop :=
  ∀ (s : State), s.alive = true →
    (∀ failed, s.isl.started = false → ∃ t, exec (.islandStartupTests failed) s = .next t ∧ t.isl.started = true
      ∧ t.fld Reg.SAF_STATUS 1 2 = (if failed = 0 then 3 else 1)
      ∧ (failed = 0 → s.kickCauses = 0 → t.isl.kickRun = false ∧ t.kickCauses = 0))
    ∧ (∀ failed, s.isl.started = true → failed < 1024 → ∃ u, Does (.periodicSelfTest failed) s u
      ∧ (failed = 0 → Counts s u Reg.SAF_SELFTEST_RUNS 1 ∧ u.kickCauses = s.kickCauses)
      ∧ (failed.testBit 2 = true → u.kickCauses.testBit 8 = true) ∧ (failed.testBit 9 = true → u.kickCauses.testBit 7 = true)
      ∧ ((∃ i, failed.testBit i = true ∧ i ≠ 2 ∧ i ≠ 7 ∧ i ≠ 9) → u.kickCauses.testBit 1 = true))
    ∧ (∃ u, Does .lockstepMismatch s u ∧ Kicks s u 2)
    ∧ (∀ o, o < 4 → (s.pinOut o).muted = true → ∃ u, DoesBy (.muteCheckFail o) s ((s.pinOut o).mutedAt + 500) u ∧ Kicks s u 5)
    ∧ (∀ i, i < 16 → s.srcKind i = 1 ∨ s.srcKind i = 2 → s.srcOpen i = false → ∃ u, Does (.gateCheckFail i) s u ∧ Kicks s u 6)
    ∧ (∀ q, ∃ u, Does (.islandThermalSample q) s u
        ∧ (440 ≤ q → 3 ≤ s.isl.hot → Kicks s u 4)
        ∧ ((q < 440 ∨ s.isl.hot < 3) → u.kickCauses = s.kickCauses ∧ u.fld Reg.SAF_TEMP 0 16 = (q % 65536).toNat
          ∧ u.isl.hot = if 440 ≤ q then s.isl.hot + 1 else 0))
    ∧ (∀ from_, s.kickCauses.testBit 4 = true → s.isl.coolFrom = some from_ → ∃ u, DoesBy .islandThermalClear s (from_ + 1000000) u
        ∧ ∀ i, u.kickCauses.testBit i = (s.kickCauses.testBit i && i ≠ 4))
    ∧ (let x := Tab.get { temp := 0, valid := false, flagged := false } s.sensors 8
        let far := 40 < (s.islandQ - x.temp).natAbs
        ∃ u, Does .islandSensorCompare s u ∧ (x.valid = false → u = s) ∧ (x.valid = true → far → 2 ≤ s.isl.apart → Kicks s u 7)
          ∧ (x.valid = true → far → s.isl.apart < 2 → u.isl.apart = s.isl.apart + 1 ∧ u.kickCauses = s.kickCauses)
          ∧ (x.valid = true → ¬ far → u.isl.apart = 0 ∧ u.kickCauses = s.kickCauses))

/-- O31. A pending exceedance of an output is recorded once: the output's state shows the limit tripped and the level, and a mute is
counted. An evaluation of the long meters drops what lies more than 15,000 parts of 2 ms back, and never ends a mute. With the sink on, a
sense sample is kept, a lit one counts towards lighting and clears the dark count, and the fifth dark one in a row latches a privacy
fault; with the sink off, less than 2.5 V across the lamp latches a fault, of kind 2 if none is latched. (R505, R506, R507, R512, R513) -/
def Obligations.CeilingAndPrivacyEvents : Prop :=
  ∀ (s : State), s.alive = true →
    (∀ o which q, o < 4 → (s.pinOut o).hit = some (which, q) → which ≤ 1 → ∃ u, Does (.ceilingExceedance o) s u ∧ (u.pinOut o).hit = none
      ∧ u.rd (Reg.SAF_CEIL_STATE o) = BitVec.ofNat 32 (1 + 2 * which + (q % 65536).toNat * 2 ^ 16) ∧ Counts s u (Reg.SAF_CEIL_MUTES o) 1
      ∧ ∀ k, k ≠ o → u.pinOut k = s.pinOut k)
    ∧ (∀ o, o < 4 → ∃ u, Does (.ceilingLongEval o) s u ∧ ((s.pinOut o).muted = true → (u.pinOut o).muted = true)
      ∧ (u.pinOut o).meters = (s.pinOut o).meters.map (fun m => (m.1, { m.2 with part := 0, long := (m.2.part :: m.2.long).take 15000 }))
      ∧ ∀ k, k ≠ o → u.pinOut k = s.pinOut k)
    ∧ (∀ current mv, s.isl.sink = true → ∃ u, Does (.lampSenseSample current mv) s u ∧ u.isl.sense = mv
      ∧ (current = true → 1200 ≤ mv → mv ≤ 3600 → s.isl.forceDark = 0 → u.isl.lit = s.isl.lit + 1 ∧ u.isl.dark = 0)
      ∧ (current = false → u.isl.lit = 0 ∧ u.isl.dark = s.isl.dark + 1 ∧ (s.isl.dark = 4 → u.privFault = true)))
    ∧ (∀ mv, s.isl.sink = false → ∃ u, Does (.lampOffCheck mv) s u
      ∧ (if mv < 2500 then u.privFault = true ∧ (s.privFault = false → u.fld Reg.SAF_PRIV 3 2 = 2) else u = s))

/-- O32. In a part that is powered: a low level of 10 µs or more causes a cold reset; a pulse shorter than 1 µs changes nothing; one of 1
µs to 10 µs changes nothing but the model's count of free values, or causes that same cold reset whole. Within 100 µs of the cold reset
that RESET_N caused, nothing is counted. (R568) -/
def Obligations.ResetPulses : Prop :=
  ∀ (s : State) (lowUs : Nat), s.pwr.st ≠ .off →
    (∀ t, s.boot.resetnAt = some t → s.now < t + 100 → exec (.resetNPulse lowUs) s = .next s)
    ∧ ((∀ t, s.boot.resetnAt = some t → t + 100 ≤ s.now) →
      (10 ≤ lowUs → ∃ t, exec (.resetNPulse lowUs) s = .next t ∧ InColdReset s t ∧ t.boot.resetnAt = some s.now)
      ∧ (lowUs = 0 → exec (.resetNPulse lowUs) s = .next s)
      ∧ (1 ≤ lowUs → lowUs < 10 → exec (.resetNPulse lowUs) s = .next { s with freeCtr := s.freeCtr + 1 }
        ∨ ∃ t, exec (.resetNPulse lowUs) s = .next t ∧ InColdReset s t ∧ t.boot.resetnAt = some s.now))

/-- O33. VIN rising in OFF leaves the part in cold reset, powered, with cause 1 as the reset's; losing VIN leaves it in OFF with nothing
kept but the part. The release of a cold reset enters factory test where TEST_EN is high; stops where the reference clock is not there;
and else begins edge 0 of the tick, releases the BOOT hub and no other; where no channel fails its test, every spoke that a fuse or its
self-test maps out is marked. (R60, R48, R51, R74, R131, R133, R19) -/
def Obligations.SupplyAndColdBoot : Prop :=
  ∀ (s : State),
    (s.pwr.st = .off → ∃ t, exec .vinRise s = .next t ∧ InColdReset s t ∧ t.pwr.st = .serve ∧ t.alive = true ∧ t.boot.resetCause = 1)
    ∧ (∃ t, exec .vinLoss s = .next t ∧ t.pwr.st = .off ∧ t.part = s.part ∧ (s.pwr.st ≠ .off → InColdReset s t))
    ∧ ∀ b, s.alive = true → s.boot.stage = 0 → s.boot.fw = .booting → ∃ t, exec (.coldReset b) s = .next t ∧ t.part = s.part
      ∧ (b.testEn = true → t.pwr.factory = true ∧ t.tick.running = s.tick.running)
      ∧ (b.testEn = false → b.refSel = true → b.refClk = false → t.boot.stage = 1 ∧ t.tick.running = s.tick.running)
      ∧ (b.testEn = false → (b.refSel = false ∨ b.refClk = true) → t.boot.stage = 3 ∧ t.tick.running = true ∧ t.tick.number = 0
        ∧ t.tick.lastEdge = s.now ∧ (t.hub 0).run = .running ∧ (∀ h, h ≠ 0 → t.hub h = s.hub h)
        ∧ (b.failedChannels = [] → ∀ k ∈ b.failedSpokes ++ s.part.repairFuses, (t.spoke k).st = .failed ∨ (t.spoke k).st = .fused))

/-- O34. In stage 3 of BOOTING, bank selection either starts the three other hubs in stage 5 on the image of a bank that passes every
check of Table 5-6, or no candidate passes and firmware is in RECOVERY in stage 8 with no image. In stage 5, WAIT_DRIVER is reached in
stage 7; an offer that waited is evaluated then. A device reset that was asked for starts boot again at stage 3 with its cause, in
BOOTING, with no slot, partition, stream, sequence or command left, no claim held and no hub but the BOOT hub running. (R140, R141, R154,
R157) -/
def Obligations.BootRunsOnlyACheckedImage : Prop :=
  ∀ (s : State), s.alive = true →
    (s.boot.fw = .booting → s.boot.stage = 3 → ∃ t, exec .fwBankSelect s = .next t
      ∧ ((t.boot.stage = 5 ∧ t.boot.fw = .booting ∧ fwCheck s.part t.boot.image = none ∧ t.boot.image = (s.part.bank t.boot.booted).image
          ∧ ∀ h, 1 ≤ h → h ≤ 3 → (t.hub h).run = .running)
        ∨ (t.boot.stage = 8 ∧ t.boot.fw = .recovery ∧ t.boot.image = [] ∧ t.hubs = s.hubs)))
    ∧ (s.boot.fw = .booting → s.boot.stage = 5 → ∃ t, exec .bootWaitDriver s = .next t ∧ t.boot.stage = 7 ∧ t.boot.offer = false
      ∧ (s.boot.offer = false → t.boot.fw = .waitDriver)
      ∧ (s.boot.offer = true → t.boot.fw = (if s.fld Reg.HUB_IFACE_DRIVER 16 16 = fwMajor s.boot.image then .running else .refused)))
    ∧ (∀ b cause, s.boot.resetReq = some cause → ∃ t, exec (.deviceReset b) s = .next t ∧ t.boot.stage = 3 ∧ t.boot.fw = .booting
      ∧ t.boot.resetCause = cause ∧ t.boot.resetReq = none ∧ t.slots = [] ∧ t.prts = [] ∧ t.streams = [] ∧ t.seqs = [] ∧ t.link.cmds = []
      ∧ t.regs.claims = [] ∧ (t.hub 0).run = .running ∧ ∀ h, h ≠ 0 → (t.hub h).run = .held)

/-- O35. The end of an operation that runs leaves none running and its result in HUB_FW_STATUS. With result 0, a write leaves the target
bank in TRIAL with the image and no attempt, a rollback leaves its bank in TRIAL with its image kept, a confirmation leaves the bank
booted ACTIVE and boot no longer on trial, and a recovery image is what stage 5 runs. With any other result no bank changes. (R154, R155,
R156, R141) -/
def Obligations.FirmwareOperationsEnd : Prop :=
  ∀ (s : State) (o : FwOp), s.alive = true → s.boot.op = some o → o.target ≤ 1 → ∃ t, exec .fwOpDone s = .next t ∧ t.boot.op = none
    ∧ t.fld Reg.HUB_FW_STATUS 8 8 = o.result % 256
    ∧ (o.result ≠ 0 → t.part = s.part)
    ∧ (o.result = 0 → o.op = 1 → t.part.bank o.target = { st := .trial, attempts := 0, image := o.image }
        ∧ t.part.bank (1 - o.target) = s.part.bank (1 - o.target))
    ∧ (o.result = 0 → o.op = 2 → t.part.bank o.target = { s.part.bank o.target with st := .trial, attempts := 0 })
    ∧ (o.result = 0 → o.op = 3 → t.part.bank o.target = { s.part.bank o.target with st := .active, attempts := 0 } ∧ t.boot.trial = false
        ∧ (s.part.bankIn .active = some (1 - o.target) → (t.part.bank (1 - o.target)).st = .standby))
    ∧ (o.result = 0 → o.op = 4 → t.boot.image = o.image ∧ t.boot.stage = 5 ∧ t.boot.fw = .booting ∧ t.part = s.part)

/-- O36. A press is counted from 95 ms after PRES_N was last seen high; once the PRS page is usable it opens a window with nothing used,
in place of any that is open, and counts and signals it; before, it changes no window. 30 s after it opened a window closes, and that is
signalled. Where PRES_N was low as cold reset was released, its release ends that and no press is counted. (R33, R212) -/
def Obligations.PresenceWindows : Prop :=
  ∀ (s : State), s.alive = true →
    (∀ h, s.boot.highSince = some h → ∃ t, exec .presencePress s = .next t ∧ t.now = max s.now (h + 95000) ∧ t.boot.highSince = some t.now
      ∧ (2 ≤ s.boot.stage → t.window = some { since := t.now, used := 0 } ∧ Counts s t Reg.PRS_WINDOWS 1
        ∧ t.bit (hdrOff 0x007 0x010) 0 = true ∧ (s.window ≠ none → t.bit (hdrOff 0x007 0x010) 1 = true))
      ∧ (s.boot.stage < 2 → t.window = s.window))
    ∧ (∀ w, s.window = some w → ∃ t, exec .presenceWindowExpire s = .next t ∧ t.now = max s.now (w.since + 30000000) ∧ t.window = none
      ∧ t.bit (hdrOff 0x007 0x010) 1 = true)
    ∧ (s.boot.presStuck = true → exec .presNRelease s
        = .next { s with boot := { s.boot with presStuck := false, presLow := false, highSince := some s.now } })

/-- O37. From a governor whose components, cap and counts lie in their ranges, an edge leaves them so and the headwind at most 12. The
power component in force rises by one where the new average exceeds the limit and else stays; at 105 °C and above the thermal component is
12 and the cap 0; below, the thermal component in force is raised to the target at least, and the cap is the one in force. The target
never falls as the temperature rises. (R82, R85, R86) -/
def Obligations.GovernorStaysInItsRanges : Prop :=
  ∀ (g : Governor) (pTick len window limit : Nat) (tmax : Int) (warn hot : Nat), Governor.InRange g →
    let e := g.edge pTick len window limit tmax warn hot
    Governor.InRange e ∧ e.headwind ≤ 12 ∧ e.capNow ≤ 3 ∧ e.pAvg = nextAvg g.pAvg pTick len window
    ∧ e.hPower = (if limit < e.pAvg then min 12 (g.power + 1) else g.power)
    ∧ (420 ≤ tmax → e.hThermal = 12 ∧ e.cap = 0)
    ∧ (tmax < 420 → e.hThermal = max g.thermal (thermalTarget tmax warn hot) ∧ e.cap = g.capNow)
    ∧ ∀ q, tmax ≤ q → thermalTarget tmax warn hot ≤ thermalTarget q warn hot

/-- O38. A due decay lowers its component by one and leaves the headwind in force and everything else but the governor as it is; a due
change of the cap moves it by one within 0 to 3 and leaves the cap in force. A sample gives every fitted sensor its reading, valid, or
marks it invalid and flagged. A VIN sample is shown; below the warning threshold an armed warning is raised and disarmed, and more than
100 mV above it is armed again. The loss of REF after lock sets cause 3. (R61, R74, R81, R82, R85, R88) -/
def Obligations.GovernorEventsAndMeasures : Prop :=
  ∀ (s : State), s.alive = true →
    (8 ≤ s.gov.lowEdges → Does .headwindPowerDecay s { s with gov := { s.gov with hPower := s.gov.hPower - 1, lowEdges := 0 } }
        ∧ ({ s.gov with hPower := s.gov.hPower - 1, lowEdges := 0 } : Governor).headwind = s.gov.headwind)
    ∧ (8 ≤ s.gov.coolEdges → Does .headwindThermalDecay s { s with gov := { s.gov with hThermal := s.gov.hThermal - 1, coolEdges := 0 } }
        ∧ ({ s.gov with hThermal := s.gov.hThermal - 1, coolEdges := 0 } : Governor).headwind = s.gov.headwind)
    ∧ (10 ≤ s.gov.hotEdges → ∃ u, Does .dvfsCapLower s u ∧ u.gov.cap = s.gov.cap - 1 ∧ u.gov.capNow = s.gov.capNow
        ∧ u = { s with gov := u.gov })
    ∧ (100 ≤ s.gov.easyEdges → s.gov.hotEdges < 10 → s.gov.cap ≤ 3 → ∃ u, Does .dvfsCapRaise s u ∧ u.gov.cap = min 3 (s.gov.cap + 1)
        ∧ u.gov.capNow = s.gov.capNow ∧ u = { s with gov := u.gov })
    ∧ (∀ l, ∃ u, Does (.thmSample l) s u ∧ ∀ i, i < 16 → sensorFitted s.part.variant i = true →
        u.sensor i = (match Tab.find l i with
          | some q => { s.sensor i with temp := q, valid := true }
          | none => { s.sensor i with valid := false, flagged := true }))
    ∧ (∀ mv, mv < 65536 → ∃ u, Does (.vinSample mv) s u ∧ u.fld Reg.PWR_VIN 0 16 = mv
        ∧ (mv < s.fld Reg.PWR_VIN 16 16 → s.pwr.vinArmed = true → u.pwr.vinArmed = false ∧ u.bit (hdrOff 0x001 0x010) 4 = true)
        ∧ (s.fld Reg.PWR_VIN 16 16 + 100 < mv → u.pwr.vinArmed = true))
    ∧ (s.boot.refLocked = true → s.kickCauses.testBit 3 = false → ∃ u, Does .refLost s u ∧ Kicks s u 3)

/-- O39. The end of a transition that is not over: where its state is in force it is over, and what a wake asked for meanwhile begins;
where it is not, it is done and waits for a tick edge, and leaving AON the tick runs again. In AON an access of an existing rider sets
cause 0, and a write of it is held behind those that wait; the AON timer sets cause 2 when it expires; the sideband of a tandem port sets
cause 4. Each raises the wake interrupt; an enabled one, with no transition running in AON, begins that to the wake target. (R66, R68,
R69, R70, R71, R184) -/
def Obligations.PowerTransitionsAndWakes : Prop :=
  ∀ (s : State), s.alive = true →
    (∀ t, s.pwr.trans = some t → t.done = false → ∃ u, Does .powerTransitionDone s u
      ∧ (t.dst ≠ s.pwr.st → u.pwr.trans = some { t with done := true } ∧ (t.dst ≠ .aon → u.tick.running = true))
      ∧ (t.dst = s.pwr.st → s.pwr.wakeNext = none → u.pwr.trans = none)
      ∧ (t.dst = s.pwr.st → ∀ g, s.pwr.wakeNext = some g → u.pwr.wakeNext = none
          ∧ u.pwr.trans = some { src := s.pwr.st, dst := PowerState.ofCode g, since := s.now, done := false }))
    ∧ (∀ agent off be val, s.pwr.st = .aon → agent < 16 → s.riderExists agent = true → ∃ u, Does (.hostAccessInAon agent off be val) s u
        ∧ u.bit Reg.PWR_WAKE_CAUSE 0 = true ∧ u.bit (hdrOff 0x001 0x010) 2 = true
        ∧ (val = none → u.pwr.held = s.pwr.held) ∧ (val ≠ none → u.pwr.held.length = s.pwr.held.length + 1 ∧ s.pwr.held <+: u.pwr.held)
        ∧ (s.pwr.trans = none → u.pwr.trans = some { src := .aon, dst := s.wakeTarget, since := s.now, done := false }))
    ∧ (s.aonTimerRuns = true → let due := s.pwr.aonSince + (s.rd Reg.PWR_AON_TIMER).toNat * 1000000 / 32768
        ∃ u, DoesBy .aonTimerExpire s due u ∧ u.bit Reg.PWR_WAKE_CAUSE 2 = true ∧ u.bit (hdrOff 0x001 0x010) 2 = true
        ∧ (s.bit Reg.PWR_WAKE_EN 2 = true → s.pwr.trans = none →
          u.pwr.trans = some { src := .aon, dst := s.wakeTarget, since := max s.now due, done := false }))
    ∧ (∀ p, s.part.variant.tandem = true → p < 2 → ∃ u, Does (.tandemSbWake p) s u
        ∧ u.bit Reg.PWR_WAKE_CAUSE 4 = true ∧ u.bit (hdrOff 0x001 0x010) 2 = true
        ∧ (s.bit Reg.PWR_WAKE_EN 4 = true → s.pwr.st = .aon → s.pwr.trans = none →
          u.pwr.trans = some { src := .aon, dst := s.wakeTarget, since := s.now, done := false })
        ∧ (s.bit Reg.PWR_WAKE_EN 4 = true → s.pwr.st = .listen → s.pwr.trans = none →
          u.pwr.trans = some { src := .listen, dst := .serve, since := s.now, done := false }))

/-- O40. While the tick runs, its next edge can be taken whatever the block does: the clock stands at the edge, or stays where it is if
that is later; the tick number is one more, modulo 2^64; the queue of commands and the fuses are as before. (R12, R13, R14, R41) -/
def Obligations.TickEdges : Prop :=
  ∀ (s : State) (a : AudioIn) (uJ : Nat), s.alive = true → s.tick.running = true → ∃ t, exec (.tickEdge a uJ) s = .next t
    ∧ t.now = max s.now s.edgeDue ∧ t.tick.number = s.tick.number + 1 ∧ t.pending = s.pending
    ∧ SameFuses s.part t.part

/-- O41. An expired watchdog or a fault of a hub that runs restarts that hub alone: cause 2 or 3, from now, counted in HUB_RESTARTS; with
two earlier restarts of it within a second a device reset is asked for, unless one runs. The restart's end, with no write waiting, has the
hub running. A restart that lasts 10 ms, or whose master copy does not match, asks for a device reset with cause 5. Partitions held for 2
ms by a restart of the PAGE hub are held no more; the control side of the block stays as it is. (R130, R149, R150, R151, R152, R157) -/
def Obligations.HubsRestart : Prop :=
  ∀ (s : State) (h : Nat), s.alive = true → h < 4 →
    (∀ (torn : Bool), (s.hub h).run = .running → ∀ p ∈ [(Instr.hubWatchdogExpire h torn, 2), (Instr.hubFault h torn, 3)],
      ∃ u, Does p.1 s u ∧ (u.hub h).run = .restarting ∧ (u.hub h).cause = p.2 ∧ (u.hub h).since = s.now
        ∧ (∀ k, k ≠ h → u.hub k = s.hub k) ∧ Counts s u (Reg.HUB_RESTARTS h) 1
        ∧ (2 ≤ ((s.hub h).recent.filter fun t => s.now < t + 1000000).length → s.boot.resetting = false → u.boot.resetReq ≠ none))
    ∧ (s.restarting h = true → ∃ u, Does (.hubRestartDone h) s u
        ∧ ((∀ x ∈ s.regs.hubActs, x.1 ≠ h) → (u.hub h).run = .running ∧ u.part = s.part ∧ u.pwr = s.pwr ∧ u.boot.fw = s.boot.fw))
    ∧ (∀ (bad : Bool), s.restarting h = true → let due := if bad then 0 else (s.hub h).since + 10000
        DoesBy (.hubRestartTimeout h bad) s due { s.waitTo due with
          boot := { s.boot with resetReq := if s.boot.resetting then s.boot.resetReq else some (s.boot.resetReq.getD 5) } })
    ∧ (s.restarting 2 = true → (∃ x ∈ s.prts, x.2.heldHub.isSome = true) → ∃ u, DoesBy .pageHubHoldTimeout s s.holdDue u
        ∧ u.fixed = (s.waitTo s.holdDue).fixed
        ∧ ∀ l p x, s.prts = l ++ [(p, x)] → x.heldHub.isSome = true → ∀ y, u.prt p = some y → y.heldHub = none)

/-- O42. In SERVE and LISTEN an active channel becomes due for a retraining window no later than its period after the last. A window that
passes leaves the channel trained now, with no failure counted; the first two that fail in a row leave it one failure more, counted and
signalled. A scrub of an allocated granule outside retraining counts and signals the bursts that it corrected. None of them acts on the
control side of the block. (R145, R147, R229, R232) -/
def Obligations.ChannelUpkeep : Prop :=
  ∀ (s : State) (n : Nat), s.alive = true → n < s.chanCount →
    ((s.pwr.st = .serve ∨ s.pwr.st = .listen) → (s.chan n).st = .active →
      DoesBy (.retrainDue n) s (s.retrainTime n) ((s.waitTo (s.retrainTime n)).setChan n { s.chan n with due := true }))
    ∧ ((s.chan n).window = true → ∀ (pass : Bool), ∃ u, Works (.retrainWindowDone n pass) s u
        ∧ (pass = true → (u.chan n).window = false ∧ (u.chan n).due = false ∧ (u.chan n).fails = 0 ∧ (u.chan n).trainedAt = s.now
            ∧ (u.chan n).st = (s.chan n).st ∧ Counts s u Reg.HUB_RETRAINS 1)
        ∧ (pass = false → (s.chan n).fails < 2 → u.chan n = { s.chan n with window := false, fails := (s.chan n).fails + 1 }
            ∧ Counts s u Reg.HUB_RETRAIN_FAILS 1 ∧ u.bit (hdrOff 0x008 0x010) 5 = true))
    ∧ (∀ (gran k : Nat), (s.chan n).st = .active → (s.allocAt n gran).isSome = true → s.noWindow = true → (s.hub 0).run = .running →
        ∃ u, Works (.patrolScrub n gran k) s u ∧ Counts s u (Reg.CHN_ECC_CORR n) k ∧ u.mem = s.mem
          ∧ (k ≠ 0 → u.bit (hdrOff (0x060 + n) 0x010) 0 = true))

/-- O43. A burst that ECC corrects, or that is clean on the retry, counts and is signalled, and changes no memory. An uncorrectable one
outside system memory acts on no control state; one in system memory restarts a hub that runs. A failed channel is rehomed once. A
corrected SRAM word counts and is signalled; an uncorrectable one, or a residue mismatch, on a spoke that no partition uses and that has
had none within a second counts and is recorded as 0x0701, or 0x0702, by agent 0x11. A failed check at a router counts on a spoke that is
enabled, and is resent. (R230, R231, R244, R245, R311, R312, R329, R333, R335) -/
def Obligations.MemoryErrors : Prop :=
  ∀ (s : State), s.alive = true →
    (∀ (n addr kind : Nat), s.chanReads n = true → (s.regionOf n addr).isSome = true → kind < 3 → ∃ u, Does (.eccReadError n addr kind) s u
      ∧ (kind < 2 → Counts s u (Reg.CHN_ECC_CORR n) 1 ∧ u.bit (hdrOff (0x060 + n) 0x010) 0 = true ∧ u.mem = s.mem)
      ∧ (kind = 2 → s.regionOf n addr ≠ some 4 → u.fixed = s.fixed)
      ∧ (kind = 2 → s.regionOf n addr = some 4 → ∃ h, h < 3 ∧ ((s.hub h).run = .running → (u.hub h).run = .restarting ∧ (u.hub h).cause = 3)))
    ∧ (∀ n, (Tab.find s.mem.rehome n).isSome = true → ((s.hub 1).run = .running ∨ s.boot.fw = .booting) →
        ∃ u, Works (.spokeRehome n) s u ∧ ∀ x ∈ u.mem.rehome, x.1 ≠ n)
    ∧ (∀ (k off : Nat), s.spokeOn k = true → (∃ u, Works (.sramError k off true) s u ∧ Counts s u (Reg.SPK_SRAM_CORR k) 1
        ∧ u.bit (hdrOff (0x080 + k) 0x010) 0 = true ∧ u.mem = s.mem)
      ∧ (∃ u, Works (.sramError k off false) s u ∧ (s.prtOfRow (k / 9) = none → (∀ x ∈ (s.spoke k).uncorr, x.1 + 1000000 ≤ s.now) →
          Counts s u (Reg.SPK_SRAM_UNCORR k) 1 ∧ (u.rd (Reg.SPK_SRAM_ADDR k)).toNat = off % 2 ^ 20 / 8 * 8
          ∧ u.fld (hdrOff (0x080 + k) 0x01C) 0 16 = 0x0701 ∧ u.fld (hdrOff (0x080 + k) 0x01C) 16 8 = 0x11))
      ∧ (∃ u, Works (.residueMismatch k) s u ∧ (s.prtOfRow (k / 9) = none → (∀ t ∈ (s.spoke k).residue, t + 1000000 ≤ s.now) →
          Counts s u (Reg.SPK_RESIDUE_ERRS k) 1 ∧ u.fld (hdrOff (0x080 + k) 0x01C) 0 16 = 0x0702 ∧ u.fld (hdrOff (0x080 + k) 0x01C) 16 8 = 0x11)))
    ∧ (∀ (k p : Nat) (again : Bool), k < 72 → (s.prt p).isSome = true → ∃ u, Works (.rimCheckFail k p again) s u
        ∧ (again = false → s.spokeOn k = true → Counts s u (Reg.SPK_RIM_RETRIES k) 1) ∧ (again = false → s.spokeOn k = false → u = s))

/-- O44. While the SERVE hub runs: the clearing step of a partition reset is done once, now; a row that waits for a rebuild, where no
spoke of its partition waits for a new home channel, waits no more; the work of a build ends once, and the partition stays BUILDING until
the edge. None acts on the control side of the block. (R334, R401, R423) -/
def Obligations.PartitionsAreBuiltAndRebuilt : Prop :=
  ∀ (s : State) (p r : Nat), s.alive = true → (s.hub 1).run = .running →
    (∀ x, s.prt p = some x → x.st = .resetting → x.rebuild = false → x.cleared = none →
      Works (.partitionResetCleared p) s (s.setPrt p { x with cleared := some s.now }))
    ∧ (s.rebuildDue r = true → ∀ (good : Bool), ∃ u, Works (.partitionRebuild r good) s u ∧ Tab.find u.mem.renumber r = none)
    ∧ (∀ x, s.prt p = some x → x.st = .building → x.built = false → ∃ u, Works (.prtBuildDone p) s u
        ∧ u.prt p = some { x with built := true } ∧ (∀ q, q ≠ p → u.prt q = s.prt q) ∧ u.mem = s.mem ∧ u.slots = s.slots)

/-- O45. A stroke in flight can end, a handoff on its way can arrive, a cold layer that a stroke fetches can match its digest or not, a
stroke that waits at 40 µs before the edge is abandoned, and a page on its way to or from the pannier can arrive. A digest that matches
changes nothing. All of them leave the control side of the block, its hubs, power, governor and boot, as they are. (R27, R237, R242, R388,
R389, R405) -/
def Obligations.StrokesAndPages : Prop :=
  ∀ (s : State), s.alive = true →
    (∀ p, ((s.prt p).bind Prt.stroke).isSome = true → ∃ u, Works (.strokeEnd p) s u)
    ∧ (∀ a b, (s.flight a b).isSome = true → ∃ u, Works (.handoffArrival a b) s u)
    ∧ (∀ p l, s.fetches p l = true → Works (.pannierDigestCheck p l true) s s ∧ ∃ u, Works (.pannierDigestCheck p l false) s u)
    ∧ (∀ p, s.starveOver p = true → let due := s.tick.lastEdge + tickUs s.tick.length - 40
        ∃ u, DoesBy (.pannierStarveAbandon p) s due u ∧ u.fixed = (s.waitTo due).fixed)
    ∧ (∀ k a b, s.pageMoves k a b .spilling = true → s.reachable = true → s.mayIssue 0 = true → ∃ u, Works (.kvSpillDone k a b) s u)
    ∧ (∀ k a b, s.pageMoves k a b .prefetching = true → ∀ (good : Bool), ∃ u, Works (.kvPrefetchDone k a b good) s u)

/-- O46. A visit that the rules allow always completes, with every descriptor of its batch accepted in turn. The row of an opcode is the
visit that fetches one descriptor of that opcode. (R191, R196) -/
def Obligations.RingVisits : Prop :=
  ∀ (s : State) (n q : Nat),
    (∀ (batch : List Desc), s.alive = true → s.visitOk n q batch = true → Does (.descriptorFetch n q batch) s (s.visitRing n q batch))
    ∧ ∀ (d : Desc), ∀ x ∈ [(Instr.nop n q d, 0x00), (.jnlMark n q d, 0x01), (.outRebind n q d, 0x02), (.casLoad n q d, 0x10), (.casEvict n q d, 0x11),
        (.casReplace n q d, 0x12), (.adpLoad n q d, 0x13), (.adpUnload n q d, 0x14), (.prtBuild n q d, 0x20), (.prtDiscard n q d, 0x21),
        (.strOpen n q d, 0x30), (.strClose n q d, 0x31), (.strExport n q d, 0x32), (.seqSubmit n q d, 0x40), (.seqAppend n q d, 0x41),
        (.seqCancel n q d, 0x42), (.lnkAudSet n q d, 0x50), (.tanPair n q d, 0x60), (.migrate n q d, 0x61), (.jnlErase n q d, 0x70),
        (.sigPolicy n q d, 0x71), (.privPolicy n q d, 0x72), (.debugUnlock n q d, 0x73), (.sealBurn n q d, 0x74)],
      d.opcode = x.2 → exec x.1 s = exec (.descriptorFetch n q [d]) s

/-- O47. A descriptor that passes checks 1 to 9: NOP ends with result 0 and JNL_MARK with its marker; OUT_REBIND is running. JNL_ERASE
leaves of the journal only pending COMMAND entries, its own, and the entry that records the erasure. SIG_POLICY and PRIV_POLICY set the
policy of the part, DEBUG_UNLOCK opens the debug port of a sealed part, and SEAL_BURN burns the seal fuse, which closes the debug port of
a part that was not sealed. Each of these uses one privileged command of the window, DEBUG_UNLOCK where the part is sealed. Nothing else
of the control side of the block changes. (R195, R197, R203, R209, R213, R215, R262, R510) -/
def Obligations.ShortCommands : Prop :=
  ∀ (s : State) (n q : Nat) (d : Desc), Passes s n q d → let used := s.window.map fun w => { w with used := w.used + 1 }
    (d.opcode = 0x00 → ∃ t, exec (.nop n q d) s = .next t ∧ NewFinal s t n d 0 0 ∧ t.fixed = s.fixed)
    ∧ (d.opcode = 0x01 → ∃ t, exec (.jnlMark n q d) s = .next t ∧ NewFinal s t n d 0 (d.opnd 0x20 4) ∧ t.fixed = s.fixed)
    ∧ (d.opcode = 0x02 → ∃ t, exec (.outRebind n q d) s = .next t ∧ NewCmdAt s t .running ∧ t.fixed = s.fixed ∧ t.link.bufs = s.link.bufs)
    ∧ (d.opcode = 0x70 → ∃ t, exec (.jnlErase n q d) s = .next t ∧ NewCmdAt s t .decided ∧ t.fixed = { s.fixed with window := used }
        ∧ ((∀ c ∈ s.link.cmds, c.own.order ≠ s.link.accepted) →
          ∀ x ∈ t.jnl.pos, (x ∈ s.jnl.pos ∧ x.2.pending = true) ∨ x.2.type = 0x18 ∨ x.1 = s.jnl.slot Journal.size s.jnl.write))
    ∧ (d.opcode = 0x71 → ∃ t, exec (.sigPolicy n q d) s = .next t ∧ NewFinal s t n d 0 0
        ∧ t.fixed = { s.fixed with window := used, part := { s.part with sigPolicy := d.opnd 0x20 4 } })
    ∧ (d.opcode = 0x72 → ∃ t, exec (.privPolicy n q d) s = .next t ∧ NewFinal s t n d 0 0
        ∧ t.fixed = { s.fixed with window := used, part := { s.part with privPolicy := d.opnd 0x20 4 } })
    ∧ (d.opcode = 0x73 → ∃ t, exec (.debugUnlock n q d) s = .next t ∧ NewFinal s t n d 0 0
        ∧ t.fixed = { s.fixed with window := if s.part.sealFuse then used else s.window, debug := s.debug || s.part.sealFuse })
    ∧ (d.opcode = 0x74 → ∃ t, exec (.sealBurn n q d) s = .next t ∧ NewFinal s t n d 0 0
        ∧ t.fixed = { s.fixed with window := used, part := { s.part with sealFuse := true }, debug := s.debug && s.part.sealFuse })

/-- O48. A descriptor that passes checks 1 to 9 and check 10: CAS_LOAD takes the slot it names, or the lowest EMPTY one, and its slot is
LOADING; CAS_EVICT of a slot that no partition uses has it EVICTING; CAS_REPLACE of a RESIDENT one has it REPLACING; ADP_LOAD takes the
adapter index it names, or the lowest that is free; ADP_UNLOAD of an adapter that nothing uses waits for the edge; PRT_BUILD of rows that
no partition has begins a build; PRT_DISCARD of one without streams and sequences is DISCARDING. Other slots and partitions, and the
control side of the block, stay as they are. (R253, R265, R274, R275, R277, R282, R401, R403) -/
def Obligations.CassetteCommands : Prop :=
  ∀ (s : State) (n q : Nat) (d : Desc), Passes s n q d →
    let e := s.entered n q d
    let i := d.index
    (∀ k, d.opcode = 0x10 → (if i = anyIndex then (List.range 16).find? (fun j => (s.slotD j).st = .empty) = some k
        else k = i ∧ ((s.slotD k).st = .empty ∨ (s.slotD k).st = .needsReload)) → ∃ t, exec (.casLoad n q d) s = .next t ∧ t.fixed = s.fixed
      ∧ (t.slotD k).st = .loading ∧ (∀ j, j ≠ k → t.slotD j = s.slotD j) ∧ ∃ l ∈ t.loads, l.order = s.link.accepted ∧ l.op = 0x10 ∧ l.slot = k)
    ∧ (d.opcode = 0x11 → (∀ x ∈ s.prts, x.2.slot ≠ i) → ((s.slotD i).st = .resident ∨ (s.slotD i).st = .needsReload) →
      ∃ t, exec (.casEvict n q d) s = .next t ∧ t.fixed = s.fixed ∧ t.slotD i = { s.slotD i with st := .evicting, evictOrder := s.link.accepted }
        ∧ ∀ j, j ≠ i → t.slotD j = s.slotD j)
    ∧ (d.opcode = 0x12 → (s.slotD i).st = .resident → ∃ t, exec (.casReplace n q d) s = .next t ∧ t.fixed = s.fixed
        ∧ t.slotD i = { s.slotD i with st := .replacing } ∧ (∀ j, j ≠ i → t.slotD j = s.slotD j)
        ∧ ∃ l ∈ t.loads, l.order = s.link.accepted ∧ l.op = 0x12 ∧ l.slot = i)
    ∧ (∀ a, d.opcode = 0x13 → (s.slotD i).st = .resident →
      let free (b : Nat) : Bool := (Tab.find (s.slotD i).adapters b).isNone && s.loads.all fun l => !(l.op = 0x13 && l.slot = i && l.adapter = b)
      (if d.opnd 0x20 1 = 0xFF then (List.range 64).find? free = some a
        else a = d.opnd 0x20 1 ∧ free a = true ∧ (s.slotD i).adapters.length < 64) → ∃ t, exec (.adpLoad n q d) s = .next t ∧ t.fixed = s.fixed
      ∧ t.slots = s.slots ∧ ∃ l ∈ t.loads, l.order = s.link.accepted ∧ l.op = 0x13 ∧ l.slot = i ∧ l.adapter = a)
    ∧ (d.opcode = 0x14 → (s.slotD i).st ≠ .replacing → (∀ x ∈ s.streams, s.slotOf x.2.prt = i → x.2.adapter ≠ d.opnd 0x20 1)
        → (∀ x ∈ s.seqs, s.slotOf x.2.prt = i → x.2.adapter ≠ d.opnd 0x20 1) → (∀ u ∈ (s.slotD i).unloads, u.1 ≠ d.opnd 0x20 1) →
      ∃ t, exec (.adpUnload n q d) s = .next t ∧ t.fixed = s.fixed
        ∧ t.slotD i = { s.slotD i with unloads := (s.slotD i).unloads ++ [(d.opnd 0x20 1, s.link.accepted)] }
        ∧ ∀ j, j ≠ i → t.slotD j = s.slotD j)
    ∧ (∀ g, d.opcode = 0x20 → s.pwr.st ≠ .listen → s.prt i = none → (∀ x ∈ s.prts, Nat.land x.2.rows (d.opnd 0x20 1) = 0)
        → (s.slotD (d.opnd 0x21 1)).graphs[d.opnd 0x22 1]? = some g → d.opnd 0x23 1 ≤ g.maxPel
        → e.pannierFits (d.opnd 0x20 1) (s.slotD (d.opnd 0x21 1)).gears (s.slotD (d.opnd 0x21 1)).layers g g.passPositions = true →
      ∃ t x, exec (.prtBuild n q d) s = .next t ∧ t.fixed = s.fixed ∧ t.prt i = some x ∧ x.st = .building ∧ x.built = false
        ∧ x.rows = d.opnd 0x20 1 ∧ x.slot = d.opnd 0x21 1 ∧ x.graph = d.opnd 0x22 1 ∧ x.maxPel = d.opnd 0x23 1 ∧ x.order = s.link.accepted
        ∧ ∀ j, j ≠ i → t.prt j = s.prt j)
    ∧ (∀ x, d.opcode = 0x21 → s.pwr.st ≠ .listen → s.prt i = some x → x.st ≠ .building → x.st ≠ .discarding → s.strOf i = [] → s.seqOf i = []
        → (∀ c ∈ s.link.cmds, c.stage ≠ .held ∧ c.stage ≠ .check11) →
      ∃ t, exec (.prtDiscard n q d) s = .next t ∧ t.fixed = s.fixed
        ∧ t.prt i = some { x with st := .discarding, order := s.link.accepted, stroke := none, round := none } ∧ ∀ j, j ≠ i → t.prt j = s.prt j)

/-- O49. A descriptor that passes checks 1 to 9 and check 10: STR_OPEN fills the entry it names, or the lowest that is free, whose area
lies in free memory, and waits for check 11; STR_CLOSE has its stream CLOSING; STR_EXPORT of a RUNNING stream is held for its edge;
SEQ_SUBMIT fills the lowest free entry with the tokens that follow the global positions; SEQ_APPEND is decided as it is admitted, with its
tokens at the end of the queue; SEQ_CANCEL is held for the edge; LNK_AUD_SET leaves its settings for the next router-frame edge, and a
length of 0 leaves none; TAN_PAIR begins a pairing on its port and uses one privileged command of the window; MIGRATE over an aligned port
that is UP waits for its edge. Beyond that the control side stays as it is. (R200, R339, R343, R362, R369, R372, R396, R445, R457, R489)
-/
def Obligations.ObjectCommands : Prop :=
  ∀ (s : State) (n q : Nat) (d : Desc), Passes s n q d →
    let e := s.entered n q d
    let i := d.index
    (∀ k, d.opcode = 0x30 → s.replacing (s.slotOf (d.opnd 0x20 1)) = false → s.roomIn (d.opnd 0x20 1) = none
        → (if i = anyIndex then freeIndex s.streams 1024 = some k else k = i ∧ s.str k = none)
        → (s.findArea (s.prtHomes (d.opnd 0x20 1)) ((s.graphOf (d.opnd 0x20 1)).areaShare (s.prtHomes (d.opnd 0x20 1)).length)).isSome = true →
      ∃ t x, exec (.strOpen n q d) s = .next t ∧ t.fixed = s.fixed ∧ t.str k = some x ∧ x.prt = d.opnd 0x20 1 ∧ x.own.order = s.link.accepted
        ∧ x.own.rider = n ∧ x.adapter = d.opnd 0x21 1 ∧ x.policy = d.opnd 0x22 1 ∧ x.source = d.opnd 0x23 1 ∧ x.ptr.isSome = true
        ∧ NewCmdAt s t .check11 ∧ Tab.find t.link.bufs (strHandle k) = some (OutBuf.fresh d.outAddr d.outLen) ∧ ∀ j, j ≠ k → t.str j = s.str j)
    ∧ (∀ x, d.opcode = 0x31 → s.str i = some x → x.st ≠ .closing → x.migrating = false → ∃ t, exec (.strClose n q d) s = .next t ∧ t.fixed = s.fixed
        ∧ t.str i = some { x with st := .closing, closing := some s.link.accepted, imp := none } ∧ ∀ j, j ≠ i → t.str j = s.str j)
    ∧ (∀ x, d.opcode = 0x32 → s.str i = some x → x.st = .running → ∃ t, exec (.strExport n q d) s = .next t ∧ t.fixed = s.fixed
        ∧ (∃ b, t.str i = some { x with exports := x.exports ++ [b] } ∧ b.order = s.link.accepted ∧ b.rider = n ∧ b.addr = d.outAddr ∧ b.len = d.outLen)
        ∧ ∀ j, j ≠ i → t.str j = s.str j)
    ∧ (∀ k, d.opcode = 0x40 → s.replacing (s.slotOf i) = false → s.roomIn i = none → freeIndex s.seqs 1024 = some k
        → (d.tokens (d.opnd 0x26 1)).length ≤ 4096 → d.dataFail = none → d.opnd 0x25 1 = 0 →
      (s.graphOf i).pageSet (decide (sortDistinct ((d.tokens 0).take (d.opnd 0x26 1)) ≠ [])) = [] →
      ∃ t x, exec (.seqSubmit n q d) s = .next t ∧ t.fixed = s.fixed ∧ t.seq k = some x ∧ x.prt = i ∧ x.own.order = s.link.accepted ∧ x.own.rider = n
        ∧ x.maxNew = d.opnd 0x20 2 ∧ x.queue.map Prod.fst = d.tokens (d.opnd 0x26 1) ∧ (∀ y ∈ x.queue, y.2 = 2 ^ n) ∧ NewCmdAt s t .check11
        ∧ Tab.find t.link.bufs (seqHandle k) = some (OutBuf.fresh d.outAddr d.outLen) ∧ ∀ j, j ≠ k → t.seq j = s.seq j)
    ∧ (∀ x, d.opcode = 0x41 → s.seq i = some x → x.st ≠ .ending → x.queue.length + (d.tokens 0).length ≤ 4096 → d.dataFail = none →
      ∃ t, exec (.seqAppend n q d) s = .next t ∧ ((∃ y a, s.prt x.prt = some y ∧ y.stroke = some a) → NewCmdAt s t .decided ∧ t.fixed = s.fixed
        ∧ ∃ y, t.seq i = some y ∧ y.queue = x.queue ++ (d.tokens 0).map fun w => (w, 2 ^ n)))
    ∧ (∀ x, d.opcode = 0x42 → s.seq i = some x → x.st ≠ .ending → x.cancel = none → x.migrating = false → ∃ t, exec (.seqCancel n q d) s = .next t
        ∧ t.fixed = s.fixed ∧ t.seq i = some { x with cancel := some s.link.accepted } ∧ ∀ j, j ≠ i → t.seq j = s.seq j)
    ∧ (∀ k, d.opcode = 0x50 → (if i = anyIndex then (List.range 16).find? (fun j => (s.audPort j).isNone) = some k else k = i)
        → (∀ c ∈ d.audSlots, e.audBusy k (d.opnd 0x20 1) (d.opnd 0x24 4) c = false) → ∃ t, exec (.lnkAudSet n q d) s = .next t ∧ t.fixed = s.fixed
        ∧ NewCmdAt s t .decided ∧ (d.dataLen = 0 → Tab.find t.aud.setting k = some none)
        ∧ (d.dataLen ≠ 0 → ∃ p, Tab.find t.aud.setting k = some (some p) ∧ p.owner = n ∧ p.dir = d.opnd 0x20 1 ∧ p.format = d.opnd 0x21 1
          ∧ p.channels = d.opnd 0x22 1 ∧ p.first = d.opnd 0x23 1 ∧ p.rate = d.opnd 0x24 4 ∧ p.addr = d.dataAddr ∧ p.area = d.dataLen - 64))
    ∧ (let p := d.opnd 0x20 1; d.opcode = 0x60 → ((s.tport p).st = .linked ∨ (s.tport p).st = .up) → (∀ x ∈ s.tan.pairing, x.port ≠ p)
        → (s.tport p).req = none → ∃ t, exec (.tanPair n q d) s = .next t
        ∧ t.fixed = { s.fixed with window := s.window.map fun w => { w with used := w.used + 1 } } ∧ t.tan.pairing = s.tan.pairing
          ++ [{ port := p, chip := d.opnd 0x21 1, order := s.link.accepted, since := s.now, agreed := false }])
    ∧ (let p := d.opnd 0x20 1; d.opcode = 0x61 → (∀ k, s.prtOfHandle d.target = some k → e.inGroup k = false) → (∀ m ∈ s.tan.migOut, m.port ≠ p)
        → (s.tport p).st = .up → e.alignedWith p = true
        → ((d.kind = 1 ∧ ∃ x, s.str i = some x ∧ x.st = .running ∧ x.migrating = false)
          ∨ (d.kind = 2 ∧ ∃ x, s.seq i = some x ∧ (x.st = .idle ∨ x.st = .running) ∧ x.spilled = false ∧ x.migrating = false ∧ x.cancel = none)) →
      ∃ t, exec (.migrate n q d) s = .next t ∧ t.fixed = s.fixed ∧ t.tan.migOut = s.tan.migOut
        ++ [{ port := p, handle := d.target, order := s.link.accepted, peer := none, started := false, done := false, code := none }])

/-- O50. A header that passes checks 1 to 4 has the tables read; one that fails ends the load. Tables of which check 5 fails end it. A
last byte with a digest that does not match, or a graph that cannot be lowered, ends it; a cassette that passes every check is ready when
its lowering ends. A load that ends has no transfer left. The control side of the block stays as it is. (R263, R264, R265) -/
def Obligations.ImagesAreChecked : Prop :=
  ∀ (s : State) (order : Nat) (bytes : List Byte) (l : Load), s.alive = true → s.load order = some l → l.cut = false →
    (l.stage = .header → ∃ u, Works (.imageHeaderArrived order bytes) s u
      ∧ let code := headerCheck (slice bytes 0 256) l.op ((s.imageAt order).2 / 4096) s.part.sigPolicy s.part.sealFuse
          (Config.cassetteKey (BitVec.ofNat 32 (fwVersion s.boot.image)))
        (code = none → ∃ m, u.load order = some m ∧ m.stage = .tables ∧ m.bytes = slice bytes 0 256 ∧ m.slot = l.slot ∧ m.op = l.op)
        ∧ (code ≠ none → u.load order = none))
    ∧ (l.stage = .tables → ∃ u, Works (.imageTablesArrived order bytes) s u ∧ (tablesOk (l.bytes ++ bytes) = false → u.load order = none))
    ∧ (l.stage = .weights → l.staged = true → ∃ u, Works (.imageLastByte order bytes) s u
      ∧ let b := l.bytes ++ bytes
        (digestOk b = false → u.load order = none)
        ∧ (digestOk b = true → l.op = 0x10 →
            let low := lowerAll (imgGears b) (imgGraphVersion b) (rowsSpokes l.rows) (imgGraphs b) l.entries 0 [] (imgGraphsOf b)
            (low ≠ none → u.load order = none)
            ∧ (low = none → ∃ m, u.load order = some m ∧ m.stage = .ready ∧ m.readyAt = s.now + lowerUs b ∧ m.bytes = b)))

/-- O51. A written export decides its command with status 0. An import whose blob passes the checks of Table 12-7 is ready for its edge;
one that fails, of a stream that may start without, keeps the code. A dump or a snapshot that ends shows its result and signals it, and
none runs. A trace record leaves the way to staging; a drain that may write empties staging unless the buffer is full. A failed request is
recorded with its rider; the ring of a failed fetch is fetched no more, and a stroke whose cold layer failed waits. The control side of
the block stays as it is. (R165, R175, R210, R242, R362, R363, R365, R547, R550, R556) -/
def Obligations.TransfersEnd : Prop :=
  ∀ (s : State), s.alive = true →
    (∀ o c, s.exporting o = true → s.cmd o = some c → ∃ u, Works (.strExportWritten o) s u ∧ u.streams = s.streams
      ∧ ∃ e ∈ u.link.entries, e.order = c.own.order ∧ e.kind = .final ∧ e.status = 0 ∧ e.result = c.result % 2 ^ 32 ∧ e.rider = c.own.rider)
    ∧ (∀ (k a len : Nat) (x : Stream) (blob : Option (List Byte)), k < 2 ^ 28 → s.str k = some x → x.imp = some (.reading a len) →
        ∃ u, Works (.strImportDone (2 ^ 28 + k) blob) s u
          ∧ (s.importCheck x blob len = none → ∃ f p, u.str k = some { x with imp := some (.passed f p) })
          ∧ (∀ code, s.importCheck x blob len = some code → x.policy ≠ 1 → u.str k = some { x with imp := some (.failed code) }))
    ∧ (∀ (fail : Option Nat), let code := (fail.map dmaCode).getD 0
        (∀ a, s.jnl.dumping = some a → ∃ u, Works (.jnlDumpDone fail) s u ∧ u.jnl = { s.jnl with dumping := none, dumpRes := code }
          ∧ u.bit (hdrOff 0x006 0x010) 0 = true
          ∧ (fail = none → s.mayIssue 0 = true → .hostWrite 0 (a / 4096 * 4096 % 2 ^ 64) s.jnl.image ∈ u.out))
        ∧ (∀ a, s.trc.snap = some (some a) → ∃ u, Works (.trcSnapDone fail) s u ∧ u.trc.snap = none ∧ u.fld Reg.TRC_SNAP_CTL 8 16 = code % 2 ^ 16
          ∧ u.bit (hdrOff 0x00D 0x010) 2 = true))
    ∧ (∀ r l, s.trc.fired = r :: l → ∃ u, Works .traceRecord s u ∧ u.trc.fired = l)
    ∧ (256 ≤ s.trc.staged.length → ∃ u, Works .traceStagingDrain s u
        ∧ ((s.mayIssue 0 = false ∨ s.traceLen = 0) → u = s) ∧ (s.mayIssue 0 = true → s.traceLen ≠ 0 → u.trc.staged = []))
    ∧ (∀ (n kind : Nat) (t : Transfer), kind < 4 → s.requested n t = true → ∃ u, Works (.dmaFailure n kind t) s u
      ∧ (∀ q, t = .fetch q → (n, q) ∈ u.link.fetchStop)
      ∧ (∀ p x a, t = .coldLayer p → s.prt p = some x → x.stroke = some a → u.prt p = some { x with stroke := some { a with waiting := true } })
      ∧ (∀ p, (t = .audio p ∨ t = .trace ∨ t = .coldLayer p) → n < 16 → u.fld (hdrOff (0x040 + n) 0x01C) 0 16 = dmaCode kind
          ∧ u.fld (hdrOff (0x040 + n) 0x01C) 16 8 = n ∧ u.bit (hdrOff (0x040 + n) 0x010) 2 = true))

/-- O52. A cause of a host-link reset that can occur takes the link down, loses every rider's claim and configuration, and lets no entry
of a command accepted before be written; PERST_N and ULNK_RST_N hold the link. Their release lets it train and releases the wake terminal,
and changes nothing else. A link that trains is up in L0 with its width and rate, and says so; a change of them is counted and signalled.
The control side of the block stays as it is. (R43, R164, R165, R179, R183) -/
def Obligations.LinkResetsAndTraining : Prop :=
  ∀ (s : State), s.alive = true →
    (∀ cause, s.hostResetOk cause = true → ∃ u, Works (.hostLinkReset cause) s u ∧ u.linkUp = false ∧ u.link.fns = [] ∧ u.link.msix = []
      ∧ u.link.backlog = [] ∧ u.link.wasReset = true ∧ (cause ≤ 1 → u.link.perstLow = true) ∧ u.link.discard = u.link.accepted)
    ∧ (s.link.perstLow = true → Works .perstNDeassert s { s with link := { s.link with perstLow := false, wakePin := false } })
    ∧ (∀ width rate, linkShape width rate = true →
        (s.linkUp = false → s.link.perstLow = false → ∃ u, Works (.linkUp width rate) s u ∧ u.linkUp = true ∧ u.fld Reg.LNK_STATUS 1 5 = width
          ∧ u.fld Reg.LNK_STATUS 6 3 = rate ∧ u.bit (hdrOff 0x00C 0x010) 0 = true ∧ u.link.wasReset = false ∧ u.link.idleSince = s.now
          ∧ (s.link.wasReset = true → u.bit (hdrOff 0x00C 0x010) 4 = true))
        ∧ (s.linkUp = true → (s.fld Reg.LNK_STATUS 1 5 ≠ width ∨ s.fld Reg.LNK_STATUS 6 3 ≠ rate) → ∃ u, Works (.linkWidthSpeedChange width rate) s u
          ∧ u.linkUp = true ∧ u.fld Reg.LNK_STATUS 1 5 = width ∧ u.fld Reg.LNK_STATUS 6 3 = rate ∧ u.bit (hdrOff 0x00C 0x010) 2 = true
          ∧ Counts s u Reg.LNK_RETRAINS 1))

/-- O53. A released entry that can be written leaves the backlog. A due message past its moderation is sent, or held where it is blocked.
An idle link that may rests in L1 or its substate, and asks for it. A write of configuration space sets its field of a function that
exists, and of one that does not changes nothing; one of a vector's entry in the MSI-X table of a function outside D3hot sets that entry.
(R123, R169, R170, R176, R180) -/
def Obligations.LinkEvents : Prop :=
  ∀ (s : State), s.alive = true →
    (∀ n, s.holdEnded n = true → ∃ u, Works (.deliveryHoldEnd n) s u ∧ (u.backlog n).length < (s.backlog n).length)
    ∧ (∀ n v, let w := s.waitTo (s.vecDue n v)
        w.vecSendable n v = true → ∃ u, DoesBy (.msixSend n v) s (s.vecDue n v) u ∧ u.fixed = w.fixed ∧ (u.vec n v).due = none ∧ u.regs = s.regs
          ∧ (w.vecBlocked n v = true → (u.vec n v).held = true ∧ u.out = s.out)
          ∧ (w.vecBlocked n v = false → (u.vec n v).held = false ∧ (u.vec n v).lastSent = some w.now ∧ u = w.passVec n v ∧ .msix n v ∈ u.out))
    ∧ (s.l1Due = true → let due := s.link.idleSince + max 1 (s.fld Reg.LNK_CTL 0 8)
        ∃ u, DoesBy .l1IdleEntry s due u ∧ u.fixed = (s.waitTo due).fixed ∧ u.fld Reg.LNK_STATUS 9 2 = 1 + min 2 s.link.pf.l1ss ∧ .l1Request ∈ u.out)
    ∧ (∀ (n : Nat) (f : CfgField), s.linkUp = true → ∃ u, Does (.configSpaceWrite n f) s u ∧ (s.riderExists n = false → u = s)
        ∧ (s.pwr.st ≠ .aon → u.fixed = s.fixed)
        ∧ (s.riderExists n = true → s.pwr.st ≠ .aon → (∀ v, f = .busMaster v → (u.fn n).bme = v) ∧ (∀ v, f = .d3hot v → (u.fn n).d3hot = v)
          ∧ (∀ v, f = .msixEnable v → (u.fn n).msixEn = v) ∧ (∀ v, f = .msixMask v → (u.fn n).msixMask = v) ∧ (∀ v, f = .pmeEnable v → (u.fn n).pmeEn = v)
          ∧ (∀ v, f = .maxPayload v → (u.fn n).mps = v) ∧ (∀ v, f = .maxRead v → (u.fn n).mrrs = v) ∧ (∀ v, f = .cplTimeout v → (u.fn n).cplTimeout = v)
          ∧ (n = 0 → (∀ v, f = .numVFs v → s.link.pf.vfEnable = false → u.link.pf.numVFs = min 15 v) ∧ (f = .vfEnable → u.link.pf.vfEnable = true)
            ∧ (∀ v, f = .ari v → u.link.pf.ari = v) ∧ (∀ v, f = .aspmL1 v → u.link.pf.aspmL1 = v) ∧ (∀ v, f = .l1Substates v → u.link.pf.l1ss = v)
            ∧ (∀ v, f = .ltrEnable v → u.link.pf.ltrEn = v))))
    ∧ (∀ n v addr data masked, s.linkUp = true → v < 64 → ∃ u, Does (.msixTableWrite n v addr data masked) s u
        ∧ ((s.riderExists n = false ∨ (s.fn n).d3hot = true) → u = s)
        ∧ (s.riderExists n = true → (s.fn n).d3hot = false → s.pwr.st ≠ .aon → u.fixed = s.fixed
          ∧ Tab.find u.link.msix (n, v) = some { addr := addr, data := data, masked := masked }
          ∧ ∀ k, k ≠ (n, v) → Tab.find u.link.msix k = Tab.find s.link.msix k))

/-- O54. In DETECT a partner's answer begins TRAIN, and 10 ms without one end in NO_PARTNER, which is signalled. Lanes that lock fix the
flit boundary. The partner's HELLO ends TRAIN: LINKED at the widest width that both sides and the lanes allow, with the partner's
identity; FAILED, signalled, where none is allowed. A lane in use that loses lock is counted, and the port narrows, or fails where it
cannot. The control side of the block stays as it is. (R436, R437, R438) -/
def Obligations.TandemPortsTrain : Prop :=
  ∀ (s : State) (p : Nat), s.alive = true → s.part.variant.tandem = true → p < 2 →
    ((s.tport p).st = .detect → (∃ u, Works (.tanPartnerDetect p) s u ∧ (u.tport p).st = .train ∧ (u.tport p).since = s.now)
      ∧ ∃ u, DoesBy (.tanDetectTimeout p) s ((s.tport p).since + 10000) u ∧ u.fixed = (s.waitTo ((s.tport p).since + 10000)).fixed
        ∧ (u.tport p).st = .noPartner ∧ u.bit (hdrOff (0x020 + p) 0x010) 4 = true)
    ∧ (∀ lanes, lanes ≠ 0 → (s.tport p).st = .train → (s.tport p).aligned = false → ∃ u, Works (.tanTrainAlign p lanes) s u
        ∧ (u.tport p).aligned = true ∧ (u.tport p).locked = lanes ∧ (u.tport p).st = .train)
    ∧ (∀ lanes, lanes ≠ 0 → (s.tport p).st = .degrading → Nat.land lanes (s.tport p).lanes = (s.tport p).lanes → ∃ u, Works (.tanTrainAlign p lanes) s u
        ∧ (u.tport p).st = (if (s.tport p).willUp then .up else .linked) ∧ (u.tport p).locked = lanes)
    ∧ (∀ id chip peer top c0 c1 len rec, (s.tport p).st = .train → (s.tport p).aligned = true → ∃ u, Works (.hello p id chip peer top c0 c1 len rec) s u
        ∧ (∀ w lanes, widest (s.tport p).locked (min top (s.maxWidth p)) = some (w, lanes) → (u.tport p).st = .linked ∧ (u.tport p).width = w
            ∧ (u.tport p).lanes = lanes ∧ (u.tport p).peerId = id ∧ (u.tport p).peerChip = chip ∧ (u.tport p).peerPort = peer)
        ∧ (widest (s.tport p).locked (min top (s.maxWidth p)) = none → (u.tport p).st = .failed ∧ u.bit (hdrOff (0x020 + p) 0x010) 3 = true))
    ∧ (∀ lanes, ((s.tport p).st = .linked ∨ (s.tport p).st = .up ∨ (s.tport p).st = .degrading) → Nat.land lanes (s.tport p).lanes ≠ 0 →
        ∃ u, Works (.tanLaneLoss p lanes) s u ∧ ((u.tport p).st = .degrading ∨ (u.tport p).st = .failed)
          ∧ ((s.tport p).width = 1 → (u.tport p).st = .failed ∧ u.bit (hdrOff (0x020 + p) 0x010) 3 = true))

/-- O55. A flit whose check fails is counted and its sequence number is still expected; a good numbered one with the number expected, that
asks for no replay, moves the number on, modulo 4,096. A replay, after 2 µs without acknowledgement or for a NAK that leaves flits
unacknowledged, counts where it does not reach the limit of eight. A request to pair that meets none here waits at its port; one that
meets a pairing ends its wait, agreed or not. An acknowledgement of an agreed pairing brings the port UP at the edge. A pairing not
answered for 10 s ends. But for the record that an agreed pairing writes, the control side of the block stays as it is. (R439, R441, R445)
-/
def Obligations.FlitsAndPairing : Prop :=
  ∀ (s : State) (p : Nat), s.alive = true → s.part.variant.tandem = true → p < 2 →
    ((s.tport p).carries = true →
      (∀ f, ∃ u, Works (.tanFlitReceive p f) s u
        ∧ (flitOk f = false → Counts s u (Reg.TAN_CRC_ERRS p) 1 ∧ (u.tport p).rxNext = (s.tport p).rxNext)
        ∧ (flitOk f = true → (leAt f 1 1).testBit 0 = false → leAt f 0 1 ≠ 0 → leAt f 0 1 ≠ 2 → leAt f 2 2 % 4096 = (s.tport p).rxNext →
            (u.tport p).rxNext = ((s.tport p).rxNext + 1) % 4096 ∧ (u.tport p).nakOpen = false))
      ∧ ((s.tport p).unacked ≠ [] → ∃ u, DoesBy (.tanReplayTimeout p) s ((s.tport p).ackAt + 2) u
          ∧ u.fixed = (s.waitTo ((s.tport p).ackAt + 2)).fixed ∧ ((s.tport p).replays < 7 → Counts s u (Reg.TAN_REPLAYS p) 1))
      ∧ (∀ ack, ∃ u, Works (.tanNak p ack) s u ∧ (((s.acked p (ack % 4096)).tport p).unacked ≠ [] → (s.tport p).replays < 7 → Counts s u (Reg.TAN_REPLAYS p) 1)
          ∧ (((s.acked p (ack % 4096)).tport p).unacked = [] → u = s.acked p (ack % 4096))))
    ∧ (((s.tport p).st = .linked ∨ (s.tport p).st = .up) →
      (∀ own peer, ∃ u, Does (.pairReq p own peer) s u
        ∧ u.fixed = { s.fixed with part := { s.part with tanRecords := u.part.tanRecords } }
        ∧ (s.stalePairing p = none → u.part = s.part ∧ (u.tport p).req = some (own, peer) ∧ u.tan.pairing = s.tan.pairing ∧ u.link = s.link)
        ∧ (∀ x, s.stalePairing p = some x → (u.tport p).req = none ∧ x ∉ u.tan.pairing))
      ∧ (∀ own, own < 256 → Works (.pairAck p own) s (if (s.tan.pairing.any fun x => x.port = p && x.agreed) = true
          then s.setTport p { s.tport p with willUp := true } else s)))
    ∧ (∀ x, s.stalePairing p = some x → ∃ u, DoesBy (.tanPairTimeout p) s (x.since + 10000000) u ∧ u.fixed = (s.waitTo (x.since + 10000000)).fixed
        ∧ x ∉ u.tan.pairing)

/-- O56. A TICK flit leaves its headwind and width with its port and its root. Lock that is due is achieved and signalled where the tick's
source is REF, and not else; lock that is to be lost is lost. On a follower: a STROKE starts the stroke of a READY partition that has
none, at its gear and number, now; a COMMIT is held for the edge. A REPORT is kept. A GROUP_RESET that finds no partition in its slot
changes nothing. (R447, R448, R452, R453, R454, R455, R459) -/
def Obligations.LockAndGroups : Prop :=
  ∀ (s : State) (p : Nat), s.alive = true → s.part.variant.tandem = true → p < 2 →
    (((s.tport p).st = .linked ∨ (s.tport p).st = .up) → ∀ number len h w root skew, ∃ u, Does (.tick p number len h w root skew) s u
      ∧ Tab.find u.tan.peerHW p = some (h, w) ∧ (u.tport p).root = root ∧ (u.tport p).st = (s.tport p).st
      ∧ u.fixed = { s.fixed with tick := { s.tick with trimNs := u.tick.trimNs } })
    ∧ (s.lockDue = true → ∃ u, Works .tanLockAchieved s u
      ∧ (s.tick.source = 0 → s.tick.fallback = false → u.tan.locked = true ∧ u.bit (hdrOff 0x022 0x010) 0 = true)
      ∧ ((s.tick.source ≠ 0 ∨ s.tick.fallback = true) → u.tan.locked = false ∧ u.tan.good = 0))
    ∧ (∀ reason, s.unlockDue reason = true → ∃ u, Works (.tanLockLost reason) s u ∧ (s.prts = [] → u.tan.locked = false ∧ u.bit (hdrOff 0x022 0x010) 1 = true))
    ∧ ((s.tport p).st = .up → ∀ slot,
      (s.grouped slot = true → s.leads slot = false →
        (∀ gear number tick members, ∃ u, Works (.stroke p slot gear number tick members) s u ∧ (s.prtOfSlot slot = none → u.prts = s.prts)
          ∧ ∀ k x, s.prtOfSlot slot = some k → s.prt k = some x → x.st = .ready → x.stroke = none → ∃ y a, u.prt k = some y ∧ y.stroke = some a
            ∧ a.gear = gear ∧ a.number = number ∧ a.start = s.now ∧ y.strokes = x.strokes + 1)
        ∧ (∀ tick, ∃ u, Works (.commit p slot tick) s u ∧ Tab.find u.tan.gotCommit slot = some tick ∧ u.prts = s.prts))
      ∧ (∀ h ed, slot < 256 → Works (.report p slot h ed) s
          { s with tan := { s.tan with remote := Tab.put s.tan.remote (p * 2 ^ 32 + h % 2 ^ 32) ed } })
      ∧ (∀ code, ∃ u, Works (.groupReset p slot code) s u ∧ (s.prtOfSlot slot = none → u = s)))

/-- O57. Over a port that is UP: an offer is answered, and at most one migration in is begun, unfinished, on the port. An accepted offer
keeps its peer handle; a refused or late one is gone, and the failure is counted. A migration in that is complete is done; one given up is
gone. Data of a migration in that is not done joins its bytes at its offset. The first piece of a collective operation counts. The control
side of the block stays as it is. (R443, R456, R457, R458) -/
def Obligations.Migration : Prop :=
  ∀ (s : State) (p : Nat), s.alive = true → s.part.variant.tandem = true → p < 2 →
    (∀ m, s.offered p true = some m → ∃ u, DoesBy (.migLate p) s s.migDeadline u ∧ u.fixed = (s.waitTo s.migDeadline).fixed
      ∧ ∀ x ∈ u.tan.migOut, x.order ≠ m.order)
    ∧ ((s.tport p).st = .up →
      (∀ h layout graph adapter mask bytes, ∃ u, Works (.migOffer p h layout graph adapter mask bytes) s u
        ∧ (u.tan.migIn = s.tan.migIn ∨ ∃ m, u.tan.migIn = s.tan.migIn ++ [m] ∧ m.port = p ∧ m.source = h ∧ m.bytes = bytes ∧ m.done = false ∧ m.data = []))
      ∧ (∀ m, s.offered p false = some m → (∀ h, ∃ u, Works (.migAccept p h) s u ∧ ∃ x ∈ u.tan.migOut, x.order = m.order ∧ x.port = p ∧ x.peer = some h)
          ∧ ∀ code, ∃ u, Works (.migRefuse p code) s u ∧ (∀ x ∈ u.tan.migOut, x.order ≠ m.order) ∧ Counts s u Reg.TAN_MIG_FAILS 1)
      ∧ (∀ m, s.arriving p = some m →
          (∀ n, ∃ u, Works (.migDone p n) s u ∧ { m with done := true, data := m.data.take n } ∈ u.tan.migIn)
          ∧ (∀ code, code < 65536 → ∃ u, Works (.migAbandon p code) s u ∧ m ∉ u.tan.migIn)
          ∧ (∀ num o data, num < 65536 → m.done = false → ∃ u, Works (.xfer p num o data) s u
              ∧ { m with data := m.data.take o ++ data } ∈ u.tan.migIn ∧ u.seqs = s.seqs ∧ u.streams = s.streams))
      ∧ (∀ num o data, num < 65536 → ∃ u, Works (.xfer p num o data) s u)
      ∧ (∀ num o data, num < 65536 → data.length ≤ 236 → s.groupWorks = true → ∃ u, Works (.coll p num o data) s u
          ∧ (o = 0 → Counts s u Reg.TAN_COLL_OPS 1) ∧ (o ≠ 0 → u = s))
      ∧ (∀ num tags data, ∃ u, Works (.act p num tags data) s u ∧ (s.str num = none → s.seq num = none → u = s)))

/-- O58. While at most 1,024 positions hold a COMMAND entry without an outcome, an entry is stored, with the next sequence number and the
epoch, at the first position from the write position on, round the 8,192, that holds none such; every position that holds one, and every
other, is as before; and the write position follows it. (R208) -/
def Obligations.JournalPassesOverPending : Prop :=
  ∀ (j : Journal) (e : JEntry), j.write < Journal.size →
    let pend := fun p => match Tab.find j.pos p with | some x => x.pending | none => false
    (List.range Journal.size).countP pend ≤ 1024 →
    ∃ k, k < Journal.size ∧ pend ((j.write + k) % Journal.size) = false ∧ (∀ i, i < k → pend ((j.write + i) % Journal.size) = true)
      ∧ Tab.find (j.store e).pos ((j.write + k) % Journal.size) = some (JEntry.sealed { e with seq := j.next, epoch := j.epoch })
      ∧ (∀ p, p ≠ (j.write + k) % Journal.size → Tab.find (j.store e).pos p = Tab.find j.pos p)
      ∧ (j.store e).write = (j.write + k + 1) % Journal.size

/-- O59. Every field of a journal entry whose values lie in their sizes reads back from its 32 bytes at the offset of Table 7-8, and its
check is the CRC-16 of the first 30. Every field of a completion entry reads back from its 32 bytes at the offset of Table 7-4, with the
phase in the top bit. (R206, R198, R8) -/
def Obligations.EntriesInTheirLayouts : Prop :=
  (∀ (e : JEntry), e.seq < 2 ^ 48 → e.epoch < 2 ^ 16 → e.type < 2 ^ 8 → e.agent < 2 ^ 8 → e.code < 2 ^ 16 → e.tag < 2 ^ 16 → e.op < 2 ^ 8 → e.flags < 2 ^ 8
      → e.arg0 < 2 ^ 32 → e.arg1 < 2 ^ 16 → let b := (JEntry.sealed e).bytes
    b.length = 32 ∧ leAt b 0x00 6 = e.seq ∧ leAt b 0x06 2 = e.epoch ∧ leAt b 0x08 8 = e.tick.toNat ∧ leAt b 0x10 1 = e.type ∧ leAt b 0x11 1 = e.agent
      ∧ leAt b 0x12 2 = e.code ∧ leAt b 0x14 2 = e.tag ∧ leAt b 0x16 1 = e.op ∧ leAt b 0x17 1 = e.flags ∧ leAt b 0x18 4 = e.arg0
      ∧ leAt b 0x1C 2 = e.arg1 ∧ leAt b 0x1E 2 = crc16 (b.take 0x1E))
  ∧ ∀ (e : CplEntry) (tick : DWord) (phase : Nat), e.tick = some tick → phase < 2 → e.tag < 2 ^ 16 → e.code < 2 ^ 8 → e.sq < 4 → e.status < 2 ^ 16 → e.epoch < 2 ^ 16
      → e.seq < 2 ^ 48 → e.result < 2 ^ 32 → e.payload.length < 2 ^ 24 → let b := e.bytes phase
    b.length = 32 ∧ leAt b 0x00 2 = e.tag ∧ leAt b 0x02 1 = e.code ∧ leAt b 0x03 1 / 4 = e.sq
      ∧ leAt b 0x03 1 % 4 = (match e.kind with | .final => 0 | .output => 1 | .event => 2) ∧ leAt b 0x04 2 = e.status ∧ leAt b 0x06 2 = e.epoch
      ∧ leAt b 0x08 6 = e.seq ∧ leAt b 0x0E 2 = 0 ∧ leAt b 0x10 8 = tick.toNat ∧ leAt b 0x18 4 = e.result
      ∧ leAt b 0x1C 3 = (if e.kind = .output then e.payload.length else 0) ∧ leAt b 0x1F 1 = 128 * phase

/-- O60. In a buffer of a whole number of 64 bytes whose regions lie apart within it, a payload is placed at the next 64-byte boundary, or
at offset 0 where it does not fit before the end; where that place is free it occupies its length rounded up to 64 bytes, and all regions
still lie apart within the buffer; where it is not, the payload finds no place. (R200) -/
def Obligations.OutputBuffersDoNotOverlap : Prop :=
  ∀ (b : OutBuf) (n : Nat),
    let good := fun (c : OutBuf) => c.next % 64 = 0 ∧ c.next ≤ c.len ∧ (∀ r ∈ c.regions, r.2.1 % 64 = 0 ∧ r.2.1 + r.2.2 ≤ c.len)
      ∧ c.regions.Pairwise fun x y => x.2.1 + x.2.2 ≤ y.2.1 ∨ y.2.1 + y.2.2 ≤ x.2.1
    let size := (n + 63) / 64 * 64
    let o := if b.next + size ≤ b.len then b.next else 0
    b.len % 64 = 0 → good b →
      (∀ a c, b.place n = some (a, c) → a = o ∧ good c ∧ c.len = b.len ∧ c.addr = b.addr ∧ c.regions = b.regions ++ [(b.nextId, o, size)])
      ∧ (b.place n = none → ¬ (o + size ≤ b.len ∧ ∀ r ∈ b.regions, o + size ≤ r.2.1 ∨ r.2.1 + r.2.2 ≤ o))
end

