-- ==== Sys2Proof/Laws/Tab.lean ====
section
/-! SUPPORT. Laws of sparse tables: reading back what was put, every other key unchanged, and the strictly rising order of keys. -/
namespace Sys2Proof.Machine

variable {A : Type}

theorem Tab.find_erase_same {K : Type} [DecidableEq K] (t : List (K × A)) (k : K) : Tab.find (Tab.erase t k) k = none := by
  induction t with
  | nil => rfl
  | cons p t ih =>
    by_cases h : p.1 = k
    · simpa [Tab.erase, h] using ih
    · simpa [Tab.erase, h, Tab.find] using ih

theorem Tab.find_erase_other {K : Type} [DecidableEq K] (t : List (K × A)) (k j : K) (h : j ≠ k) :
    Tab.find (Tab.erase t k) j = Tab.find t j := by
  induction t with
  | nil => rfl
  | cons p t ih =>
    by_cases hp : p.1 = k
    · have hj : p.1 ≠ j := fun e => h (e.symm.trans hp)
      simpa [Tab.erase, hp, Tab.find, hj, Ne.symm h] using ih
    · by_cases hj : p.1 = j
      · simp [Tab.erase, Tab.find, hj, h]
      · simpa [Tab.erase, hp, Tab.find, hj] using ih

theorem Tab.find_insert_same (t : List (Nat × A)) (k : Nat) (a : A) (h : Tab.find t k = none) :
    Tab.find (Tab.insert k a t) k = some a := by
  induction t with
  | nil => simp [Tab.insert, Tab.find]
  | cons p t ih =>
    by_cases hp : p.1 = k
    · simp [Tab.find, hp] at h
    · simp only [Tab.find, hp, if_false] at h
      by_cases hl : p.1 < k
      · simp [Tab.insert, hl, Tab.find, hp, ih h]
      · simp [Tab.insert, hl, Tab.find]

theorem Tab.find_insert_other (t : List (Nat × A)) (k j : Nat) (a : A) (h : j ≠ k) :
    Tab.find (Tab.insert k a t) j = Tab.find t j := by
  induction t with
  | nil => simp [Tab.insert, Tab.find, Ne.symm h]
  | cons p t ih =>
    by_cases hl : p.1 < k
    · simp [Tab.insert, hl, Tab.find, ih]
    · simp [Tab.insert, hl, Tab.find, Ne.symm h]

@[simp] theorem Tab.find_put_same (t : List (Nat × A)) (k : Nat) (a : A) : Tab.find (Tab.put t k a) k = some a :=
  Tab.find_insert_same _ _ _ (Tab.find_erase_same _ _)

@[simp] theorem Tab.find_put_other (t : List (Nat × A)) (k j : Nat) (a : A) (h : j ≠ k) : Tab.find (Tab.put t k a) j = Tab.find t j := by
  rw [Tab.put, Tab.find_insert_other _ _ _ _ h, Tab.find_erase_other _ _ _ h]

@[simp] theorem Tab.get_put_same (d : A) (t : List (Nat × A)) (k : Nat) (a : A) : Tab.get d (Tab.put t k a) k = a := by
  simp [Tab.get]

@[simp] theorem Tab.get_put_other (d : A) (t : List (Nat × A)) (k j : Nat) (a : A) (h : j ≠ k) :
    Tab.get d (Tab.put t k a) j = Tab.get d t j := by simp [Tab.get, h]

@[simp] theorem Tab.get_putD_same [DecidableEq A] (d : A) (t : List (Nat × A)) (k : Nat) (a : A) :
    Tab.get d (Tab.putD d t k a) k = a := by
  unfold Tab.putD
  split
  · rename_i h
    simp [Tab.get, Tab.find_erase_same, h]
  · simp [Tab.get, Tab.find_insert_same _ _ _ (Tab.find_erase_same _ _)]

theorem Tab.find_putD_other [DecidableEq A] (d : A) (t : List (Nat × A)) (k j : Nat) (a : A) (h : j ≠ k) :
    Tab.find (Tab.putD d t k a) j = Tab.find t j := by
  unfold Tab.putD
  split
  · exact Tab.find_erase_other _ _ _ h
  · rw [Tab.find_insert_other _ _ _ _ h, Tab.find_erase_other _ _ _ h]

theorem Tab.get_putD_other [DecidableEq A] (d e : A) (t : List (Nat × A)) (k j : Nat) (a : A) (h : j ≠ k) :
    Tab.get d (Tab.putD e t k a) j = Tab.get d t j := by simp [Tab.get, Tab.find_putD_other _ _ _ _ _ h]

@[simp] theorem Tab.find_set_same {K : Type} [DecidableEq K] (t : List (K × A)) (k : K) (a : A) : Tab.find (Tab.set t k a) k = some a := by
  simp [Tab.set, Tab.find]

@[simp] theorem Tab.find_set_other {K : Type} [DecidableEq K] (t : List (K × A)) (k j : K) (a : A) (h : j ≠ k) :
    Tab.find (Tab.set t k a) j = Tab.find t j := by
  simp [Tab.set, Tab.find, Ne.symm h, Tab.find_erase_other _ _ _ h]

/-! ### Order of keys -/

theorem Tab.mem_insert {k : Nat} {a : A} {t : List (Nat × A)} {x : Nat × A} (h : x ∈ Tab.insert k a t) : x = (k, a) ∨ x ∈ t := by
  induction t with
  | nil => simpa [Tab.insert] using h
  | cons p t ih =>
    by_cases hl : p.1 < k
    · simp only [Tab.insert, hl, if_true, List.mem_cons] at h
      rcases h with h | h
      · exact .inr (by simp [h])
      · rcases ih h with h | h
        · exact .inl h
        · exact .inr (by simp [h])
    · simpa [Tab.insert, hl] using h

theorem Tab.pairwise_insert {k : Nat} {a : A} {t : List (Nat × A)} (h : t.Pairwise fun x y => x.1 < y.1) (hk : ∀ x ∈ t, x.1 ≠ k) :
    (Tab.insert k a t).Pairwise fun x y => x.1 < y.1 := by
  induction t with
  | nil => simp [Tab.insert]
  | cons p t ih =>
    obtain ⟨hp, ht⟩ := List.pairwise_cons.1 h
    by_cases hl : p.1 < k
    · simp only [Tab.insert, hl, if_true]
      refine List.pairwise_cons.2 ⟨fun x hx => ?_, ih ht fun x hx => hk x (by simp [hx])⟩
      rcases Tab.mem_insert hx with rfl | hx
      · exact hl
      · exact hp x hx
    · simp only [Tab.insert, hl, if_false]
      have hkp : k < p.1 := by
        have := hk p (by simp)
        omega
      refine List.pairwise_cons.2 ⟨fun x hx => ?_, h⟩
      rcases List.mem_cons.1 hx with rfl | hx
      · exact hkp
      · exact lt_trans hkp (hp x hx)

theorem Tab.pairwise_erase {k : Nat} {t : List (Nat × A)} (h : t.Pairwise fun x y => x.1 < y.1) :
    (Tab.erase t k).Pairwise fun x y => x.1 < y.1 := h.sublist List.filter_sublist

theorem Tab.mem_erase {k : Nat} {t : List (Nat × A)} {x : Nat × A} (h : x ∈ Tab.erase t k) : x ∈ t ∧ x.1 ≠ k := by
  simpa [Tab.erase] using h

theorem Tab.pairwise_put {k : Nat} {a : A} {t : List (Nat × A)} (h : t.Pairwise fun x y => x.1 < y.1) :
    (Tab.put t k a).Pairwise fun x y => x.1 < y.1 :=
  Tab.pairwise_insert (Tab.pairwise_erase h) fun _ hx => (Tab.mem_erase hx).2

theorem Tab.pairwise_putD [DecidableEq A] {d : A} {k : Nat} {a : A} {t : List (Nat × A)} (h : t.Pairwise fun x y => x.1 < y.1) :
    (Tab.putD d t k a).Pairwise fun x y => x.1 < y.1 := by
  unfold Tab.putD
  split
  · exact Tab.pairwise_erase h
  · exact Tab.pairwise_put h

theorem Tab.mem_putD [DecidableEq A] {d : A} {k : Nat} {a : A} {t : List (Nat × A)} {x : Nat × A} (h : x ∈ Tab.putD d t k a) :
    (x.1 = k ∧ x.2 = a ∧ a ≠ d) ∨ (x ∈ t ∧ x.1 ≠ k) := by
  unfold Tab.putD at h
  split at h
  · exact .inr (Tab.mem_erase h)
  · rename_i hd
    rcases Tab.mem_insert h with rfl | h
    · exact .inl ⟨rfl, rfl, hd⟩
    · exact .inr (Tab.mem_erase h)

end Sys2Proof.Machine
end

