-- ==== Sys2Proof/Laws/State.lean ====
section
/-! SUPPORT. One lemma per field of the state and shared update: what the update leaves as it was. -/
namespace Sys2Proof.Machine
open Sys2Proof

/-! ### `State.wr` -/

@[simp] theorem State.wr_pending (s : State) (off : Nat) (w : Word) : (s.wr off w).pending = s.pending := rfl
@[simp] theorem State.wr_now (s : State) (off : Nat) (w : Word) : (s.wr off w).now = s.now := rfl
@[simp] theorem State.wr_freeCtr (s : State) (off : Nat) (w : Word) : (s.wr off w).freeCtr = s.freeCtr := rfl
@[simp] theorem State.wr_part (s : State) (off : Nat) (w : Word) : (s.wr off w).part = s.part := rfl
@[simp] theorem State.wr_tick (s : State) (off : Nat) (w : Word) : (s.wr off w).tick = s.tick := rfl
@[simp] theorem State.wr_pwr (s : State) (off : Nat) (w : Word) : (s.wr off w).pwr = s.pwr := rfl
@[simp] theorem State.wr_gov (s : State) (off : Nat) (w : Word) : (s.wr off w).gov = s.gov := rfl
@[simp] theorem State.wr_sensors (s : State) (off : Nat) (w : Word) : (s.wr off w).sensors = s.sensors := rfl
@[simp] theorem State.wr_hubs (s : State) (off : Nat) (w : Word) : (s.wr off w).hubs = s.hubs := rfl
@[simp] theorem State.wr_boot (s : State) (off : Nat) (w : Word) : (s.wr off w).boot = s.boot := rfl
@[simp] theorem State.wr_link (s : State) (off : Nat) (w : Word) : (s.wr off w).link = s.link := rfl
@[simp] theorem State.wr_jnl (s : State) (off : Nat) (w : Word) : (s.wr off w).jnl = s.jnl := rfl
@[simp] theorem State.wr_window (s : State) (off : Nat) (w : Word) : (s.wr off w).window = s.window := rfl
@[simp] theorem State.wr_debug (s : State) (off : Nat) (w : Word) : (s.wr off w).debug = s.debug := rfl
@[simp] theorem State.wr_mem (s : State) (off : Nat) (w : Word) : (s.wr off w).mem = s.mem := rfl
@[simp] theorem State.wr_slots (s : State) (off : Nat) (w : Word) : (s.wr off w).slots = s.slots := rfl
@[simp] theorem State.wr_loads (s : State) (off : Nat) (w : Word) : (s.wr off w).loads = s.loads := rfl
@[simp] theorem State.wr_prts (s : State) (off : Nat) (w : Word) : (s.wr off w).prts = s.prts := rfl
@[simp] theorem State.wr_streams (s : State) (off : Nat) (w : Word) : (s.wr off w).streams = s.streams := rfl
@[simp] theorem State.wr_seqs (s : State) (off : Nat) (w : Word) : (s.wr off w).seqs = s.seqs := rfl
@[simp] theorem State.wr_links (s : State) (off : Nat) (w : Word) : (s.wr off w).links = s.links := rfl
@[simp] theorem State.wr_flights (s : State) (off : Nat) (w : Word) : (s.wr off w).flights = s.flights := rfl
@[simp] theorem State.wr_aud (s : State) (off : Nat) (w : Word) : (s.wr off w).aud = s.aud := rfl
@[simp] theorem State.wr_isl (s : State) (off : Nat) (w : Word) : (s.wr off w).isl = s.isl := rfl
@[simp] theorem State.wr_trc (s : State) (off : Nat) (w : Word) : (s.wr off w).trc = s.trc := rfl
@[simp] theorem State.wr_tan (s : State) (off : Nat) (w : Word) : (s.wr off w).tan = s.tan := rfl
@[simp] theorem State.wr_out (s : State) (off : Nat) (w : Word) : (s.wr off w).out = s.out := rfl

/-! ### `State.emit` -/

@[simp] theorem State.emit_pending (s : State) (e : OutEvent) : (s.emit e).pending = s.pending := rfl
@[simp] theorem State.emit_now (s : State) (e : OutEvent) : (s.emit e).now = s.now := rfl
@[simp] theorem State.emit_freeCtr (s : State) (e : OutEvent) : (s.emit e).freeCtr = s.freeCtr := rfl
@[simp] theorem State.emit_part (s : State) (e : OutEvent) : (s.emit e).part = s.part := rfl
@[simp] theorem State.emit_tick (s : State) (e : OutEvent) : (s.emit e).tick = s.tick := rfl
@[simp] theorem State.emit_regs (s : State) (e : OutEvent) : (s.emit e).regs = s.regs := rfl
@[simp] theorem State.emit_pwr (s : State) (e : OutEvent) : (s.emit e).pwr = s.pwr := rfl
@[simp] theorem State.emit_gov (s : State) (e : OutEvent) : (s.emit e).gov = s.gov := rfl
@[simp] theorem State.emit_sensors (s : State) (e : OutEvent) : (s.emit e).sensors = s.sensors := rfl
@[simp] theorem State.emit_hubs (s : State) (e : OutEvent) : (s.emit e).hubs = s.hubs := rfl
@[simp] theorem State.emit_boot (s : State) (e : OutEvent) : (s.emit e).boot = s.boot := rfl
@[simp] theorem State.emit_link (s : State) (e : OutEvent) : (s.emit e).link = s.link := rfl
@[simp] theorem State.emit_jnl (s : State) (e : OutEvent) : (s.emit e).jnl = s.jnl := rfl
@[simp] theorem State.emit_window (s : State) (e : OutEvent) : (s.emit e).window = s.window := rfl
@[simp] theorem State.emit_debug (s : State) (e : OutEvent) : (s.emit e).debug = s.debug := rfl
@[simp] theorem State.emit_mem (s : State) (e : OutEvent) : (s.emit e).mem = s.mem := rfl
@[simp] theorem State.emit_slots (s : State) (e : OutEvent) : (s.emit e).slots = s.slots := rfl
@[simp] theorem State.emit_loads (s : State) (e : OutEvent) : (s.emit e).loads = s.loads := rfl
@[simp] theorem State.emit_prts (s : State) (e : OutEvent) : (s.emit e).prts = s.prts := rfl
@[simp] theorem State.emit_streams (s : State) (e : OutEvent) : (s.emit e).streams = s.streams := rfl
@[simp] theorem State.emit_seqs (s : State) (e : OutEvent) : (s.emit e).seqs = s.seqs := rfl
@[simp] theorem State.emit_links (s : State) (e : OutEvent) : (s.emit e).links = s.links := rfl
@[simp] theorem State.emit_flights (s : State) (e : OutEvent) : (s.emit e).flights = s.flights := rfl
@[simp] theorem State.emit_aud (s : State) (e : OutEvent) : (s.emit e).aud = s.aud := rfl
@[simp] theorem State.emit_isl (s : State) (e : OutEvent) : (s.emit e).isl = s.isl := rfl
@[simp] theorem State.emit_trc (s : State) (e : OutEvent) : (s.emit e).trc = s.trc := rfl
@[simp] theorem State.emit_tan (s : State) (e : OutEvent) : (s.emit e).tan = s.tan := rfl

/-! ### `State.setVec` -/

@[simp] theorem State.setVec_pending (s : State) (n v : Nat) (x : VecState) : (s.setVec n v x).pending = s.pending := rfl
@[simp] theorem State.setVec_now (s : State) (n v : Nat) (x : VecState) : (s.setVec n v x).now = s.now := rfl
@[simp] theorem State.setVec_freeCtr (s : State) (n v : Nat) (x : VecState) : (s.setVec n v x).freeCtr = s.freeCtr := rfl
@[simp] theorem State.setVec_part (s : State) (n v : Nat) (x : VecState) : (s.setVec n v x).part = s.part := rfl
@[simp] theorem State.setVec_tick (s : State) (n v : Nat) (x : VecState) : (s.setVec n v x).tick = s.tick := rfl
@[simp] theorem State.setVec_regs (s : State) (n v : Nat) (x : VecState) : (s.setVec n v x).regs = s.regs := rfl
@[simp] theorem State.setVec_pwr (s : State) (n v : Nat) (x : VecState) : (s.setVec n v x).pwr = s.pwr := rfl
@[simp] theorem State.setVec_gov (s : State) (n v : Nat) (x : VecState) : (s.setVec n v x).gov = s.gov := rfl
@[simp] theorem State.setVec_sensors (s : State) (n v : Nat) (x : VecState) : (s.setVec n v x).sensors = s.sensors := rfl
@[simp] theorem State.setVec_hubs (s : State) (n v : Nat) (x : VecState) : (s.setVec n v x).hubs = s.hubs := rfl
@[simp] theorem State.setVec_boot (s : State) (n v : Nat) (x : VecState) : (s.setVec n v x).boot = s.boot := rfl
@[simp] theorem State.setVec_jnl (s : State) (n v : Nat) (x : VecState) : (s.setVec n v x).jnl = s.jnl := rfl
@[simp] theorem State.setVec_window (s : State) (n v : Nat) (x : VecState) : (s.setVec n v x).window = s.window := rfl
@[simp] theorem State.setVec_debug (s : State) (n v : Nat) (x : VecState) : (s.setVec n v x).debug = s.debug := rfl
@[simp] theorem State.setVec_mem (s : State) (n v : Nat) (x : VecState) : (s.setVec n v x).mem = s.mem := rfl
@[simp] theorem State.setVec_slots (s : State) (n v : Nat) (x : VecState) : (s.setVec n v x).slots = s.slots := rfl
@[simp] theorem State.setVec_loads (s : State) (n v : Nat) (x : VecState) : (s.setVec n v x).loads = s.loads := rfl
@[simp] theorem State.setVec_prts (s : State) (n v : Nat) (x : VecState) : (s.setVec n v x).prts = s.prts := rfl
@[simp] theorem State.setVec_streams (s : State) (n v : Nat) (x : VecState) : (s.setVec n v x).streams = s.streams := rfl
@[simp] theorem State.setVec_seqs (s : State) (n v : Nat) (x : VecState) : (s.setVec n v x).seqs = s.seqs := rfl
@[simp] theorem State.setVec_links (s : State) (n v : Nat) (x : VecState) : (s.setVec n v x).links = s.links := rfl
@[simp] theorem State.setVec_flights (s : State) (n v : Nat) (x : VecState) : (s.setVec n v x).flights = s.flights := rfl
@[simp] theorem State.setVec_aud (s : State) (n v : Nat) (x : VecState) : (s.setVec n v x).aud = s.aud := rfl
@[simp] theorem State.setVec_isl (s : State) (n v : Nat) (x : VecState) : (s.setVec n v x).isl = s.isl := rfl
@[simp] theorem State.setVec_trc (s : State) (n v : Nat) (x : VecState) : (s.setVec n v x).trc = s.trc := rfl
@[simp] theorem State.setVec_tan (s : State) (n v : Nat) (x : VecState) : (s.setVec n v x).tan = s.tan := rfl
@[simp] theorem State.setVec_out (s : State) (n v : Nat) (x : VecState) : (s.setVec n v x).out = s.out := rfl

/-! ### `State.setMem` -/

@[simp] theorem State.setMem_pending (s : State) (m : Stacks) : (s.setMem m).pending = s.pending := rfl
@[simp] theorem State.setMem_now (s : State) (m : Stacks) : (s.setMem m).now = s.now := rfl
@[simp] theorem State.setMem_freeCtr (s : State) (m : Stacks) : (s.setMem m).freeCtr = s.freeCtr := rfl
@[simp] theorem State.setMem_part (s : State) (m : Stacks) : (s.setMem m).part = s.part := rfl
@[simp] theorem State.setMem_tick (s : State) (m : Stacks) : (s.setMem m).tick = s.tick := rfl
@[simp] theorem State.setMem_regs (s : State) (m : Stacks) : (s.setMem m).regs = s.regs := rfl
@[simp] theorem State.setMem_pwr (s : State) (m : Stacks) : (s.setMem m).pwr = s.pwr := rfl
@[simp] theorem State.setMem_gov (s : State) (m : Stacks) : (s.setMem m).gov = s.gov := rfl
@[simp] theorem State.setMem_sensors (s : State) (m : Stacks) : (s.setMem m).sensors = s.sensors := rfl
@[simp] theorem State.setMem_hubs (s : State) (m : Stacks) : (s.setMem m).hubs = s.hubs := rfl
@[simp] theorem State.setMem_boot (s : State) (m : Stacks) : (s.setMem m).boot = s.boot := rfl
@[simp] theorem State.setMem_link (s : State) (m : Stacks) : (s.setMem m).link = s.link := rfl
@[simp] theorem State.setMem_jnl (s : State) (m : Stacks) : (s.setMem m).jnl = s.jnl := rfl
@[simp] theorem State.setMem_window (s : State) (m : Stacks) : (s.setMem m).window = s.window := rfl
@[simp] theorem State.setMem_debug (s : State) (m : Stacks) : (s.setMem m).debug = s.debug := rfl
@[simp] theorem State.setMem_slots (s : State) (m : Stacks) : (s.setMem m).slots = s.slots := rfl
@[simp] theorem State.setMem_loads (s : State) (m : Stacks) : (s.setMem m).loads = s.loads := rfl
@[simp] theorem State.setMem_prts (s : State) (m : Stacks) : (s.setMem m).prts = s.prts := rfl
@[simp] theorem State.setMem_streams (s : State) (m : Stacks) : (s.setMem m).streams = s.streams := rfl
@[simp] theorem State.setMem_seqs (s : State) (m : Stacks) : (s.setMem m).seqs = s.seqs := rfl
@[simp] theorem State.setMem_links (s : State) (m : Stacks) : (s.setMem m).links = s.links := rfl
@[simp] theorem State.setMem_flights (s : State) (m : Stacks) : (s.setMem m).flights = s.flights := rfl
@[simp] theorem State.setMem_aud (s : State) (m : Stacks) : (s.setMem m).aud = s.aud := rfl
@[simp] theorem State.setMem_isl (s : State) (m : Stacks) : (s.setMem m).isl = s.isl := rfl
@[simp] theorem State.setMem_trc (s : State) (m : Stacks) : (s.setMem m).trc = s.trc := rfl
@[simp] theorem State.setMem_tan (s : State) (m : Stacks) : (s.setMem m).tan = s.tan := rfl
@[simp] theorem State.setMem_out (s : State) (m : Stacks) : (s.setMem m).out = s.out := rfl

/-! ### `State.setChan` -/

@[simp] theorem State.setChan_pending (s : State) (n : Nat) (c : Channel) : (s.setChan n c).pending = s.pending := rfl
@[simp] theorem State.setChan_now (s : State) (n : Nat) (c : Channel) : (s.setChan n c).now = s.now := rfl
@[simp] theorem State.setChan_freeCtr (s : State) (n : Nat) (c : Channel) : (s.setChan n c).freeCtr = s.freeCtr := rfl
@[simp] theorem State.setChan_part (s : State) (n : Nat) (c : Channel) : (s.setChan n c).part = s.part := rfl
@[simp] theorem State.setChan_tick (s : State) (n : Nat) (c : Channel) : (s.setChan n c).tick = s.tick := rfl
@[simp] theorem State.setChan_regs (s : State) (n : Nat) (c : Channel) : (s.setChan n c).regs = s.regs := rfl
@[simp] theorem State.setChan_pwr (s : State) (n : Nat) (c : Channel) : (s.setChan n c).pwr = s.pwr := rfl
@[simp] theorem State.setChan_gov (s : State) (n : Nat) (c : Channel) : (s.setChan n c).gov = s.gov := rfl
@[simp] theorem State.setChan_sensors (s : State) (n : Nat) (c : Channel) : (s.setChan n c).sensors = s.sensors := rfl
@[simp] theorem State.setChan_hubs (s : State) (n : Nat) (c : Channel) : (s.setChan n c).hubs = s.hubs := rfl
@[simp] theorem State.setChan_boot (s : State) (n : Nat) (c : Channel) : (s.setChan n c).boot = s.boot := rfl
@[simp] theorem State.setChan_link (s : State) (n : Nat) (c : Channel) : (s.setChan n c).link = s.link := rfl
@[simp] theorem State.setChan_jnl (s : State) (n : Nat) (c : Channel) : (s.setChan n c).jnl = s.jnl := rfl
@[simp] theorem State.setChan_window (s : State) (n : Nat) (c : Channel) : (s.setChan n c).window = s.window := rfl
@[simp] theorem State.setChan_debug (s : State) (n : Nat) (c : Channel) : (s.setChan n c).debug = s.debug := rfl
@[simp] theorem State.setChan_slots (s : State) (n : Nat) (c : Channel) : (s.setChan n c).slots = s.slots := rfl
@[simp] theorem State.setChan_loads (s : State) (n : Nat) (c : Channel) : (s.setChan n c).loads = s.loads := rfl
@[simp] theorem State.setChan_prts (s : State) (n : Nat) (c : Channel) : (s.setChan n c).prts = s.prts := rfl
@[simp] theorem State.setChan_streams (s : State) (n : Nat) (c : Channel) : (s.setChan n c).streams = s.streams := rfl
@[simp] theorem State.setChan_seqs (s : State) (n : Nat) (c : Channel) : (s.setChan n c).seqs = s.seqs := rfl
@[simp] theorem State.setChan_links (s : State) (n : Nat) (c : Channel) : (s.setChan n c).links = s.links := rfl
@[simp] theorem State.setChan_flights (s : State) (n : Nat) (c : Channel) : (s.setChan n c).flights = s.flights := rfl
@[simp] theorem State.setChan_aud (s : State) (n : Nat) (c : Channel) : (s.setChan n c).aud = s.aud := rfl
@[simp] theorem State.setChan_isl (s : State) (n : Nat) (c : Channel) : (s.setChan n c).isl = s.isl := rfl
@[simp] theorem State.setChan_trc (s : State) (n : Nat) (c : Channel) : (s.setChan n c).trc = s.trc := rfl
@[simp] theorem State.setChan_tan (s : State) (n : Nat) (c : Channel) : (s.setChan n c).tan = s.tan := rfl
@[simp] theorem State.setChan_out (s : State) (n : Nat) (c : Channel) : (s.setChan n c).out = s.out := rfl

/-! ### `State.setTport` -/

@[simp] theorem State.setTport_pending (s : State) (p : Nat) (x : TanPort) : (s.setTport p x).pending = s.pending := rfl
@[simp] theorem State.setTport_now (s : State) (p : Nat) (x : TanPort) : (s.setTport p x).now = s.now := rfl
@[simp] theorem State.setTport_freeCtr (s : State) (p : Nat) (x : TanPort) : (s.setTport p x).freeCtr = s.freeCtr := rfl
@[simp] theorem State.setTport_part (s : State) (p : Nat) (x : TanPort) : (s.setTport p x).part = s.part := rfl
@[simp] theorem State.setTport_tick (s : State) (p : Nat) (x : TanPort) : (s.setTport p x).tick = s.tick := rfl
@[simp] theorem State.setTport_regs (s : State) (p : Nat) (x : TanPort) : (s.setTport p x).regs = s.regs := rfl
@[simp] theorem State.setTport_pwr (s : State) (p : Nat) (x : TanPort) : (s.setTport p x).pwr = s.pwr := rfl
@[simp] theorem State.setTport_gov (s : State) (p : Nat) (x : TanPort) : (s.setTport p x).gov = s.gov := rfl
@[simp] theorem State.setTport_sensors (s : State) (p : Nat) (x : TanPort) : (s.setTport p x).sensors = s.sensors := rfl
@[simp] theorem State.setTport_hubs (s : State) (p : Nat) (x : TanPort) : (s.setTport p x).hubs = s.hubs := rfl
@[simp] theorem State.setTport_boot (s : State) (p : Nat) (x : TanPort) : (s.setTport p x).boot = s.boot := rfl
@[simp] theorem State.setTport_link (s : State) (p : Nat) (x : TanPort) : (s.setTport p x).link = s.link := rfl
@[simp] theorem State.setTport_jnl (s : State) (p : Nat) (x : TanPort) : (s.setTport p x).jnl = s.jnl := rfl
@[simp] theorem State.setTport_window (s : State) (p : Nat) (x : TanPort) : (s.setTport p x).window = s.window := rfl
@[simp] theorem State.setTport_debug (s : State) (p : Nat) (x : TanPort) : (s.setTport p x).debug = s.debug := rfl
@[simp] theorem State.setTport_mem (s : State) (p : Nat) (x : TanPort) : (s.setTport p x).mem = s.mem := rfl
@[simp] theorem State.setTport_slots (s : State) (p : Nat) (x : TanPort) : (s.setTport p x).slots = s.slots := rfl
@[simp] theorem State.setTport_loads (s : State) (p : Nat) (x : TanPort) : (s.setTport p x).loads = s.loads := rfl
@[simp] theorem State.setTport_prts (s : State) (p : Nat) (x : TanPort) : (s.setTport p x).prts = s.prts := rfl
@[simp] theorem State.setTport_streams (s : State) (p : Nat) (x : TanPort) : (s.setTport p x).streams = s.streams := rfl
@[simp] theorem State.setTport_seqs (s : State) (p : Nat) (x : TanPort) : (s.setTport p x).seqs = s.seqs := rfl
@[simp] theorem State.setTport_links (s : State) (p : Nat) (x : TanPort) : (s.setTport p x).links = s.links := rfl
@[simp] theorem State.setTport_flights (s : State) (p : Nat) (x : TanPort) : (s.setTport p x).flights = s.flights := rfl
@[simp] theorem State.setTport_aud (s : State) (p : Nat) (x : TanPort) : (s.setTport p x).aud = s.aud := rfl
@[simp] theorem State.setTport_isl (s : State) (p : Nat) (x : TanPort) : (s.setTport p x).isl = s.isl := rfl
@[simp] theorem State.setTport_trc (s : State) (p : Nat) (x : TanPort) : (s.setTport p x).trc = s.trc := rfl
@[simp] theorem State.setTport_out (s : State) (p : Nat) (x : TanPort) : (s.setTport p x).out = s.out := rfl

/-! ### `State.waitTo` -/

@[simp] theorem State.waitTo_pending (s : State) (t : Nat) : (s.waitTo t).pending = s.pending := rfl
@[simp] theorem State.waitTo_freeCtr (s : State) (t : Nat) : (s.waitTo t).freeCtr = s.freeCtr := rfl
@[simp] theorem State.waitTo_part (s : State) (t : Nat) : (s.waitTo t).part = s.part := rfl
@[simp] theorem State.waitTo_tick (s : State) (t : Nat) : (s.waitTo t).tick = s.tick := rfl
@[simp] theorem State.waitTo_regs (s : State) (t : Nat) : (s.waitTo t).regs = s.regs := rfl
@[simp] theorem State.waitTo_pwr (s : State) (t : Nat) : (s.waitTo t).pwr = s.pwr := rfl
@[simp] theorem State.waitTo_gov (s : State) (t : Nat) : (s.waitTo t).gov = s.gov := rfl
@[simp] theorem State.waitTo_sensors (s : State) (t : Nat) : (s.waitTo t).sensors = s.sensors := rfl
@[simp] theorem State.waitTo_hubs (s : State) (t : Nat) : (s.waitTo t).hubs = s.hubs := rfl
@[simp] theorem State.waitTo_boot (s : State) (t : Nat) : (s.waitTo t).boot = s.boot := rfl
@[simp] theorem State.waitTo_link (s : State) (t : Nat) : (s.waitTo t).link = s.link := rfl
@[simp] theorem State.waitTo_jnl (s : State) (t : Nat) : (s.waitTo t).jnl = s.jnl := rfl
@[simp] theorem State.waitTo_window (s : State) (t : Nat) : (s.waitTo t).window = s.window := rfl
@[simp] theorem State.waitTo_debug (s : State) (t : Nat) : (s.waitTo t).debug = s.debug := rfl
@[simp] theorem State.waitTo_mem (s : State) (t : Nat) : (s.waitTo t).mem = s.mem := rfl
@[simp] theorem State.waitTo_slots (s : State) (t : Nat) : (s.waitTo t).slots = s.slots := rfl
@[simp] theorem State.waitTo_loads (s : State) (t : Nat) : (s.waitTo t).loads = s.loads := rfl
@[simp] theorem State.waitTo_prts (s : State) (t : Nat) : (s.waitTo t).prts = s.prts := rfl
@[simp] theorem State.waitTo_streams (s : State) (t : Nat) : (s.waitTo t).streams = s.streams := rfl
@[simp] theorem State.waitTo_seqs (s : State) (t : Nat) : (s.waitTo t).seqs = s.seqs := rfl
@[simp] theorem State.waitTo_links (s : State) (t : Nat) : (s.waitTo t).links = s.links := rfl
@[simp] theorem State.waitTo_flights (s : State) (t : Nat) : (s.waitTo t).flights = s.flights := rfl
@[simp] theorem State.waitTo_aud (s : State) (t : Nat) : (s.waitTo t).aud = s.aud := rfl
@[simp] theorem State.waitTo_isl (s : State) (t : Nat) : (s.waitTo t).isl = s.isl := rfl
@[simp] theorem State.waitTo_trc (s : State) (t : Nat) : (s.waitTo t).trc = s.trc := rfl
@[simp] theorem State.waitTo_tan (s : State) (t : Nat) : (s.waitTo t).tan = s.tan := rfl
@[simp] theorem State.waitTo_out (s : State) (t : Nat) : (s.waitTo t).out = s.out := rfl

end Sys2Proof.Machine
end

