-- ==== Sys2Proof/Laws/Ops.lean ====
section
/-! SUPPORT. Laws of the shared operations: register words read back, fields and bits, and for each operation all it can change. -/
namespace Sys2Proof.Machine
open Sys2Proof

/-! ### Stored words -/

@[simp] theorem State.rd_wr_same (s : State) (off : Nat) (w : Word) : (s.wr off w).rd off = w := by
  simp [State.rd, State.wr]

@[simp] theorem State.rd_wr_other (s : State) (off o : Nat) (w : Word) (h : o ≠ off) : (s.wr off w).rd o = s.rd o := by
  simp only [State.rd, State.wr]
  exact Tab.get_putD_other _ _ _ _ _ _ h

/-- A write keeps the canonical form of the register file. -/
theorem State.wr_canonical (s : State) (off : Nat) (w : Word) (h : RegsCanonical s) : RegsCanonical (s.wr off w) := by
  refine ⟨Tab.pairwise_putD h.1, fun x hx => ?_⟩
  rcases Tab.mem_putD hx with ⟨h1, h2, h3⟩ | ⟨h1, -⟩
  · simpa [h1, h2] using h3
  · exact h.2 x h1

/-! ### What an operation can change -/

/-- `t` differs from `s` in the register file, the host link and what has been sent at most. -/
def State.SameBut3 (s t : State) : Prop := t = { s with regs := t.regs, link := t.link, out := t.out }

theorem State.SameBut3.refl (s : State) : State.SameBut3 s s := rfl

theorem State.SameBut3.trans {s t u : State} (h : State.SameBut3 s t) (k : State.SameBut3 t u) : State.SameBut3 s u := by
  unfold State.SameBut3 at *
  rw [k, h]

theorem State.wr_same (s : State) (off : Nat) (w : Word) : State.SameBut3 s (s.wr off w) := rfl

theorem State.emit_same (s : State) (e : OutEvent) : State.SameBut3 s (s.emit e) := rfl

theorem State.setVec_same (s : State) (n v : Nat) (x : VecState) : State.SameBut3 s (s.setVec n v x) := rfl

theorem State.passVec_same (s : State) (n v : Nat) : State.SameBut3 s (s.passVec n v) := by
  unfold State.passVec
  split <;> rfl

theorem State.dueVec_same (s : State) (n v : Nat) : State.SameBut3 s (s.dueVec n v) := by
  have key (u : State) (h : State.SameBut3 s u) : State.SameBut3 s (if u.vecSendable n v then u.passVec n v else u) := by
    split
    · exact h.trans (State.passVec_same ..)
    · exact h
  unfold State.dueVec
  refine key _ ?_
  split <;> rfl

theorem State.wakeHost_same (s : State) : State.SameBut3 s s.wakeHost := by
  unfold State.wakeHost
  repeat' split
  all_goals rfl

theorem State.withLine_same (s : State) (pg : Nat) (f : State → State) (h : State.SameBut3 s (f s)) :
    State.SameBut3 s (s.withLine pg f) := by
  have key (c : Bool) (u : State) (h : State.SameBut3 s u) : State.SameBut3 s (if c then u.wakeHost else u) := by
    split
    · exact h.trans (State.wakeHost_same _)
    · exact h
  unfold State.withLine
  refine key _ _ ?_
  split
  · exact h.trans (State.dueVec_same ..)
  · exact h

theorem State.raise_same (s : State) (pg mask : Nat) : State.SameBut3 s (s.raise pg mask) :=
  State.withLine_same s pg _ (State.wr_same ..)

theorem State.raiseBit_same (s : State) (pg i : Nat) : State.SameBut3 s (s.raiseBit pg i) := State.raise_same ..

theorem State.count_same (s : State) (off n : Nat) : State.SameBut3 s (s.count off n) := by
  unfold State.count
  simp only
  split
  · rfl
  · split
    · exact (State.wr_same ..).trans (State.raiseBit_same ..)
    · rfl

theorem State.count48_same (s : State) (off n : Nat) : State.SameBut3 s (s.count48 off n) := by
  unfold State.count48
  simp only
  split
  · rfl
  · split
    · exact State.SameBut3.trans (t := s.wr64 off (2 ^ 48 - 1)) rfl (State.raiseBit_same ..)
    · rfl

theorem State.resend_same (s : State) (pg : Nat) (f : State → State) (h : State.SameBut3 s (f s)) :
    State.SameBut3 s (s.resend pg f) := by
  unfold State.resend
  simp only
  split
  · exact (State.withLine_same s pg f h).trans (State.dueVec_same ..)
  · exact State.withLine_same s pg f h

theorem State.SameBut3.four {s t : State} (h : State.SameBut3 s t) : State.SameBut4 s t := by
  unfold State.SameBut3 at h
  unfold State.SameBut4
  rw [h]

theorem State.SameBut4.trans {s t u : State} (h : State.SameBut4 s t) (k : State.SameBut4 t u) : State.SameBut4 s u := by
  unfold State.SameBut4 at *
  rw [k, h]

theorem State.log_same (s : State) (h level code a b c : Nat) : State.SameBut4 s (s.log h level code a b c) := by
  unfold State.log
  split <;> rfl

theorem State.trace_same (s : State) (p unit a b : Nat) : State.SameBut4 s (s.trace p unit a b) := by
  unfold State.trace
  split <;> rfl

theorem State.recordErr_same (s : State) (pg code agent off : Nat) (write : Bool) (be : Nat) :
    State.SameBut4 s (s.recordErr pg code agent off write be) := by
  have key (u : State) (h : State.SameBut4 s u) : State.SameBut4 s (match pageOf pg with
      | none => u
      | some (b, inst) => match hubOf b inst with
        | none => u
        | some h => if u.restarting h then u else (u.log h 0 code off agent 0).raiseBit 0x00D 3) := by
    split
    · exact h
    · split
      · exact h
      · split
        · exact h
        · exact h.trans ((State.log_same ..).trans (State.raiseBit_same ..).four)
  unfold State.recordErr
  exact key _ ((State.wr_same ..).trans ((State.wr_same ..).trans (State.raiseBit_same ..))).four

/-- The journal entry that an event stores, and the trace record of a SAFETY entry: nothing else. -/
theorem State.journal_same (s : State) (type agent code arg0 arg1 : Nat) :
    s.journal type agent code arg0 arg1
      = { s with jnl := (s.journal type agent code arg0 arg1).jnl, trc := (s.journal type agent code arg0 arg1).trc } := by
  unfold State.journal
  simp only
  split
  · unfold State.trace
    split <;> rfl
  · rfl

theorem State.SameBut3.pending {s t : State} (h : State.SameBut3 s t) : t.pending = s.pending := by rw [show t = _ from h]
theorem State.SameBut3.now {s t : State} (h : State.SameBut3 s t) : t.now = s.now := by rw [show t = _ from h]
theorem State.SameBut3.freeCtr {s t : State} (h : State.SameBut3 s t) : t.freeCtr = s.freeCtr := by rw [show t = _ from h]
theorem State.SameBut3.part {s t : State} (h : State.SameBut3 s t) : t.part = s.part := by rw [show t = _ from h]
theorem State.SameBut3.tick {s t : State} (h : State.SameBut3 s t) : t.tick = s.tick := by rw [show t = _ from h]
theorem State.SameBut3.pwr {s t : State} (h : State.SameBut3 s t) : t.pwr = s.pwr := by rw [show t = _ from h]
theorem State.SameBut3.gov {s t : State} (h : State.SameBut3 s t) : t.gov = s.gov := by rw [show t = _ from h]
theorem State.SameBut3.sensors {s t : State} (h : State.SameBut3 s t) : t.sensors = s.sensors := by rw [show t = _ from h]
theorem State.SameBut3.hubs {s t : State} (h : State.SameBut3 s t) : t.hubs = s.hubs := by rw [show t = _ from h]
theorem State.SameBut3.boot {s t : State} (h : State.SameBut3 s t) : t.boot = s.boot := by rw [show t = _ from h]
theorem State.SameBut3.jnl {s t : State} (h : State.SameBut3 s t) : t.jnl = s.jnl := by rw [show t = _ from h]
theorem State.SameBut3.window {s t : State} (h : State.SameBut3 s t) : t.window = s.window := by rw [show t = _ from h]
theorem State.SameBut3.debug {s t : State} (h : State.SameBut3 s t) : t.debug = s.debug := by rw [show t = _ from h]
theorem State.SameBut3.mem {s t : State} (h : State.SameBut3 s t) : t.mem = s.mem := by rw [show t = _ from h]
theorem State.SameBut3.slots {s t : State} (h : State.SameBut3 s t) : t.slots = s.slots := by rw [show t = _ from h]
theorem State.SameBut3.loads {s t : State} (h : State.SameBut3 s t) : t.loads = s.loads := by rw [show t = _ from h]
theorem State.SameBut3.prts {s t : State} (h : State.SameBut3 s t) : t.prts = s.prts := by rw [show t = _ from h]
theorem State.SameBut3.streams {s t : State} (h : State.SameBut3 s t) : t.streams = s.streams := by rw [show t = _ from h]
theorem State.SameBut3.seqs {s t : State} (h : State.SameBut3 s t) : t.seqs = s.seqs := by rw [show t = _ from h]
theorem State.SameBut3.links {s t : State} (h : State.SameBut3 s t) : t.links = s.links := by rw [show t = _ from h]
theorem State.SameBut3.flights {s t : State} (h : State.SameBut3 s t) : t.flights = s.flights := by rw [show t = _ from h]
theorem State.SameBut3.aud {s t : State} (h : State.SameBut3 s t) : t.aud = s.aud := by rw [show t = _ from h]
theorem State.SameBut3.isl {s t : State} (h : State.SameBut3 s t) : t.isl = s.isl := by rw [show t = _ from h]
theorem State.SameBut3.trc {s t : State} (h : State.SameBut3 s t) : t.trc = s.trc := by rw [show t = _ from h]
theorem State.SameBut3.tan {s t : State} (h : State.SameBut3 s t) : t.tan = s.tan := by rw [show t = _ from h]

theorem State.SameBut4.pending {s t : State} (h : State.SameBut4 s t) : t.pending = s.pending := by rw [show t = _ from h]
theorem State.SameBut4.now {s t : State} (h : State.SameBut4 s t) : t.now = s.now := by rw [show t = _ from h]
theorem State.SameBut4.freeCtr {s t : State} (h : State.SameBut4 s t) : t.freeCtr = s.freeCtr := by rw [show t = _ from h]
theorem State.SameBut4.part {s t : State} (h : State.SameBut4 s t) : t.part = s.part := by rw [show t = _ from h]
theorem State.SameBut4.tick {s t : State} (h : State.SameBut4 s t) : t.tick = s.tick := by rw [show t = _ from h]
theorem State.SameBut4.pwr {s t : State} (h : State.SameBut4 s t) : t.pwr = s.pwr := by rw [show t = _ from h]
theorem State.SameBut4.gov {s t : State} (h : State.SameBut4 s t) : t.gov = s.gov := by rw [show t = _ from h]
theorem State.SameBut4.sensors {s t : State} (h : State.SameBut4 s t) : t.sensors = s.sensors := by rw [show t = _ from h]
theorem State.SameBut4.hubs {s t : State} (h : State.SameBut4 s t) : t.hubs = s.hubs := by rw [show t = _ from h]
theorem State.SameBut4.boot {s t : State} (h : State.SameBut4 s t) : t.boot = s.boot := by rw [show t = _ from h]
theorem State.SameBut4.jnl {s t : State} (h : State.SameBut4 s t) : t.jnl = s.jnl := by rw [show t = _ from h]
theorem State.SameBut4.window {s t : State} (h : State.SameBut4 s t) : t.window = s.window := by rw [show t = _ from h]
theorem State.SameBut4.debug {s t : State} (h : State.SameBut4 s t) : t.debug = s.debug := by rw [show t = _ from h]
theorem State.SameBut4.mem {s t : State} (h : State.SameBut4 s t) : t.mem = s.mem := by rw [show t = _ from h]
theorem State.SameBut4.slots {s t : State} (h : State.SameBut4 s t) : t.slots = s.slots := by rw [show t = _ from h]
theorem State.SameBut4.loads {s t : State} (h : State.SameBut4 s t) : t.loads = s.loads := by rw [show t = _ from h]
theorem State.SameBut4.prts {s t : State} (h : State.SameBut4 s t) : t.prts = s.prts := by rw [show t = _ from h]
theorem State.SameBut4.streams {s t : State} (h : State.SameBut4 s t) : t.streams = s.streams := by rw [show t = _ from h]
theorem State.SameBut4.seqs {s t : State} (h : State.SameBut4 s t) : t.seqs = s.seqs := by rw [show t = _ from h]
theorem State.SameBut4.links {s t : State} (h : State.SameBut4 s t) : t.links = s.links := by rw [show t = _ from h]
theorem State.SameBut4.flights {s t : State} (h : State.SameBut4 s t) : t.flights = s.flights := by rw [show t = _ from h]
theorem State.SameBut4.aud {s t : State} (h : State.SameBut4 s t) : t.aud = s.aud := by rw [show t = _ from h]
theorem State.SameBut4.isl {s t : State} (h : State.SameBut4 s t) : t.isl = s.isl := by rw [show t = _ from h]
theorem State.SameBut4.tan {s t : State} (h : State.SameBut4 s t) : t.tan = s.tan := by rw [show t = _ from h]

/-! ### Fields that `State.raise` leaves -/

@[simp] theorem State.raise_pending (s : State) (pg m : Nat) : (s.raise pg m).pending = s.pending := (State.raise_same s pg m).pending
@[simp] theorem State.raise_now (s : State) (pg m : Nat) : (s.raise pg m).now = s.now := (State.raise_same s pg m).now
@[simp] theorem State.raise_freeCtr (s : State) (pg m : Nat) : (s.raise pg m).freeCtr = s.freeCtr := (State.raise_same s pg m).freeCtr
@[simp] theorem State.raise_part (s : State) (pg m : Nat) : (s.raise pg m).part = s.part := (State.raise_same s pg m).part
@[simp] theorem State.raise_tick (s : State) (pg m : Nat) : (s.raise pg m).tick = s.tick := (State.raise_same s pg m).tick
@[simp] theorem State.raise_pwr (s : State) (pg m : Nat) : (s.raise pg m).pwr = s.pwr := (State.raise_same s pg m).pwr
@[simp] theorem State.raise_gov (s : State) (pg m : Nat) : (s.raise pg m).gov = s.gov := (State.raise_same s pg m).gov
@[simp] theorem State.raise_sensors (s : State) (pg m : Nat) : (s.raise pg m).sensors = s.sensors := (State.raise_same s pg m).sensors
@[simp] theorem State.raise_hubs (s : State) (pg m : Nat) : (s.raise pg m).hubs = s.hubs := (State.raise_same s pg m).hubs
@[simp] theorem State.raise_boot (s : State) (pg m : Nat) : (s.raise pg m).boot = s.boot := (State.raise_same s pg m).boot
@[simp] theorem State.raise_jnl (s : State) (pg m : Nat) : (s.raise pg m).jnl = s.jnl := (State.raise_same s pg m).jnl
@[simp] theorem State.raise_window (s : State) (pg m : Nat) : (s.raise pg m).window = s.window := (State.raise_same s pg m).window
@[simp] theorem State.raise_debug (s : State) (pg m : Nat) : (s.raise pg m).debug = s.debug := (State.raise_same s pg m).debug
@[simp] theorem State.raise_mem (s : State) (pg m : Nat) : (s.raise pg m).mem = s.mem := (State.raise_same s pg m).mem
@[simp] theorem State.raise_slots (s : State) (pg m : Nat) : (s.raise pg m).slots = s.slots := (State.raise_same s pg m).slots
@[simp] theorem State.raise_loads (s : State) (pg m : Nat) : (s.raise pg m).loads = s.loads := (State.raise_same s pg m).loads
@[simp] theorem State.raise_prts (s : State) (pg m : Nat) : (s.raise pg m).prts = s.prts := (State.raise_same s pg m).prts
@[simp] theorem State.raise_streams (s : State) (pg m : Nat) : (s.raise pg m).streams = s.streams := (State.raise_same s pg m).streams
@[simp] theorem State.raise_seqs (s : State) (pg m : Nat) : (s.raise pg m).seqs = s.seqs := (State.raise_same s pg m).seqs
@[simp] theorem State.raise_links (s : State) (pg m : Nat) : (s.raise pg m).links = s.links := (State.raise_same s pg m).links
@[simp] theorem State.raise_flights (s : State) (pg m : Nat) : (s.raise pg m).flights = s.flights := (State.raise_same s pg m).flights
@[simp] theorem State.raise_aud (s : State) (pg m : Nat) : (s.raise pg m).aud = s.aud := (State.raise_same s pg m).aud
@[simp] theorem State.raise_isl (s : State) (pg m : Nat) : (s.raise pg m).isl = s.isl := (State.raise_same s pg m).isl
@[simp] theorem State.raise_trc (s : State) (pg m : Nat) : (s.raise pg m).trc = s.trc := (State.raise_same s pg m).trc
@[simp] theorem State.raise_tan (s : State) (pg m : Nat) : (s.raise pg m).tan = s.tan := (State.raise_same s pg m).tan

/-! ### Fields that `State.raiseBit` leaves -/

@[simp] theorem State.raiseBit_pending (s : State) (pg i : Nat) : (s.raiseBit pg i).pending = s.pending := (State.raiseBit_same s pg i).pending
@[simp] theorem State.raiseBit_now (s : State) (pg i : Nat) : (s.raiseBit pg i).now = s.now := (State.raiseBit_same s pg i).now
@[simp] theorem State.raiseBit_freeCtr (s : State) (pg i : Nat) : (s.raiseBit pg i).freeCtr = s.freeCtr := (State.raiseBit_same s pg i).freeCtr
@[simp] theorem State.raiseBit_part (s : State) (pg i : Nat) : (s.raiseBit pg i).part = s.part := (State.raiseBit_same s pg i).part
@[simp] theorem State.raiseBit_tick (s : State) (pg i : Nat) : (s.raiseBit pg i).tick = s.tick := (State.raiseBit_same s pg i).tick
@[simp] theorem State.raiseBit_pwr (s : State) (pg i : Nat) : (s.raiseBit pg i).pwr = s.pwr := (State.raiseBit_same s pg i).pwr
@[simp] theorem State.raiseBit_gov (s : State) (pg i : Nat) : (s.raiseBit pg i).gov = s.gov := (State.raiseBit_same s pg i).gov
@[simp] theorem State.raiseBit_sensors (s : State) (pg i : Nat) : (s.raiseBit pg i).sensors = s.sensors := (State.raiseBit_same s pg i).sensors
@[simp] theorem State.raiseBit_hubs (s : State) (pg i : Nat) : (s.raiseBit pg i).hubs = s.hubs := (State.raiseBit_same s pg i).hubs
@[simp] theorem State.raiseBit_boot (s : State) (pg i : Nat) : (s.raiseBit pg i).boot = s.boot := (State.raiseBit_same s pg i).boot
@[simp] theorem State.raiseBit_jnl (s : State) (pg i : Nat) : (s.raiseBit pg i).jnl = s.jnl := (State.raiseBit_same s pg i).jnl
@[simp] theorem State.raiseBit_window (s : State) (pg i : Nat) : (s.raiseBit pg i).window = s.window := (State.raiseBit_same s pg i).window
@[simp] theorem State.raiseBit_debug (s : State) (pg i : Nat) : (s.raiseBit pg i).debug = s.debug := (State.raiseBit_same s pg i).debug
@[simp] theorem State.raiseBit_mem (s : State) (pg i : Nat) : (s.raiseBit pg i).mem = s.mem := (State.raiseBit_same s pg i).mem
@[simp] theorem State.raiseBit_slots (s : State) (pg i : Nat) : (s.raiseBit pg i).slots = s.slots := (State.raiseBit_same s pg i).slots
@[simp] theorem State.raiseBit_loads (s : State) (pg i : Nat) : (s.raiseBit pg i).loads = s.loads := (State.raiseBit_same s pg i).loads
@[simp] theorem State.raiseBit_prts (s : State) (pg i : Nat) : (s.raiseBit pg i).prts = s.prts := (State.raiseBit_same s pg i).prts
@[simp] theorem State.raiseBit_streams (s : State) (pg i : Nat) : (s.raiseBit pg i).streams = s.streams := (State.raiseBit_same s pg i).streams
@[simp] theorem State.raiseBit_seqs (s : State) (pg i : Nat) : (s.raiseBit pg i).seqs = s.seqs := (State.raiseBit_same s pg i).seqs
@[simp] theorem State.raiseBit_links (s : State) (pg i : Nat) : (s.raiseBit pg i).links = s.links := (State.raiseBit_same s pg i).links
@[simp] theorem State.raiseBit_flights (s : State) (pg i : Nat) : (s.raiseBit pg i).flights = s.flights := (State.raiseBit_same s pg i).flights
@[simp] theorem State.raiseBit_aud (s : State) (pg i : Nat) : (s.raiseBit pg i).aud = s.aud := (State.raiseBit_same s pg i).aud
@[simp] theorem State.raiseBit_isl (s : State) (pg i : Nat) : (s.raiseBit pg i).isl = s.isl := (State.raiseBit_same s pg i).isl
@[simp] theorem State.raiseBit_trc (s : State) (pg i : Nat) : (s.raiseBit pg i).trc = s.trc := (State.raiseBit_same s pg i).trc
@[simp] theorem State.raiseBit_tan (s : State) (pg i : Nat) : (s.raiseBit pg i).tan = s.tan := (State.raiseBit_same s pg i).tan

/-! ### Fields that `State.count` leaves -/

@[simp] theorem State.count_pending (s : State) (off n : Nat) : (s.count off n).pending = s.pending := (State.count_same s off n).pending
@[simp] theorem State.count_now (s : State) (off n : Nat) : (s.count off n).now = s.now := (State.count_same s off n).now
@[simp] theorem State.count_freeCtr (s : State) (off n : Nat) : (s.count off n).freeCtr = s.freeCtr := (State.count_same s off n).freeCtr
@[simp] theorem State.count_part (s : State) (off n : Nat) : (s.count off n).part = s.part := (State.count_same s off n).part
@[simp] theorem State.count_tick (s : State) (off n : Nat) : (s.count off n).tick = s.tick := (State.count_same s off n).tick
@[simp] theorem State.count_pwr (s : State) (off n : Nat) : (s.count off n).pwr = s.pwr := (State.count_same s off n).pwr
@[simp] theorem State.count_gov (s : State) (off n : Nat) : (s.count off n).gov = s.gov := (State.count_same s off n).gov
@[simp] theorem State.count_sensors (s : State) (off n : Nat) : (s.count off n).sensors = s.sensors := (State.count_same s off n).sensors
@[simp] theorem State.count_hubs (s : State) (off n : Nat) : (s.count off n).hubs = s.hubs := (State.count_same s off n).hubs
@[simp] theorem State.count_boot (s : State) (off n : Nat) : (s.count off n).boot = s.boot := (State.count_same s off n).boot
@[simp] theorem State.count_jnl (s : State) (off n : Nat) : (s.count off n).jnl = s.jnl := (State.count_same s off n).jnl
@[simp] theorem State.count_window (s : State) (off n : Nat) : (s.count off n).window = s.window := (State.count_same s off n).window
@[simp] theorem State.count_debug (s : State) (off n : Nat) : (s.count off n).debug = s.debug := (State.count_same s off n).debug
@[simp] theorem State.count_mem (s : State) (off n : Nat) : (s.count off n).mem = s.mem := (State.count_same s off n).mem
@[simp] theorem State.count_slots (s : State) (off n : Nat) : (s.count off n).slots = s.slots := (State.count_same s off n).slots
@[simp] theorem State.count_loads (s : State) (off n : Nat) : (s.count off n).loads = s.loads := (State.count_same s off n).loads
@[simp] theorem State.count_prts (s : State) (off n : Nat) : (s.count off n).prts = s.prts := (State.count_same s off n).prts
@[simp] theorem State.count_streams (s : State) (off n : Nat) : (s.count off n).streams = s.streams := (State.count_same s off n).streams
@[simp] theorem State.count_seqs (s : State) (off n : Nat) : (s.count off n).seqs = s.seqs := (State.count_same s off n).seqs
@[simp] theorem State.count_links (s : State) (off n : Nat) : (s.count off n).links = s.links := (State.count_same s off n).links
@[simp] theorem State.count_flights (s : State) (off n : Nat) : (s.count off n).flights = s.flights := (State.count_same s off n).flights
@[simp] theorem State.count_aud (s : State) (off n : Nat) : (s.count off n).aud = s.aud := (State.count_same s off n).aud
@[simp] theorem State.count_isl (s : State) (off n : Nat) : (s.count off n).isl = s.isl := (State.count_same s off n).isl
@[simp] theorem State.count_trc (s : State) (off n : Nat) : (s.count off n).trc = s.trc := (State.count_same s off n).trc
@[simp] theorem State.count_tan (s : State) (off n : Nat) : (s.count off n).tan = s.tan := (State.count_same s off n).tan

/-! ### Fields that `State.count48` leaves -/

@[simp] theorem State.count48_pending (s : State) (off n : Nat) : (s.count48 off n).pending = s.pending := (State.count48_same s off n).pending
@[simp] theorem State.count48_now (s : State) (off n : Nat) : (s.count48 off n).now = s.now := (State.count48_same s off n).now
@[simp] theorem State.count48_freeCtr (s : State) (off n : Nat) : (s.count48 off n).freeCtr = s.freeCtr := (State.count48_same s off n).freeCtr
@[simp] theorem State.count48_part (s : State) (off n : Nat) : (s.count48 off n).part = s.part := (State.count48_same s off n).part
@[simp] theorem State.count48_tick (s : State) (off n : Nat) : (s.count48 off n).tick = s.tick := (State.count48_same s off n).tick
@[simp] theorem State.count48_pwr (s : State) (off n : Nat) : (s.count48 off n).pwr = s.pwr := (State.count48_same s off n).pwr
@[simp] theorem State.count48_gov (s : State) (off n : Nat) : (s.count48 off n).gov = s.gov := (State.count48_same s off n).gov
@[simp] theorem State.count48_sensors (s : State) (off n : Nat) : (s.count48 off n).sensors = s.sensors := (State.count48_same s off n).sensors
@[simp] theorem State.count48_hubs (s : State) (off n : Nat) : (s.count48 off n).hubs = s.hubs := (State.count48_same s off n).hubs
@[simp] theorem State.count48_boot (s : State) (off n : Nat) : (s.count48 off n).boot = s.boot := (State.count48_same s off n).boot
@[simp] theorem State.count48_jnl (s : State) (off n : Nat) : (s.count48 off n).jnl = s.jnl := (State.count48_same s off n).jnl
@[simp] theorem State.count48_window (s : State) (off n : Nat) : (s.count48 off n).window = s.window := (State.count48_same s off n).window
@[simp] theorem State.count48_debug (s : State) (off n : Nat) : (s.count48 off n).debug = s.debug := (State.count48_same s off n).debug
@[simp] theorem State.count48_mem (s : State) (off n : Nat) : (s.count48 off n).mem = s.mem := (State.count48_same s off n).mem
@[simp] theorem State.count48_slots (s : State) (off n : Nat) : (s.count48 off n).slots = s.slots := (State.count48_same s off n).slots
@[simp] theorem State.count48_loads (s : State) (off n : Nat) : (s.count48 off n).loads = s.loads := (State.count48_same s off n).loads
@[simp] theorem State.count48_prts (s : State) (off n : Nat) : (s.count48 off n).prts = s.prts := (State.count48_same s off n).prts
@[simp] theorem State.count48_streams (s : State) (off n : Nat) : (s.count48 off n).streams = s.streams := (State.count48_same s off n).streams
@[simp] theorem State.count48_seqs (s : State) (off n : Nat) : (s.count48 off n).seqs = s.seqs := (State.count48_same s off n).seqs
@[simp] theorem State.count48_links (s : State) (off n : Nat) : (s.count48 off n).links = s.links := (State.count48_same s off n).links
@[simp] theorem State.count48_flights (s : State) (off n : Nat) : (s.count48 off n).flights = s.flights := (State.count48_same s off n).flights
@[simp] theorem State.count48_aud (s : State) (off n : Nat) : (s.count48 off n).aud = s.aud := (State.count48_same s off n).aud
@[simp] theorem State.count48_isl (s : State) (off n : Nat) : (s.count48 off n).isl = s.isl := (State.count48_same s off n).isl
@[simp] theorem State.count48_trc (s : State) (off n : Nat) : (s.count48 off n).trc = s.trc := (State.count48_same s off n).trc
@[simp] theorem State.count48_tan (s : State) (off n : Nat) : (s.count48 off n).tan = s.tan := (State.count48_same s off n).tan

/-! ### Fields that `State.dueVec` leaves -/

@[simp] theorem State.dueVec_pending (s : State) (n v : Nat) : (s.dueVec n v).pending = s.pending := (State.dueVec_same s n v).pending
@[simp] theorem State.dueVec_now (s : State) (n v : Nat) : (s.dueVec n v).now = s.now := (State.dueVec_same s n v).now
@[simp] theorem State.dueVec_freeCtr (s : State) (n v : Nat) : (s.dueVec n v).freeCtr = s.freeCtr := (State.dueVec_same s n v).freeCtr
@[simp] theorem State.dueVec_part (s : State) (n v : Nat) : (s.dueVec n v).part = s.part := (State.dueVec_same s n v).part
@[simp] theorem State.dueVec_tick (s : State) (n v : Nat) : (s.dueVec n v).tick = s.tick := (State.dueVec_same s n v).tick
@[simp] theorem State.dueVec_pwr (s : State) (n v : Nat) : (s.dueVec n v).pwr = s.pwr := (State.dueVec_same s n v).pwr
@[simp] theorem State.dueVec_gov (s : State) (n v : Nat) : (s.dueVec n v).gov = s.gov := (State.dueVec_same s n v).gov
@[simp] theorem State.dueVec_sensors (s : State) (n v : Nat) : (s.dueVec n v).sensors = s.sensors := (State.dueVec_same s n v).sensors
@[simp] theorem State.dueVec_hubs (s : State) (n v : Nat) : (s.dueVec n v).hubs = s.hubs := (State.dueVec_same s n v).hubs
@[simp] theorem State.dueVec_boot (s : State) (n v : Nat) : (s.dueVec n v).boot = s.boot := (State.dueVec_same s n v).boot
@[simp] theorem State.dueVec_jnl (s : State) (n v : Nat) : (s.dueVec n v).jnl = s.jnl := (State.dueVec_same s n v).jnl
@[simp] theorem State.dueVec_window (s : State) (n v : Nat) : (s.dueVec n v).window = s.window := (State.dueVec_same s n v).window
@[simp] theorem State.dueVec_debug (s : State) (n v : Nat) : (s.dueVec n v).debug = s.debug := (State.dueVec_same s n v).debug
@[simp] theorem State.dueVec_mem (s : State) (n v : Nat) : (s.dueVec n v).mem = s.mem := (State.dueVec_same s n v).mem
@[simp] theorem State.dueVec_slots (s : State) (n v : Nat) : (s.dueVec n v).slots = s.slots := (State.dueVec_same s n v).slots
@[simp] theorem State.dueVec_loads (s : State) (n v : Nat) : (s.dueVec n v).loads = s.loads := (State.dueVec_same s n v).loads
@[simp] theorem State.dueVec_prts (s : State) (n v : Nat) : (s.dueVec n v).prts = s.prts := (State.dueVec_same s n v).prts
@[simp] theorem State.dueVec_streams (s : State) (n v : Nat) : (s.dueVec n v).streams = s.streams := (State.dueVec_same s n v).streams
@[simp] theorem State.dueVec_seqs (s : State) (n v : Nat) : (s.dueVec n v).seqs = s.seqs := (State.dueVec_same s n v).seqs
@[simp] theorem State.dueVec_links (s : State) (n v : Nat) : (s.dueVec n v).links = s.links := (State.dueVec_same s n v).links
@[simp] theorem State.dueVec_flights (s : State) (n v : Nat) : (s.dueVec n v).flights = s.flights := (State.dueVec_same s n v).flights
@[simp] theorem State.dueVec_aud (s : State) (n v : Nat) : (s.dueVec n v).aud = s.aud := (State.dueVec_same s n v).aud
@[simp] theorem State.dueVec_isl (s : State) (n v : Nat) : (s.dueVec n v).isl = s.isl := (State.dueVec_same s n v).isl
@[simp] theorem State.dueVec_trc (s : State) (n v : Nat) : (s.dueVec n v).trc = s.trc := (State.dueVec_same s n v).trc
@[simp] theorem State.dueVec_tan (s : State) (n v : Nat) : (s.dueVec n v).tan = s.tan := (State.dueVec_same s n v).tan

/-! ### Fields that `State.log` leaves -/

@[simp] theorem State.log_pending (s : State) (h l c x y z : Nat) : (s.log h l c x y z).pending = s.pending := (State.log_same s h l c x y z).pending
@[simp] theorem State.log_now (s : State) (h l c x y z : Nat) : (s.log h l c x y z).now = s.now := (State.log_same s h l c x y z).now
@[simp] theorem State.log_freeCtr (s : State) (h l c x y z : Nat) : (s.log h l c x y z).freeCtr = s.freeCtr := (State.log_same s h l c x y z).freeCtr
@[simp] theorem State.log_part (s : State) (h l c x y z : Nat) : (s.log h l c x y z).part = s.part := (State.log_same s h l c x y z).part
@[simp] theorem State.log_tick (s : State) (h l c x y z : Nat) : (s.log h l c x y z).tick = s.tick := (State.log_same s h l c x y z).tick
@[simp] theorem State.log_pwr (s : State) (h l c x y z : Nat) : (s.log h l c x y z).pwr = s.pwr := (State.log_same s h l c x y z).pwr
@[simp] theorem State.log_gov (s : State) (h l c x y z : Nat) : (s.log h l c x y z).gov = s.gov := (State.log_same s h l c x y z).gov
@[simp] theorem State.log_sensors (s : State) (h l c x y z : Nat) : (s.log h l c x y z).sensors = s.sensors := (State.log_same s h l c x y z).sensors
@[simp] theorem State.log_hubs (s : State) (h l c x y z : Nat) : (s.log h l c x y z).hubs = s.hubs := (State.log_same s h l c x y z).hubs
@[simp] theorem State.log_boot (s : State) (h l c x y z : Nat) : (s.log h l c x y z).boot = s.boot := (State.log_same s h l c x y z).boot
@[simp] theorem State.log_jnl (s : State) (h l c x y z : Nat) : (s.log h l c x y z).jnl = s.jnl := (State.log_same s h l c x y z).jnl
@[simp] theorem State.log_window (s : State) (h l c x y z : Nat) : (s.log h l c x y z).window = s.window := (State.log_same s h l c x y z).window
@[simp] theorem State.log_debug (s : State) (h l c x y z : Nat) : (s.log h l c x y z).debug = s.debug := (State.log_same s h l c x y z).debug
@[simp] theorem State.log_mem (s : State) (h l c x y z : Nat) : (s.log h l c x y z).mem = s.mem := (State.log_same s h l c x y z).mem
@[simp] theorem State.log_slots (s : State) (h l c x y z : Nat) : (s.log h l c x y z).slots = s.slots := (State.log_same s h l c x y z).slots
@[simp] theorem State.log_loads (s : State) (h l c x y z : Nat) : (s.log h l c x y z).loads = s.loads := (State.log_same s h l c x y z).loads
@[simp] theorem State.log_prts (s : State) (h l c x y z : Nat) : (s.log h l c x y z).prts = s.prts := (State.log_same s h l c x y z).prts
@[simp] theorem State.log_streams (s : State) (h l c x y z : Nat) : (s.log h l c x y z).streams = s.streams := (State.log_same s h l c x y z).streams
@[simp] theorem State.log_seqs (s : State) (h l c x y z : Nat) : (s.log h l c x y z).seqs = s.seqs := (State.log_same s h l c x y z).seqs
@[simp] theorem State.log_links (s : State) (h l c x y z : Nat) : (s.log h l c x y z).links = s.links := (State.log_same s h l c x y z).links
@[simp] theorem State.log_flights (s : State) (h l c x y z : Nat) : (s.log h l c x y z).flights = s.flights := (State.log_same s h l c x y z).flights
@[simp] theorem State.log_aud (s : State) (h l c x y z : Nat) : (s.log h l c x y z).aud = s.aud := (State.log_same s h l c x y z).aud
@[simp] theorem State.log_isl (s : State) (h l c x y z : Nat) : (s.log h l c x y z).isl = s.isl := (State.log_same s h l c x y z).isl
@[simp] theorem State.log_tan (s : State) (h l c x y z : Nat) : (s.log h l c x y z).tan = s.tan := (State.log_same s h l c x y z).tan

/-! ### Fields that `State.trace` leaves -/

@[simp] theorem State.trace_pending (s : State) (p u a b : Nat) : (s.trace p u a b).pending = s.pending := (State.trace_same s p u a b).pending
@[simp] theorem State.trace_now (s : State) (p u a b : Nat) : (s.trace p u a b).now = s.now := (State.trace_same s p u a b).now
@[simp] theorem State.trace_freeCtr (s : State) (p u a b : Nat) : (s.trace p u a b).freeCtr = s.freeCtr := (State.trace_same s p u a b).freeCtr
@[simp] theorem State.trace_part (s : State) (p u a b : Nat) : (s.trace p u a b).part = s.part := (State.trace_same s p u a b).part
@[simp] theorem State.trace_tick (s : State) (p u a b : Nat) : (s.trace p u a b).tick = s.tick := (State.trace_same s p u a b).tick
@[simp] theorem State.trace_pwr (s : State) (p u a b : Nat) : (s.trace p u a b).pwr = s.pwr := (State.trace_same s p u a b).pwr
@[simp] theorem State.trace_gov (s : State) (p u a b : Nat) : (s.trace p u a b).gov = s.gov := (State.trace_same s p u a b).gov
@[simp] theorem State.trace_sensors (s : State) (p u a b : Nat) : (s.trace p u a b).sensors = s.sensors := (State.trace_same s p u a b).sensors
@[simp] theorem State.trace_hubs (s : State) (p u a b : Nat) : (s.trace p u a b).hubs = s.hubs := (State.trace_same s p u a b).hubs
@[simp] theorem State.trace_boot (s : State) (p u a b : Nat) : (s.trace p u a b).boot = s.boot := (State.trace_same s p u a b).boot
@[simp] theorem State.trace_jnl (s : State) (p u a b : Nat) : (s.trace p u a b).jnl = s.jnl := (State.trace_same s p u a b).jnl
@[simp] theorem State.trace_window (s : State) (p u a b : Nat) : (s.trace p u a b).window = s.window := (State.trace_same s p u a b).window
@[simp] theorem State.trace_debug (s : State) (p u a b : Nat) : (s.trace p u a b).debug = s.debug := (State.trace_same s p u a b).debug
@[simp] theorem State.trace_mem (s : State) (p u a b : Nat) : (s.trace p u a b).mem = s.mem := (State.trace_same s p u a b).mem
@[simp] theorem State.trace_slots (s : State) (p u a b : Nat) : (s.trace p u a b).slots = s.slots := (State.trace_same s p u a b).slots
@[simp] theorem State.trace_loads (s : State) (p u a b : Nat) : (s.trace p u a b).loads = s.loads := (State.trace_same s p u a b).loads
@[simp] theorem State.trace_prts (s : State) (p u a b : Nat) : (s.trace p u a b).prts = s.prts := (State.trace_same s p u a b).prts
@[simp] theorem State.trace_streams (s : State) (p u a b : Nat) : (s.trace p u a b).streams = s.streams := (State.trace_same s p u a b).streams
@[simp] theorem State.trace_seqs (s : State) (p u a b : Nat) : (s.trace p u a b).seqs = s.seqs := (State.trace_same s p u a b).seqs
@[simp] theorem State.trace_links (s : State) (p u a b : Nat) : (s.trace p u a b).links = s.links := (State.trace_same s p u a b).links
@[simp] theorem State.trace_flights (s : State) (p u a b : Nat) : (s.trace p u a b).flights = s.flights := (State.trace_same s p u a b).flights
@[simp] theorem State.trace_aud (s : State) (p u a b : Nat) : (s.trace p u a b).aud = s.aud := (State.trace_same s p u a b).aud
@[simp] theorem State.trace_isl (s : State) (p u a b : Nat) : (s.trace p u a b).isl = s.isl := (State.trace_same s p u a b).isl
@[simp] theorem State.trace_tan (s : State) (p u a b : Nat) : (s.trace p u a b).tan = s.tan := (State.trace_same s p u a b).tan

/-! ### Fields that `State.recordErr` leaves -/

@[simp] theorem State.recordErr_pending (s : State) (pg c a o : Nat) (wr : Bool) (be : Nat) : (s.recordErr pg c a o wr be).pending = s.pending := (State.recordErr_same s pg c a o wr be).pending
@[simp] theorem State.recordErr_now (s : State) (pg c a o : Nat) (wr : Bool) (be : Nat) : (s.recordErr pg c a o wr be).now = s.now := (State.recordErr_same s pg c a o wr be).now
@[simp] theorem State.recordErr_freeCtr (s : State) (pg c a o : Nat) (wr : Bool) (be : Nat) : (s.recordErr pg c a o wr be).freeCtr = s.freeCtr := (State.recordErr_same s pg c a o wr be).freeCtr
@[simp] theorem State.recordErr_part (s : State) (pg c a o : Nat) (wr : Bool) (be : Nat) : (s.recordErr pg c a o wr be).part = s.part := (State.recordErr_same s pg c a o wr be).part
@[simp] theorem State.recordErr_tick (s : State) (pg c a o : Nat) (wr : Bool) (be : Nat) : (s.recordErr pg c a o wr be).tick = s.tick := (State.recordErr_same s pg c a o wr be).tick
@[simp] theorem State.recordErr_pwr (s : State) (pg c a o : Nat) (wr : Bool) (be : Nat) : (s.recordErr pg c a o wr be).pwr = s.pwr := (State.recordErr_same s pg c a o wr be).pwr
@[simp] theorem State.recordErr_gov (s : State) (pg c a o : Nat) (wr : Bool) (be : Nat) : (s.recordErr pg c a o wr be).gov = s.gov := (State.recordErr_same s pg c a o wr be).gov
@[simp] theorem State.recordErr_sensors (s : State) (pg c a o : Nat) (wr : Bool) (be : Nat) : (s.recordErr pg c a o wr be).sensors = s.sensors := (State.recordErr_same s pg c a o wr be).sensors
@[simp] theorem State.recordErr_hubs (s : State) (pg c a o : Nat) (wr : Bool) (be : Nat) : (s.recordErr pg c a o wr be).hubs = s.hubs := (State.recordErr_same s pg c a o wr be).hubs
@[simp] theorem State.recordErr_boot (s : State) (pg c a o : Nat) (wr : Bool) (be : Nat) : (s.recordErr pg c a o wr be).boot = s.boot := (State.recordErr_same s pg c a o wr be).boot
@[simp] theorem State.recordErr_jnl (s : State) (pg c a o : Nat) (wr : Bool) (be : Nat) : (s.recordErr pg c a o wr be).jnl = s.jnl := (State.recordErr_same s pg c a o wr be).jnl
@[simp] theorem State.recordErr_window (s : State) (pg c a o : Nat) (wr : Bool) (be : Nat) : (s.recordErr pg c a o wr be).window = s.window := (State.recordErr_same s pg c a o wr be).window
@[simp] theorem State.recordErr_debug (s : State) (pg c a o : Nat) (wr : Bool) (be : Nat) : (s.recordErr pg c a o wr be).debug = s.debug := (State.recordErr_same s pg c a o wr be).debug
@[simp] theorem State.recordErr_mem (s : State) (pg c a o : Nat) (wr : Bool) (be : Nat) : (s.recordErr pg c a o wr be).mem = s.mem := (State.recordErr_same s pg c a o wr be).mem
@[simp] theorem State.recordErr_slots (s : State) (pg c a o : Nat) (wr : Bool) (be : Nat) : (s.recordErr pg c a o wr be).slots = s.slots := (State.recordErr_same s pg c a o wr be).slots
@[simp] theorem State.recordErr_loads (s : State) (pg c a o : Nat) (wr : Bool) (be : Nat) : (s.recordErr pg c a o wr be).loads = s.loads := (State.recordErr_same s pg c a o wr be).loads
@[simp] theorem State.recordErr_prts (s : State) (pg c a o : Nat) (wr : Bool) (be : Nat) : (s.recordErr pg c a o wr be).prts = s.prts := (State.recordErr_same s pg c a o wr be).prts
@[simp] theorem State.recordErr_streams (s : State) (pg c a o : Nat) (wr : Bool) (be : Nat) : (s.recordErr pg c a o wr be).streams = s.streams := (State.recordErr_same s pg c a o wr be).streams
@[simp] theorem State.recordErr_seqs (s : State) (pg c a o : Nat) (wr : Bool) (be : Nat) : (s.recordErr pg c a o wr be).seqs = s.seqs := (State.recordErr_same s pg c a o wr be).seqs
@[simp] theorem State.recordErr_links (s : State) (pg c a o : Nat) (wr : Bool) (be : Nat) : (s.recordErr pg c a o wr be).links = s.links := (State.recordErr_same s pg c a o wr be).links
@[simp] theorem State.recordErr_flights (s : State) (pg c a o : Nat) (wr : Bool) (be : Nat) : (s.recordErr pg c a o wr be).flights = s.flights := (State.recordErr_same s pg c a o wr be).flights
@[simp] theorem State.recordErr_aud (s : State) (pg c a o : Nat) (wr : Bool) (be : Nat) : (s.recordErr pg c a o wr be).aud = s.aud := (State.recordErr_same s pg c a o wr be).aud
@[simp] theorem State.recordErr_isl (s : State) (pg c a o : Nat) (wr : Bool) (be : Nat) : (s.recordErr pg c a o wr be).isl = s.isl := (State.recordErr_same s pg c a o wr be).isl
@[simp] theorem State.recordErr_tan (s : State) (pg c a o : Nat) (wr : Bool) (be : Nat) : (s.recordErr pg c a o wr be).tan = s.tan := (State.recordErr_same s pg c a o wr be).tan

/-! ### Fields that `State.journal` leaves -/

@[simp] theorem State.journal_pending (s : State) (t a c x y : Nat) : (s.journal t a c x y).pending = s.pending := by rw [State.journal_same]
@[simp] theorem State.journal_now (s : State) (t a c x y : Nat) : (s.journal t a c x y).now = s.now := by rw [State.journal_same]
@[simp] theorem State.journal_freeCtr (s : State) (t a c x y : Nat) : (s.journal t a c x y).freeCtr = s.freeCtr := by rw [State.journal_same]
@[simp] theorem State.journal_part (s : State) (t a c x y : Nat) : (s.journal t a c x y).part = s.part := by rw [State.journal_same]
@[simp] theorem State.journal_tick (s : State) (t a c x y : Nat) : (s.journal t a c x y).tick = s.tick := by rw [State.journal_same]
@[simp] theorem State.journal_regs (s : State) (t a c x y : Nat) : (s.journal t a c x y).regs = s.regs := by rw [State.journal_same]
@[simp] theorem State.journal_pwr (s : State) (t a c x y : Nat) : (s.journal t a c x y).pwr = s.pwr := by rw [State.journal_same]
@[simp] theorem State.journal_gov (s : State) (t a c x y : Nat) : (s.journal t a c x y).gov = s.gov := by rw [State.journal_same]
@[simp] theorem State.journal_sensors (s : State) (t a c x y : Nat) : (s.journal t a c x y).sensors = s.sensors := by rw [State.journal_same]
@[simp] theorem State.journal_hubs (s : State) (t a c x y : Nat) : (s.journal t a c x y).hubs = s.hubs := by rw [State.journal_same]
@[simp] theorem State.journal_boot (s : State) (t a c x y : Nat) : (s.journal t a c x y).boot = s.boot := by rw [State.journal_same]
@[simp] theorem State.journal_link (s : State) (t a c x y : Nat) : (s.journal t a c x y).link = s.link := by rw [State.journal_same]
@[simp] theorem State.journal_window (s : State) (t a c x y : Nat) : (s.journal t a c x y).window = s.window := by rw [State.journal_same]
@[simp] theorem State.journal_debug (s : State) (t a c x y : Nat) : (s.journal t a c x y).debug = s.debug := by rw [State.journal_same]
@[simp] theorem State.journal_mem (s : State) (t a c x y : Nat) : (s.journal t a c x y).mem = s.mem := by rw [State.journal_same]
@[simp] theorem State.journal_slots (s : State) (t a c x y : Nat) : (s.journal t a c x y).slots = s.slots := by rw [State.journal_same]
@[simp] theorem State.journal_loads (s : State) (t a c x y : Nat) : (s.journal t a c x y).loads = s.loads := by rw [State.journal_same]
@[simp] theorem State.journal_prts (s : State) (t a c x y : Nat) : (s.journal t a c x y).prts = s.prts := by rw [State.journal_same]
@[simp] theorem State.journal_streams (s : State) (t a c x y : Nat) : (s.journal t a c x y).streams = s.streams := by rw [State.journal_same]
@[simp] theorem State.journal_seqs (s : State) (t a c x y : Nat) : (s.journal t a c x y).seqs = s.seqs := by rw [State.journal_same]
@[simp] theorem State.journal_links (s : State) (t a c x y : Nat) : (s.journal t a c x y).links = s.links := by rw [State.journal_same]
@[simp] theorem State.journal_flights (s : State) (t a c x y : Nat) : (s.journal t a c x y).flights = s.flights := by rw [State.journal_same]
@[simp] theorem State.journal_aud (s : State) (t a c x y : Nat) : (s.journal t a c x y).aud = s.aud := by rw [State.journal_same]
@[simp] theorem State.journal_isl (s : State) (t a c x y : Nat) : (s.journal t a c x y).isl = s.isl := by rw [State.journal_same]
@[simp] theorem State.journal_tan (s : State) (t a c x y : Nat) : (s.journal t a c x y).tan = s.tan := by rw [State.journal_same]
@[simp] theorem State.journal_out (s : State) (t a c x y : Nat) : (s.journal t a c x y).out = s.out := by rw [State.journal_same]
end Sys2Proof.Machine
end

