-- ==== Sys2Proof/Laws/Run.lean ====
section
/-! SUPPORT. Laws of the forms in which a command answers: what every answer keeps, and when it stops. -/
namespace Sys2Proof
open Sys2Proof.Machine

theorem SameFuses.refl (p : Part) : SameFuses p p := ⟨rfl, rfl, rfl, rfl, rfl, id⟩

theorem SameFuses.trans {p q r : Part} (h : SameFuses p q) (k : SameFuses q r) : SameFuses p r :=
  ⟨k.variant.trans h.variant, k.dieId.trans h.dieId, k.repair.trans h.repair, k.revoked.trans h.revoked, k.keys.trans h.keys,
    fun e => k.sealed (h.sealed e)⟩

end Sys2Proof
namespace Sys2Proof.Machine
open Sys2Proof

/-- The queue, the tick number and the fuses are as they were, and the clock did not go back. -/
structure Kept (s t : State) : Prop where
  pending : t.pending = s.pending
  now : s.now ≤ t.now
  number : t.tick.number = s.tick.number
  fuses : SameFuses s.part t.part

theorem Kept.refl (s : State) : Kept s s := ⟨rfl, le_refl _, rfl, SameFuses.refl _⟩

theorem State.keep_kept (f : State → State) (s : State) : Kept s (State.keep f s) := ⟨rfl, le_refl _, rfl, SameFuses.refl _⟩

theorem State.keepReg_kept (f : State → State) (s : State) : Kept s (State.keepReg f s) :=
  ⟨rfl, le_refl _, rfl, ⟨rfl, rfl, rfl, rfl, rfl, id⟩⟩

theorem State.keepCmd_kept (f : State → State) (s : State) : Kept s (State.keepCmd f s) :=
  ⟨rfl, le_refl _, rfl, ⟨rfl, rfl, rfl, rfl, rfl, fun h => by simp [State.keepCmd, h]⟩⟩

theorem State.waitTo_kept (s : State) (t : Nat) : Kept s (s.waitTo t) := ⟨rfl, le_max_left _ _, rfl, SameFuses.refl _⟩

theorem Kept.trans {s t u : State} (h : Kept s t) (k : Kept t u) : Kept s u :=
  ⟨k.pending.trans h.pending, le_trans h.now k.now, k.number.trans h.number, h.fuses.trans k.fuses⟩

/-- An answer that keeps what no event changes, and stops only because the block cannot show the event. -/
structure Sound (s : State) (a : Answer) : Prop where
  next : ∀ t, a = .next t → Kept s t
  fault : ∀ r, a = .fault r → r = .noSuchEvent ∧ s.alive = true
  refused : ∀ r, a ≠ .refused r

theorem Sound.idle (s : State) : Sound s (.next s) :=
  ⟨fun t h => (by cases h; exact Kept.refl s), fun r h => (by cases h), fun r h => (by cases h)⟩

theorem Sound.of_kept {s t : State} (h : Kept s t) : Sound s (.next t) :=
  ⟨fun u e => (by cases e; exact h), fun r h => (by cases h), fun r h => (by cases h)⟩

theorem Sound.stop {s : State} (h : s.alive = true) : Sound s (.fault .noSuchEvent) :=
  ⟨fun t e => (by cases e), fun r e => (by cases e; exact ⟨rfl, h⟩), fun r e => (by cases e)⟩

theorem Sound.after {s t : State} {a : Answer} (h : Kept s t) (hs : s.alive = true) (k : Sound t a) : Sound s a :=
  ⟨fun u e => h.trans (k.next u e), fun r e => ⟨(k.fault r e).1, hs⟩, k.refused⟩

theorem run_sound (f : State → State) (s : State) : Sound s (run f s) := by
  unfold run
  split
  · exact .of_kept (State.keep_kept f s)
  · exact .idle s

theorem runIf_sound (p : State → Bool) (f : State → State) (s : State) : Sound s (runIf p f s) := by
  unfold runIf
  split
  · exact .idle s
  · rename_i h
    split
    · exact .of_kept (State.keep_kept f s)
    · exact .stop (by simpa using h)

theorem runAt_sound (t : State → Nat) (p : State → Bool) (f : State → State) (s : State) : Sound s (runAt t p f s) := by
  unfold runAt
  split
  · exact .idle s
  · rename_i h
    exact .after (State.waitTo_kept s _) (by simpa using h) (runIf_sound p f _)

theorem runReg_sound (f : State → State) (s : State) : Sound s (runReg f s) := by
  unfold runReg
  split
  · exact .of_kept (State.keepReg_kept f s)
  · exact .idle s

theorem runRegIf_sound (p : State → Bool) (f : State → State) (s : State) : Sound s (runRegIf p f s) := by
  unfold runRegIf
  split
  · exact .idle s
  · rename_i h
    split
    · exact .of_kept (State.keepReg_kept f s)
    · exact .stop (by simpa using h)

theorem runCmd_sound (f : State → State) (s : State) : Sound s (runCmd f s) := by
  unfold runCmd
  split
  · exact .of_kept (State.keepCmd_kept f s)
  · exact .idle s

theorem runCmdIf_sound (p : State → Bool) (f : State → State) (s : State) : Sound s (runCmdIf p f s) := by
  unfold runCmdIf
  split
  · exact .idle s
  · rename_i h
    split
    · exact .of_kept (State.keepCmd_kept f s)
    · exact .stop (by simpa using h)

theorem runCmdAt_sound (t : State → Nat) (p : State → Bool) (f : State → State) (s : State) : Sound s (runCmdAt t p f s) := by
  unfold runCmdAt
  split
  · exact .idle s
  · rename_i h
    exact .after (State.waitTo_kept s _) (by simpa using h) (runCmdIf_sound p f _)

/-! ### When an answer is a next state -/

theorem runCmd_alive (f : State → State) (s : State) (h : s.alive = true) : runCmd f s = .next (State.keepCmd (fun _ => f s) s) := by
  rw [runCmd, if_pos h]
  rfl

theorem runCmdIf_alive (p : State → Bool) (f : State → State) (s : State) (h : s.alive = true) (hp : p s = true) :
    runCmdIf p f s = .next (State.keepCmd (fun _ => f s) s) := by
  rw [runCmdIf, if_neg (by simp [h]), if_pos hp]
  rfl

theorem runCmdAt_alive (t : State → Nat) (p : State → Bool) (f : State → State) (s : State) (h : s.alive = true)
    (hp : p (s.waitTo (t s)) = true) :
    runCmdAt t p f s = .next (State.keepCmd (fun _ => f (s.waitTo (t s))) (s.waitTo (t s))) := by
  rw [runCmdAt, if_neg (by simp [h])]
  exact runCmdIf_alive p f (s.waitTo (t s)) h hp

end Sys2Proof.Machine
end

