-- ==== Sys2Proof/Laws/Access.lean ====
section
/-! SUPPORT. Laws of register writes: a word that reaches its register, and the rows that are such a write. -/
namespace Sys2Proof.Machine
open Sys2Proof

/-! ### The state as an access finds it -/

theorem State.wakeLink_same (s : State) : State.SameBut4 s s.wakeLink := by
  have key (u : State) (h : State.SameBut4 s u) : State.SameBut4 s
      (if u.fld Reg.LNK_STATUS 9 2 = 0 then u else (u.setPm 0).count Reg.LNK_L1_EXITS 1) := by
    split
    · exact h
    · refine h.trans (State.SameBut4.trans ?_ (State.count_same ..).four)
      unfold State.setPm
      split
      · rfl
      · exact (State.wr_same ..).four.trans (State.trace_same ..)
  exact key _ rfl

theorem woken_same (s : State) (agent : Nat) : State.SameBut4 s (woken s agent) := by
  unfold woken
  split
  · exact s.wakeLink_same
  · rfl

/-! ### Claims, commits and waiting writes that no register update touches -/

theorem State.SameBut3.rd_of_regs {s t : State} (h : State.SameBut3 s t) (hr : t.regs = s.regs) (o : Nat) : t.rd o = s.rd o := by
  simp [State.rd, hr, h.part]

theorem State.passVec_regs (s : State) (n v : Nat) : (s.passVec n v).regs = s.regs := by
  unfold State.passVec
  split <;> rfl

@[simp] theorem State.dueVec_regs (s : State) (n v : Nat) : (s.dueVec n v).regs = s.regs := by
  have key (u : State) (h : u.regs = s.regs) : (if u.vecSendable n v then u.passVec n v else u).regs = s.regs := by
    split
    · rw [State.passVec_regs, h]
    · exact h
  unfold State.dueVec
  refine key _ ?_
  split <;> rfl

@[simp] theorem State.wakeHost_regs (s : State) : s.wakeHost.regs = s.regs := by
  unfold State.wakeHost
  repeat' split
  all_goals rfl

theorem State.withLine_regs (s : State) (pg : Nat) (f : State → State) : (s.withLine pg f).regs = (f s).regs := by
  have key (c : Bool) (u : State) (h : u.regs = (f s).regs) : (if c then u.wakeHost else u).regs = (f s).regs := by
    split
    · rw [State.wakeHost_regs, h]
    · exact h
  unfold State.withLine
  refine key _ _ ?_
  split
  · exact State.dueVec_regs ..
  · rfl

theorem State.resend_regs (s : State) (pg : Nat) (f : State → State) : (s.resend pg f).regs = (f s).regs := by
  have key (c : Bool) (u : State) (n v : Nat) (h : u.regs = (f s).regs) : (if c then u.dueVec n v else u).regs = (f s).regs := by
    split
    · rw [State.dueVec_regs, h]
    · exact h
  unfold State.resend
  exact key _ _ _ _ (State.withLine_regs ..)

/-- Raising causes changes one register: the page's interrupt status. -/
theorem State.raise_regs (s : State) (pg m : Nat) :
    (s.raise pg m).regs = (s.wr (hdrOff pg 0x010) (s.rd (hdrOff pg 0x010) ||| BitVec.ofNat 32 m)).regs := State.withLine_regs ..

theorem State.rd_congr {s t : State} (hr : t.regs = s.regs) (hp : t.part = s.part) (o : Nat) : t.rd o = s.rd o := by
  simp [State.rd, hr, hp]

theorem State.rd_raise_same (s : State) (pg m : Nat) :
    (s.raise pg m).rd (hdrOff pg 0x010) = s.rd (hdrOff pg 0x010) ||| BitVec.ofNat 32 m := by
  rw [State.rd_congr (State.raise_regs s pg m) (by simp), State.rd_wr_same]

theorem State.rd_raise_other (s : State) (pg m o : Nat) (h : o ≠ hdrOff pg 0x010) : (s.raise pg m).rd o = s.rd o := by
  rw [State.rd_congr (State.raise_regs s pg m) (by simp), State.rd_wr_other _ _ _ _ h]

theorem State.rd_raiseBit_same (s : State) (pg i : Nat) :
    (s.raiseBit pg i).rd (hdrOff pg 0x010) = s.rd (hdrOff pg 0x010) ||| BitVec.ofNat 32 (2 ^ i) := State.rd_raise_same ..

theorem State.rd_raiseBit_other (s : State) (pg i o : Nat) (h : o ≠ hdrOff pg 0x010) : (s.raiseBit pg i).rd o = s.rd o :=
  State.rd_raise_other _ _ _ _ h

/-- A statistics counter below its maximum counts up, and stops at its maximum (R117). -/
theorem State.rd_count_same (s : State) (off n : Nat) (h : off ≠ hdrOff (off / 0x1000) 0x010) :
    (s.count off n).rd off = BitVec.ofNat 32 (min (2 ^ 32 - 1) ((s.rd off).toNat + n)) := by
  have hv := (s.rd off).isLt
  unfold State.count
  simp only
  split
  · rename_i hm
    rw [hm, Nat.min_eq_left (by omega)]
    apply BitVec.eq_of_toNat_eq
    simpa using hm
  · split
    · rename_i hg
      rw [State.rd_raiseBit_other _ _ _ _ h, State.rd_wr_same, Nat.min_eq_left hg]
    · rename_i hg
      rw [State.rd_wr_same, Nat.min_eq_right (by omega)]

theorem State.rd_count_other (s : State) (off n o : Nat) (h : o ≠ off) (hs : o ≠ hdrOff (off / 0x1000) 0x010) :
    (s.count off n).rd o = s.rd o := by
  unfold State.count
  simp only
  split
  · rfl
  · split
    · rw [State.rd_raiseBit_other _ _ _ _ hs, State.rd_wr_other _ _ _ _ h]
    · rw [State.rd_wr_other _ _ _ _ h]

theorem State.log_regs (s : State) (h l c x y z : Nat) : (s.log h l c x y z).regs = s.regs := by
  unfold State.log
  split <;> rfl

theorem State.trace_regs (s : State) (p u a b : Nat) : (s.trace p u a b).regs = s.regs := by
  unfold State.trace
  split <;> rfl

/-! ### The error record (R102) -/

/-- Registers that recording an error leaves: all but the two words of the record and two interrupt statuses. -/
theorem State.rd_recordErr_other (s : State) (pg code agent off : Nat) (write : Bool) (be o : Nat) (h1 : o ≠ hdrOff pg 0x01C)
    (h2 : o ≠ hdrOff pg 0x020) (h3 : o ≠ hdrOff pg 0x010) (h4 : o ≠ hdrOff 0x00D 0x010) :
    (s.recordErr pg code agent off write be).rd o = s.rd o := by
  have key (u : State) (h : u.rd o = s.rd o) : (match pageOf pg with
      | none => u
      | some (b, inst) => match hubOf b inst with
        | none => u
        | some h => if u.restarting h then u else (u.log h 0 code off agent 0).raiseBit 0x00D 3).rd o = s.rd o := by
    split
    · exact h
    · split
      · exact h
      · split
        · exact h
        · rw [State.rd_raiseBit_other _ _ _ _ h4, State.rd_congr (State.log_regs ..) (by simp), h]
  unfold State.recordErr
  refine key _ ?_
  rw [State.rd_raiseBit_other _ _ _ _ h3, State.rd_wr_other _ _ _ _ h2, State.rd_wr_other _ _ _ _ h1]

/-! ### Words written -/

theorem word_of_withBits (v : Word) (m : Nat) : BitVec.ofNat 32 (withBits v m).toNat = v ||| BitVec.ofNat 32 m := by
  apply BitVec.eq_of_toNat_eq
  have hv := v.isLt
  simp only [withBits, BitVec.toNat_ofNat, BitVec.toNat_or]
  rw [Nat.mod_mod_of_dvd _ (by norm_num : 2 ^ 32 ∣ 2 ^ 64)]
  show (v.toNat ||| m) % 2 ^ 32 = v.toNat ||| m % 2 ^ 32
  rw [Nat.or_mod_two_pow, Nat.mod_eq_of_lt hv]

/-- A write that reaches its register is judged there, in the state as the access finds it. -/
theorem State.write32_reaches {s : State} {agent off : Nat} (h : Reaches s agent off) {b : Block} {inst : Nat} {r : RegSpec}
    (hb : pageOf (off / 0x1000) = some (b, inst)) (hr : specAt off = some r) (v : DWord) :
    s.write32 agent off v = (woken s agent).writeWord agent off b inst r (BitVec.ofNat 32 v.toNat) none false := by
  obtain ⟨-, hrid, hal, ⟨b', i', hb', hresp, hperm, hpres⟩, -, -⟩ := h
  rw [hb] at hb'
  obtain ⟨rfl, rfl⟩ : b = b' ∧ inst = i' := by simpa using hb'
  have hw := woken_same s agent
  have hresp' : (woken s agent).responds b inst = true := by simpa [State.responds, hw.boot] using hresp
  have hpres' : b.present (woken s agent).part.variant inst = true := by rw [hw.part]; exact hpres
  have hoff : off / 4 * 4 = off := by omega
  have hacc : (woken s agent).access agent off 0xF v none false
      = (woken s agent).writeWord agent off b inst r (BitVec.ofNat 32 v.toNat) none false := by
    simp [State.access, State.access32, hal, hb, hr, hoff, hresp', hperm, hpres']
  unfold State.write32 State.writeAccess
  by_cases ha : agent < 0x10
  · obtain ⟨h1, h2⟩ := hrid ha
    simpa [ha, h1, h2, woken] using hacc
  · simpa [ha, woken] using hacc

end Sys2Proof.Machine
end

