-- ==== Sys2Proof/Laws/Fixed.lean ====
section
/-! SUPPORT. What most operations leave fixed: one lemma for each operation that leaves the clock, the part, the tick generator, power,
the governor, sensors, hubs, boot, the presence window, the debug port, the island and the queue as they were. -/
namespace Sys2Proof.Machine
open Sys2Proof

theorem State.pending_of_fixed {s t : State} (h : t.fixed = s.fixed) : t.pending = s.pending := congrArg Fixed.pending h
theorem State.now_of_fixed {s t : State} (h : t.fixed = s.fixed) : t.now = s.now := congrArg Fixed.now h
theorem State.part_of_fixed {s t : State} (h : t.fixed = s.fixed) : t.part = s.part := congrArg Fixed.part h
theorem State.tick_of_fixed {s t : State} (h : t.fixed = s.fixed) : t.tick = s.tick := congrArg Fixed.tick h
theorem State.pwr_of_fixed {s t : State} (h : t.fixed = s.fixed) : t.pwr = s.pwr := congrArg Fixed.pwr h
theorem State.gov_of_fixed {s t : State} (h : t.fixed = s.fixed) : t.gov = s.gov := congrArg Fixed.gov h
theorem State.sensors_of_fixed {s t : State} (h : t.fixed = s.fixed) : t.sensors = s.sensors := congrArg Fixed.sensors h
theorem State.hubs_of_fixed {s t : State} (h : t.fixed = s.fixed) : t.hubs = s.hubs := congrArg Fixed.hubs h
theorem State.boot_of_fixed {s t : State} (h : t.fixed = s.fixed) : { t.boot with op := none } = { s.boot with op := none } :=
  congrArg Fixed.boot h
theorem State.window_of_fixed {s t : State} (h : t.fixed = s.fixed) : t.window = s.window := congrArg Fixed.window h
theorem State.debug_of_fixed {s t : State} (h : t.fixed = s.fixed) : t.debug = s.debug := congrArg Fixed.debug h
theorem State.isl_of_fixed {s t : State} (h : t.fixed = s.fixed) : t.isl = s.isl := congrArg Fixed.isl h

/-- An update of the other parts leaves them fixed. -/
theorem State.fixed_mk (t : State) (freeCtr : Nat) (regs : RegFile) (link : Link) (jnl : Journal) (mem : Stacks) (slots : List (Nat × Slot)) (loads : List Load) (prts : List (Nat × Prt)) (streams : List (Nat × Stream)) (seqs : List (Nat × Seq)) (links : List ((Nat × Nat) × HandLink)) (flights : List Flight) (aud : Audio) (trc : Trace) (tan : Tandem) (out : List OutEvent) :
    State.fixed (State.mk t.pending t.now freeCtr t.part t.tick regs t.pwr t.gov t.sensors t.hubs t.boot link jnl t.window t.debug mem slots loads prts streams seqs links flights aud t.isl trc tan out) = t.fixed := rfl

theorem State.fixed_ite {c : Prop} [Decidable c] (a b : State) : (if c then a else b).fixed = if c then a.fixed else b.fixed := by
  split <;> rfl

theorem State.fixed_foldl {A : Type} (f : State → A → State) (l : List A) (s : State) (h : ∀ t x, (f t x).fixed = t.fixed) :
    (l.foldl f s).fixed = s.fixed := by
  induction l generalizing s with
  | nil => rfl
  | cons x l ih => exact (ih _).trans (h s x)

theorem State.fixed_foldl_fst {A B : Type} (f : State × B → A → State × B) (l : List A) (s : State × B)
    (h : ∀ t x, (f t x).1.fixed = t.1.fixed) : (l.foldl f s).1.fixed = s.1.fixed := by
  induction l generalizing s with
  | nil => rfl
  | cons x l ih => exact (ih _).trans (h s x)

theorem State.fixed_foldl_snd {A B : Type} (f : B × State → A → B × State) (l : List A) (s : B × State)
    (h : ∀ t x, (f t x).2.fixed = t.2.fixed) : (l.foldl f s).2.fixed = s.2.fixed := by
  induction l generalizing s with
  | nil => rfl
  | cons x l ih => exact (ih _).trans (h s x)

theorem State.wr_fixed (s : State) (off : Nat) (w : Word) :
    (State.wr s off w).fixed = s.fixed := by
  unfold State.wr
  repeat' first
    | with_reducible rfl
    | simp only [State.fixed_mk]

theorem State.setFld_fixed (s : State) (off : Nat) (lo : Nat) (n : Nat) (v : Nat) :
    (State.setFld s off lo n v).fixed = s.fixed := by
  unfold State.setFld
  repeat' first
    | with_reducible rfl
    | simp only [State.wr_fixed]

theorem State.wr64_fixed (s : State) (off : Nat) (v : Nat) :
    (State.wr64 s off v).fixed = s.fixed := by
  unfold State.wr64
  repeat' first
    | with_reducible rfl
    | simp only [State.wr_fixed]

theorem State.emit_fixed (s : State) (e : OutEvent) :
    (State.emit s e).fixed = s.fixed := by
  unfold State.emit
  repeat' first
    | with_reducible rfl
    | simp only [State.fixed_mk]

theorem State.fresh_fixed (s : State) :
    (State.fresh s).2.fixed = s.fixed := by
  unfold State.fresh
  repeat' first
    | with_reducible rfl
    | simp only [State.fixed_mk]

theorem State.setVec_fixed (s : State) (n : Nat) (v : Nat) (x : VecState) :
    (State.setVec s n v x).fixed = s.fixed := by
  unfold State.setVec
  repeat' first
    | with_reducible rfl
    | simp only [State.fixed_mk]

theorem State.passVec_fixed (s : State) (n : Nat) (v : Nat) :
    (State.passVec s n v).fixed = s.fixed := by
  unfold State.passVec
  repeat' first
    | with_reducible rfl
    | simp only [State.fixed_ite, ite_self, State.emit_fixed, State.setVec_fixed]

theorem State.dueVec_fixed (s : State) (n : Nat) (v : Nat) :
    (State.dueVec s n v).fixed = s.fixed := by
  unfold State.dueVec
  repeat' first
    | with_reducible rfl
    | simp only [State.fixed_ite, ite_self, State.setVec_fixed, State.passVec_fixed]
    | refine (State.fixed_foldl _ _ _ fun t x => ?_).trans ?_
    | refine (State.fixed_foldl_fst _ _ _ fun t x => ?_).trans ?_
    | refine (State.fixed_foldl_snd _ _ _ fun t x => ?_).trans ?_
    | split

theorem State.flushHeld_fixed (s : State) (n : Nat) :
    (State.flushHeld s n).fixed = s.fixed := by
  unfold State.flushHeld
  repeat' first
    | with_reducible rfl
    | simp only [State.fixed_ite, ite_self, State.passVec_fixed]
    | refine (State.fixed_foldl _ _ _ fun t x => ?_).trans ?_

theorem State.wakeHost_fixed (s : State) :
    (State.wakeHost s).fixed = s.fixed := by
  unfold State.wakeHost
  repeat' first
    | with_reducible rfl
    | simp only [State.fixed_mk, State.fixed_ite, ite_self, State.emit_fixed]

theorem State.withLine_fixed (s : State) (pg : Nat) (f : State → State) (h : ∀ t, (f t).fixed = t.fixed) :
    (State.withLine s pg f).fixed = s.fixed := by
  unfold State.withLine
  repeat' first
    | with_reducible rfl
    | simp only [State.fixed_ite, ite_self, State.dueVec_fixed, State.wakeHost_fixed, h]

theorem State.raise_fixed (s : State) (pg : Nat) (mask : Nat) :
    (State.raise s pg mask).fixed = s.fixed := by
  exact State.withLine_fixed _ _ _ fun t => State.wr_fixed ..

theorem State.raiseBit_fixed (s : State) (pg : Nat) (i : Nat) :
    (State.raiseBit s pg i).fixed = s.fixed := by
  unfold State.raiseBit
  repeat' first
    | with_reducible rfl
    | simp only [State.raise_fixed]

theorem State.count_fixed (s : State) (off : Nat) (n : Nat) :
    (State.count s off n).fixed = s.fixed := by
  unfold State.count
  repeat' first
    | with_reducible rfl
    | simp only [State.fixed_ite, ite_self, State.wr_fixed, State.raiseBit_fixed]

theorem State.count48_fixed (s : State) (off : Nat) (n : Nat) :
    (State.count48 s off n).fixed = s.fixed := by
  unfold State.count48
  repeat' first
    | with_reducible rfl
    | simp only [State.fixed_ite, ite_self, State.wr64_fixed, State.raiseBit_fixed]

theorem State.log_fixed (s : State) (h : Nat) (level : Nat) (code : Nat) (arg0 : Nat) (arg1 : Nat) (arg2 : Nat) :
    (State.log s h level code arg0 arg1 arg2).fixed = s.fixed := by
  unfold State.log
  repeat' first
    | with_reducible rfl
    | simp only [State.fixed_mk, State.fixed_ite, ite_self]

theorem State.trace_fixed (s : State) (p : Nat) (unit : Nat) (a : Nat) (b : Nat) :
    (State.trace s p unit a b).fixed = s.fixed := by
  unfold State.trace
  repeat' first
    | with_reducible rfl
    | simp only [State.fixed_mk, State.fixed_ite, ite_self]

theorem State.recordErr_fixed (s : State) (pg : Nat) (code : Nat) (agent : Nat) (off : Nat) (write : Bool) (be : Nat) :
    (State.recordErr s pg code agent off write be).fixed = s.fixed := by
  unfold State.recordErr
  repeat' first
    | with_reducible rfl
    | simp only [State.fixed_ite, ite_self, State.wr_fixed, State.raiseBit_fixed, State.log_fixed]
    | refine (State.fixed_foldl _ _ _ fun t x => ?_).trans ?_
    | refine (State.fixed_foldl_fst _ _ _ fun t x => ?_).trans ?_
    | refine (State.fixed_foldl_snd _ _ _ fun t x => ?_).trans ?_
    | split

theorem State.recordErrAt_fixed (s : State) (pg : Nat) (code : Nat) (agent : Nat) :
    (State.recordErrAt s pg code agent).fixed = s.fixed := by
  unfold State.recordErrAt
  repeat' first
    | with_reducible rfl
    | simp only [State.recordErr_fixed]

theorem State.badVal_fixed (s : State) (agent : Nat) (off : Nat) :
    (State.badVal s agent off).fixed = s.fixed := by
  unfold State.badVal
  repeat' first
    | with_reducible rfl
    | simp only [State.recordErr_fixed]

theorem State.journal_fixed (s : State) (type : Nat) (agent : Nat) (code : Nat) (arg0 : Nat) (arg1 : Nat) :
    (State.journal s type agent code arg0 arg1).fixed = s.fixed := by
  unfold State.journal
  repeat' first
    | with_reducible rfl
    | simp only [State.fixed_mk, State.fixed_ite, ite_self, State.trace_fixed]

theorem State.setPm_fixed (s : State) (pm : Nat) :
    (State.setPm s pm).fixed = s.fixed := by
  unfold State.setPm
  repeat' first
    | with_reducible rfl
    | simp only [State.fixed_ite, ite_self, State.setFld_fixed, State.trace_fixed]

theorem State.wakeLink_fixed (s : State) :
    (State.wakeLink s).fixed = s.fixed := by
  unfold State.wakeLink
  repeat' first
    | with_reducible rfl
    | simp only [State.fixed_mk, State.fixed_ite, ite_self, State.count_fixed, State.setPm_fixed]

theorem State.dmaWrite_fixed (s : State) (n : Nat) (addr : Nat) (bytes : List Byte) :
    (State.dmaWrite s n addr bytes).fixed = s.fixed := by
  unfold State.dmaWrite
  repeat' first
    | with_reducible rfl
    | simp only [State.fixed_ite, ite_self, State.emit_fixed, State.wakeLink_fixed]

theorem State.dmaRead_fixed (s : State) (n : Nat) (f : Nat) (addr : Nat) (len : Nat) :
    (State.dmaRead s n f addr len).fixed = s.fixed := by
  unfold State.dmaRead
  repeat' first
    | with_reducible rfl
    | simp only [State.fixed_mk, State.fixed_ite, ite_self, State.emit_fixed, State.wakeLink_fixed]

theorem State.readEnds_fixed (s : State) (n : Nat) :
    (State.readEnds s n).fixed = s.fixed := by
  unfold State.readEnds
  repeat' first
    | with_reducible rfl
    | simp only [State.fixed_mk]

theorem State.recordDma_fixed (s : State) (n : Nat) (kind : Nat) :
    (State.recordDma s n kind).fixed = s.fixed := by
  unfold State.recordDma
  repeat' first
    | with_reducible rfl
    | simp only [State.raiseBit_fixed, State.count_fixed, State.recordErrAt_fixed]

theorem State.setCmd_fixed (s : State) (order : Nat) (f : Cmd → Cmd) :
    (State.setCmd s order f).fixed = s.fixed := by
  unfold State.setCmd
  repeat' first
    | with_reducible rfl
    | simp only [State.fixed_mk]

theorem State.produce_fixed (s : State) (o : Owner) (kind : CplKind) (code : Nat) (status : Nat) (result : Nat) (payload : List Byte) (obj : Nat) :
    (State.produce s o kind code status result payload obj).fixed = s.fixed := by
  unfold State.produce
  repeat' first
    | with_reducible rfl
    | simp only [State.fixed_mk]

theorem State.event_fixed (s : State) (o : Owner) (code : Nat) (status : Nat) (result : Nat) :
    (State.event s o code status result).fixed = s.fixed := by
  unfold State.event
  repeat' first
    | with_reducible rfl
    | simp only [State.fixed_mk, State.fixed_ite, ite_self, State.produce_fixed]

theorem State.decide_fixed (s : State) (order : Nat) (status : Nat) (result : Nat) :
    (State.decide s order status result).fixed = s.fixed := by
  unfold State.decide
  repeat' first
    | with_reducible rfl
    | simp only [State.fixed_mk, State.fixed_ite, ite_self, State.setCmd_fixed, State.produce_fixed]
    | refine (State.fixed_foldl _ _ _ fun t x => ?_).trans ?_
    | refine (State.fixed_foldl_fst _ _ _ fun t x => ?_).trans ?_
    | refine (State.fixed_foldl_snd _ _ _ fun t x => ?_).trans ?_
    | split

theorem State.abandon_fixed (s : State) (order : Nat) :
    (State.abandon s order).fixed = s.fixed := by
  unfold State.abandon
  repeat' first
    | with_reducible rfl
    | simp only [State.fixed_mk, State.fixed_ite, ite_self]
    | refine (State.fixed_foldl _ _ _ fun t x => ?_).trans ?_
    | refine (State.fixed_foldl_fst _ _ _ fun t x => ?_).trans ?_
    | refine (State.fixed_foldl_snd _ _ _ fun t x => ?_).trans ?_
    | split

theorem State.decideAll_fixed (s : State) (p : Cmd → Bool) (status : Nat) :
    (State.decideAll s p status).fixed = s.fixed := by
  unfold State.decideAll
  repeat' first
    | with_reducible rfl
    | simp only [State.decide_fixed]
    | refine (State.fixed_foldl _ _ _ fun t x => ?_).trans ?_

theorem State.countObj_fixed (s : State) (key : Nat) (w : Nat) (n : Nat) :
    (State.countObj s key w n).fixed = s.fixed := by
  unfold State.countObj
  repeat' first
    | with_reducible rfl
    | simp only [State.fixed_mk, State.fixed_ite, ite_self, State.raiseBit_fixed]

theorem State.zeroObj_fixed (s : State) (h : Nat) :
    (State.zeroObj s h).fixed = s.fixed := by
  unfold State.zeroObj
  repeat' first
    | with_reducible rfl
    | simp only [State.fixed_mk]

theorem State.countPayload_fixed (s : State) (h : Nat) (dropped : Bool) :
    (State.countPayload s h dropped).fixed = s.fixed := by
  unfold State.countPayload
  repeat' first
    | with_reducible rfl
    | simp only [State.countObj_fixed]

theorem State.placeOutput_fixed (s : State) (e : CplEntry) :
    (State.placeOutput s e).2.fixed = s.fixed := by
  unfold State.placeOutput
  repeat' first
    | with_reducible rfl
    | simp only [State.fixed_mk, State.countPayload_fixed]
    | refine (State.fixed_foldl _ _ _ fun t x => ?_).trans ?_
    | refine (State.fixed_foldl_fst _ _ _ fun t x => ?_).trans ?_
    | refine (State.fixed_foldl_snd _ _ _ fun t x => ?_).trans ?_
    | split

theorem State.freeRegion_fixed (s : State) (obj : Nat) (id : Nat) :
    (State.freeRegion s obj id).fixed = s.fixed := by
  unfold State.freeRegion
  repeat' first
    | with_reducible rfl
    | simp only [State.fixed_mk]
    | refine (State.fixed_foldl _ _ _ fun t x => ?_).trans ?_
    | refine (State.fixed_foldl_fst _ _ _ fun t x => ?_).trans ?_
    | refine (State.fixed_foldl_snd _ _ _ fun t x => ?_).trans ?_
    | split

theorem State.writeEntry_fixed (s : State) (e : CplEntry) :
    (State.writeEntry s e).fixed = s.fixed := by
  unfold State.writeEntry
  repeat' first
    | with_reducible rfl
    | simp only [State.fixed_mk, State.fixed_ite, ite_self, State.wr_fixed, State.trace_fixed, State.dmaWrite_fixed]
    | refine (State.fixed_foldl _ _ _ fun t x => ?_).trans ?_
    | refine (State.fixed_foldl_fst _ _ _ fun t x => ?_).trans ?_
    | refine (State.fixed_foldl_snd _ _ _ fun t x => ?_).trans ?_
    | split

theorem State.dropEntry_fixed (s : State) (e : CplEntry) (record : Bool) :
    (State.dropEntry s e record).fixed = s.fixed := by
  unfold State.dropEntry
  repeat' first
    | with_reducible rfl
    | simp only [State.fixed_mk, State.fixed_ite, ite_self, State.raiseBit_fixed, State.count_fixed, State.recordErrAt_fixed]

theorem State.drainList_fixed (s : State) (a : List CplEntry) :
    (State.drainList s a).1.fixed = s.fixed := by
  induction a generalizing s with
  | nil => rfl
  | cons e t ih =>
    unfold State.drainList
    split
    · exact (ih _).trans (State.writeEntry_fixed ..)
    · exact ih _

theorem State.cqMessages_fixed (s : State) (n : Nat) (rings : List Nat) :
    (State.cqMessages s n rings).fixed = s.fixed := by
  unfold State.cqMessages
  repeat' first
    | with_reducible rfl
    | simp only [State.fixed_ite, ite_self, State.dueVec_fixed]
    | refine (State.fixed_foldl _ _ _ fun t x => ?_).trans ?_

theorem State.logHigh_fixed (s : State) (n : Nat) :
    (State.logHigh s n).fixed = s.fixed := by
  unfold State.logHigh
  repeat' first
    | with_reducible rfl
    | simp only [State.fixed_mk, State.fixed_ite, ite_self, State.log_fixed]

theorem State.setBacklog_fixed (s : State) (n : Nat) (l : List CplEntry) :
    (State.setBacklog s n l).fixed = s.fixed := by
  unfold State.setBacklog
  repeat' first
    | with_reducible rfl
    | simp only [State.fixed_mk, State.logHigh_fixed]

theorem State.drain_fixed (s : State) (n : Nat) :
    (State.drain s n).fixed = s.fixed := by
  unfold State.drain
  repeat' first
    | with_reducible rfl
    | simp only [State.drainList_fixed, State.cqMessages_fixed, State.setBacklog_fixed]

theorem State.stamp_fixed (s : State) (e : CplEntry) :
    (State.stamp s e).2.fixed = s.fixed := by
  unfold State.stamp
  repeat' first
    | with_reducible rfl
    | simp only [State.placeOutput_fixed]
    | refine (State.fixed_foldl _ _ _ fun t x => ?_).trans ?_
    | refine (State.fixed_foldl_fst _ _ _ fun t x => ?_).trans ?_
    | refine (State.fixed_foldl_snd _ _ _ fun t x => ?_).trans ?_
    | split

theorem State.hold_fixed (s : State) (e : CplEntry) :
    (State.hold s e).fixed = s.fixed := by
  unfold State.hold
  repeat' first
    | with_reducible rfl
    | simp only [State.fixed_ite, ite_self, State.dropEntry_fixed, State.setBacklog_fixed]

theorem State.offer_fixed (s : State) (fresh : Bool) (e : CplEntry) :
    (State.offer s fresh e).1.fixed = s.fixed := by
  unfold State.offer
  repeat' first
    | with_reducible rfl
    | simp only [State.fixed_ite, ite_self, State.writeEntry_fixed, State.dropEntry_fixed, State.setBacklog_fixed, State.stamp_fixed, State.hold_fixed]
    | refine (State.fixed_foldl _ _ _ fun t x => ?_).trans ?_
    | refine (State.fixed_foldl_fst _ _ _ fun t x => ?_).trans ?_
    | refine (State.fixed_foldl_snd _ _ _ fun t x => ?_).trans ?_
    | split

theorem State.offerAll_fixed (s : State) (a : List (Bool × CplEntry)) :
    (State.offerAll s a).1.fixed = s.fixed := by
  induction a generalizing s with
  | nil => rfl
  | cons e t ih => exact (ih _).trans (State.offer_fixed ..)

theorem State.takeWaiting_fixed (s : State) (n : Nat) :
    (State.takeWaiting s n).2.fixed = s.fixed := by
  unfold State.takeWaiting
  repeat' first
    | with_reducible rfl
    | simp only [State.fixed_mk]

theorem State.release_fixed (s : State) :
    (State.release s).fixed = s.fixed := by
  have k1 : ((List.range 16).foldl (fun s n => s.drain n) s).fixed = s.fixed :=
    State.fixed_foldl _ _ _ fun t x => State.drain_fixed ..
  have k2 (u : State) : ((List.range 16).foldl (fun (a : List CplEntry × State) n =>
      let r := a.2.takeWaiting n
      (a.1 ++ r.1, r.2)) ([], u)).2.fixed = u.fixed :=
    State.fixed_foldl_snd _ _ _ fun t x => State.takeWaiting_fixed ..
  have k3 (l : List (Nat × Nat)) (u : State) : ((List.range 16).foldl (fun s n =>
      s.cqMessages n ((l.filter fun p => p.1 = n).map Prod.snd)) u).fixed = u.fixed :=
    State.fixed_foldl _ _ _ fun t x => State.cqMessages_fixed ..
  have k4 (l : List (Bool × CplEntry)) (u v : State) (h : u.fixed = v.fixed) : (u.offerAll l).1.fixed = v.fixed :=
    (State.offerAll_fixed ..).trans h
  unfold State.release
  split
  · rfl
  · generalize List.range 16 = l at *
    exact (k3 _ _).trans (k4 _ _ _ ((k2 _).trans k1))

theorem State.sqTail_fixed (s : State) (agent : Nat) (n : Nat) (q : Nat) (val : Word) :
    (State.sqTail s agent n q val).fixed = s.fixed := by
  unfold State.sqTail
  repeat' first
    | with_reducible rfl
    | simp only [State.fixed_mk, State.fixed_ite, ite_self, State.wr_fixed, State.trace_fixed, State.badVal_fixed]

theorem State.cqHead_fixed (s : State) (agent : Nat) (n : Nat) (q : Nat) (val : Word) :
    (State.cqHead s agent n q val).fixed = s.fixed := by
  unfold State.cqHead
  repeat' first
    | with_reducible rfl
    | simp only [State.fixed_mk, State.fixed_ite, State.wr_fixed, State.trace_fixed, State.badVal_fixed, State.freeRegion_fixed]
    | refine (State.fixed_foldl _ _ _ fun t x => ?_).trans ?_
    | refine (State.fixed_foldl_fst _ _ _ fun t x => ?_).trans ?_
    | refine (State.fixed_foldl_snd _ _ _ fun t x => ?_).trans ?_
    | split

theorem State.countRefused_fixed (s : State) (status : Nat) :
    (State.countRefused s status).fixed = s.fixed := by
  unfold State.countRefused
  repeat' first
    | with_reducible rfl
    | simp only [State.fixed_ite, ite_self, State.count_fixed]

theorem State.setMem_fixed (s : State) (m : Stacks) :
    (State.setMem s m).fixed = s.fixed := by
  unfold State.setMem
  repeat' first
    | with_reducible rfl
    | simp only [State.fixed_mk]

theorem State.setChan_fixed (s : State) (n : Nat) (c : Channel) :
    (State.setChan s n c).fixed = s.fixed := by
  unfold State.setChan
  repeat' first
    | with_reducible rfl
    | simp only [State.setMem_fixed]

theorem State.takeGrans_fixed (s : State) (chans : List Nat) (k : Nat) (cls : GranClass) (owner : Nat) :
    (State.takeGrans s chans k cls owner).fixed = s.fixed := by
  unfold State.takeGrans
  repeat' first
    | with_reducible rfl
    | simp only [State.setMem_fixed]
    | refine (State.fixed_foldl _ _ _ fun t x => ?_).trans ?_

theorem State.freeOwner_fixed (s : State) (cls : GranClass) (owner : Nat) :
    (State.freeOwner s cls owner).fixed = s.fixed := by
  unfold State.freeOwner
  repeat' first
    | with_reducible rfl
    | simp only [State.setMem_fixed]

theorem State.dropScratch_fixed (s : State) (owner : Nat) :
    (State.dropScratch s owner).fixed = s.fixed := by
  have k := State.freeOwner_fixed s .scratch owner
  unfold State.dropScratch
  extract_lets u
  split
  · split
    · exact k
    · exact k
  · exact k

theorem State.reclaimScratch_fixed (chans : List Nat) (k : Nat) (a : List Nat) (a_1 : State) :
    (State.reclaimScratch chans k a a_1).fixed = a_1.fixed := by
  induction a generalizing a_1 with
  | nil => rfl
  | cons o t ih =>
    unfold State.reclaimScratch
    split
    · rfl
    · exact (ih _).trans (State.dropScratch_fixed ..)

theorem State.setPage_fixed (s : State) (q : Nat) (p : KvPage) :
    (State.setPage s q p).fixed = s.fixed := by
  unfold State.setPage
  repeat' first
    | with_reducible rfl
    | simp only [State.fixed_mk]

theorem State.beginSpill_fixed (s : State) (q : Nat) (p : KvPage) :
    (State.beginSpill s q p).fixed = s.fixed := by
  unfold State.beginSpill
  repeat' first
    | with_reducible rfl
    | simp only [State.fixed_ite, ite_self, State.setPage_fixed]
    | refine (State.fixed_foldl _ _ _ fun t x => ?_).trans ?_
    | refine (State.fixed_foldl_fst _ _ _ fun t x => ?_).trans ?_
    | refine (State.fixed_foldl_snd _ _ _ fun t x => ?_).trans ?_
    | split

theorem State.request_fixed (s : State) (chans : List Nat) (k : Nat) (spill : Bool) :
    (State.request s chans k spill).2.fixed = s.fixed := by
  have k := State.reclaimScratch_fixed chans k s.scratches s
  unfold State.request
  split
  · rfl
  · dsimp only
    split
    · exact k
    · split
      · exact (State.fixed_foldl _ _ _ fun t x => State.beginSpill_fixed ..).trans k
      · rfl

theorem State.claimArea_fixed (s : State) (chans : List Nat) (o : Nat) (u : Nat) :
    (State.claimArea s chans o u).fixed = s.fixed := by
  unfold State.claimArea
  repeat' first
    | with_reducible rfl
    | simp only [State.setMem_fixed]
    | refine (State.fixed_foldl _ _ _ fun t x => ?_).trans ?_

theorem State.pruneAreas_fixed (s : State) :
    (State.pruneAreas s).fixed = s.fixed := by
  unfold State.pruneAreas
  repeat' first
    | with_reducible rfl
    | simp only [State.setMem_fixed]

theorem State.takePage_fixed (s : State) (p : Nat) (n : Nat) (unit : Nat) :
    ∀ t, State.takePage s p n unit = some t → t.2.fixed = s.fixed := by
  intro t h
  unfold State.takePage at h
  dsimp only at h
  split at h
  · cases h; rfl
  · split at h
    · cases h
    · cases h; exact State.takeGrans_fixed ..

theorem State.pruneKv_fixed (s : State) :
    (State.pruneKv s).fixed = s.fixed := by
  unfold State.pruneKv
  repeat' first
    | with_reducible rfl
    | simp only [State.setMem_fixed]

theorem State.serve_fixed (s : State) (w : Want) :
    (State.serve s w).fixed = s.fixed := by
  unfold State.serve
  split
  · split
    · rfl
    · exact (State.fixed_mk ..).trans (State.claimArea_fixed ..)
  · exact (State.fixed_mk ..).trans (State.takeGrans_fixed ..)

theorem State.serveWants_fixed (s : State) :
    (State.serveWants s).fixed = s.fixed := by
  unfold State.serveWants
  repeat' first
    | with_reducible rfl
    | simp only [State.fixed_ite, ite_self, State.setMem_fixed, State.serve_fixed]
    | refine (State.fixed_foldl _ _ _ fun t x => ?_).trans ?_

theorem State.setStr_fixed (s : State) (k : Nat) (x : Stream) :
    (State.setStr s k x).fixed = s.fixed := by
  unfold State.setStr
  repeat' first
    | with_reducible rfl
    | simp only [State.fixed_mk]

theorem State.setSeq_fixed (s : State) (k : Nat) (x : Seq) :
    (State.setSeq s k x).fixed = s.fixed := by
  unfold State.setSeq
  repeat' first
    | with_reducible rfl
    | simp only [State.fixed_mk]

theorem State.setPrt_fixed (s : State) (p : Nat) (x : Prt) :
    (State.setPrt s p x).fixed = s.fixed := by
  unfold State.setPrt
  repeat' first
    | with_reducible rfl
    | simp only [State.fixed_mk]

theorem State.setSlot_fixed (s : State) (n : Nat) (x : Slot) :
    (State.setSlot s n x).fixed = s.fixed := by
  unfold State.setSlot
  repeat' first
    | with_reducible rfl
    | simp only [State.fixed_mk]

theorem State.modStr_fixed (s : State) (k : Nat) (f : Stream → Stream) :
    (State.modStr s k f).fixed = s.fixed := by
  unfold State.modStr
  repeat' first
    | with_reducible rfl
    | simp only [State.setStr_fixed]
    | refine (State.fixed_foldl _ _ _ fun t x => ?_).trans ?_
    | refine (State.fixed_foldl_fst _ _ _ fun t x => ?_).trans ?_
    | refine (State.fixed_foldl_snd _ _ _ fun t x => ?_).trans ?_
    | split

theorem State.modSeq_fixed (s : State) (k : Nat) (f : Seq → Seq) :
    (State.modSeq s k f).fixed = s.fixed := by
  unfold State.modSeq
  repeat' first
    | with_reducible rfl
    | simp only [State.setSeq_fixed]
    | refine (State.fixed_foldl _ _ _ fun t x => ?_).trans ?_
    | refine (State.fixed_foldl_fst _ _ _ fun t x => ?_).trans ?_
    | refine (State.fixed_foldl_snd _ _ _ fun t x => ?_).trans ?_
    | split

theorem State.modPrt_fixed (s : State) (p : Nat) (f : Prt → Prt) :
    (State.modPrt s p f).fixed = s.fixed := by
  unfold State.modPrt
  repeat' first
    | with_reducible rfl
    | simp only [State.setPrt_fixed]
    | refine (State.fixed_foldl _ _ _ fun t x => ?_).trans ?_
    | refine (State.fixed_foldl_fst _ _ _ fun t x => ?_).trans ?_
    | refine (State.fixed_foldl_snd _ _ _ fun t x => ?_).trans ?_
    | split

theorem State.modSlot_fixed (s : State) (n : Nat) (f : Slot → Slot) :
    (State.modSlot s n f).fixed = s.fixed := by
  unfold State.modSlot
  repeat' first
    | with_reducible rfl
    | simp only [State.setSlot_fixed]
    | refine (State.fixed_foldl _ _ _ fun t x => ?_).trans ?_
    | refine (State.fixed_foldl_fst _ _ _ fun t x => ?_).trans ?_
    | refine (State.fixed_foldl_snd _ _ _ fun t x => ?_).trans ?_
    | split

theorem State.countDrop_fixed (s : State) (k : Nat) :
    (State.countDrop s k).fixed = s.fixed := by
  unfold State.countDrop
  repeat' first
    | with_reducible rfl
    | simp only [State.fixed_ite, ite_self, State.raiseBit_fixed, State.count_fixed, State.countObj_fixed, State.modStr_fixed]
    | refine (State.fixed_foldl _ _ _ fun t x => ?_).trans ?_
    | refine (State.fixed_foldl_fst _ _ _ fun t x => ?_).trans ?_
    | refine (State.fixed_foldl_snd _ _ _ fun t x => ?_).trans ?_
    | split

theorem State.pushFrame_fixed (s : State) (k : Nat) (f : Frame) :
    (State.pushFrame s k f).fixed = s.fixed := by
  unfold State.pushFrame
  repeat' first
    | with_reducible rfl
    | simp only [State.fixed_ite, ite_self, State.modStr_fixed, State.countDrop_fixed]
    | refine (State.fixed_foldl _ _ _ fun t x => ?_).trans ?_
    | refine (State.fixed_foldl_fst _ _ _ fun t x => ?_).trans ?_
    | refine (State.fixed_foldl_snd _ _ _ fun t x => ?_).trans ?_
    | split

theorem State.placePages_fixed (k : Nat) (p : Nat) (unit : Nat) (chans : List Nat) (spill : Bool) (a : Nat) (a_1 : List (Nat × Nat × Bool)) (a_2 : List Nat) (a_3 : State) :
    ∀ t, State.placePages k p unit chans spill a a_1 a_2 a_3 = some t → t.fixed = a_3.fixed := by
  intro t h
  induction a_1 generalizing a a_2 a_3 with
  | nil => unfold State.placePages at h; cases h; rfl
  | cons x rest ih =>
    obtain ⟨u, r, g⟩ := x
    unfold State.placePages at h
    dsimp only at h
    split at h
    · rename_i hp
      refine (ih _ _ _ h).trans ((State.modSeq_fixed ..).trans ((State.takePage_fixed _ _ _ _ _ hp).trans ?_))
      split
      · exact State.request_fixed ..
      · rfl
    · split at h
      · refine (ih _ _ _ h).trans ((State.modSeq_fixed ..).trans ?_)
        split
        · exact State.request_fixed ..
        · rfl
      · cases h

theorem State.dropRound_fixed (s : State) (k : Nat) :
    (State.dropRound s k).fixed = s.fixed := by
  unfold State.dropRound
  repeat' first
    | with_reducible rfl
    | simp only [State.fixed_ite, ite_self, State.count48_fixed, State.setSeq_fixed]
    | refine (State.fixed_foldl _ _ _ fun t x => ?_).trans ?_
    | refine (State.fixed_foldl_fst _ _ _ fun t x => ?_).trans ?_
    | refine (State.fixed_foldl_snd _ _ _ fun t x => ?_).trans ?_
    | split

theorem State.endSeq_fixed (s : State) (k : Nat) (status : Nat) :
    (State.endSeq s k status).fixed = s.fixed := by
  unfold State.endSeq
  repeat' first
    | with_reducible rfl
    | simp only [State.modSeq_fixed]

theorem State.placeWaiting_fixed (s : State) (handle : Nat) :
    (State.placeWaiting s handle).fixed = s.fixed := by
  unfold State.placeWaiting
  repeat' first
    | with_reducible rfl
    | simp only [State.fixed_mk, State.placeOutput_fixed]
    | refine (State.fixed_foldl _ _ _ fun t x => ?_).trans ?_
    | refine (State.fixed_foldl_fst _ _ _ fun t x => ?_).trans ?_
    | refine (State.fixed_foldl_snd _ _ _ fun t x => ?_).trans ?_
    | split

theorem State.forget_fixed (s : State) (handle : Nat) :
    (State.forget s handle).fixed = s.fixed := by
  unfold State.forget
  repeat' first
    | with_reducible rfl
    | simp only [State.fixed_mk, State.placeWaiting_fixed]

theorem State.freeSeq_fixed (s : State) (k : Nat) :
    (State.freeSeq s k).fixed = s.fixed := by
  unfold State.freeSeq
  repeat' first
    | with_reducible rfl
    | simp only [State.fixed_mk, State.pruneKv_fixed, State.forget_fixed]

theorem State.freeStr_fixed (s : State) (k : Nat) :
    (State.freeStr s k).fixed = s.fixed := by
  unfold State.freeStr
  repeat' first
    | with_reducible rfl
    | simp only [State.fixed_mk, State.pruneAreas_fixed, State.forget_fixed]

theorem State.failExports_fixed (s : State) (k : Nat) (status : Nat) :
    (State.failExports s k status).fixed = s.fixed := by
  unfold State.failExports
  repeat' first
    | with_reducible rfl
    | simp only [State.setStr_fixed]
    | refine (State.fixed_foldl _ _ _ fun t x => ?_).trans ?_
    | refine (State.fixed_foldl_fst _ _ _ fun t x => ?_).trans ?_
    | refine (State.fixed_foldl_snd _ _ _ fun t x => ?_).trans ?_
    | split

theorem State.faultStr_fixed (s : State) (k : Nat) (code : Nat) :
    (State.faultStr s k code).fixed = s.fixed := by
  unfold State.faultStr
  repeat' first
    | with_reducible rfl
    | simp only [State.fixed_ite, ite_self, State.recordErrAt_fixed, State.setStr_fixed, State.failExports_fixed]
    | refine (State.fixed_foldl _ _ _ fun t x => ?_).trans ?_
    | refine (State.fixed_foldl_fst _ _ _ fun t x => ?_).trans ?_
    | refine (State.fixed_foldl_snd _ _ _ fun t x => ?_).trans ?_
    | split

theorem State.setTport_fixed (s : State) (p : Nat) (x : TanPort) :
    (State.setTport s p x).fixed = s.fixed := by
  unfold State.setTport
  repeat' first
    | with_reducible rfl
    | simp only [State.fixed_mk]

theorem State.modTport_fixed (s : State) (p : Nat) (f : TanPort → TanPort) :
    (State.modTport s p f).fixed = s.fixed := by
  unfold State.modTport
  repeat' first
    | with_reducible rfl
    | simp only [State.setTport_fixed]

theorem State.portTo_fixed (s : State) (p : Nat) (st : PortState) :
    (State.portTo s p st).fixed = s.fixed := by
  unfold State.portTo
  repeat' first
    | with_reducible rfl
    | simp only [State.trace_fixed, State.setTport_fixed]

theorem State.pumpOne_fixed (s : State) (p : Nat) :
    (State.pumpOne s p).fixed = s.fixed := by
  unfold State.pumpOne
  repeat' first
    | with_reducible rfl
    | simp only [State.fixed_ite, ite_self, State.emit_fixed, State.count48_fixed, State.setTport_fixed]
    | refine (State.fixed_foldl _ _ _ fun t x => ?_).trans ?_
    | refine (State.fixed_foldl_fst _ _ _ fun t x => ?_).trans ?_
    | refine (State.fixed_foldl_snd _ _ _ fun t x => ?_).trans ?_
    | split

theorem State.pump_fixed (s : State) (p : Nat) :
    (State.pump s p).fixed = s.fixed := by
  unfold State.pump
  repeat' first
    | with_reducible rfl
    | simp only [State.pumpOne_fixed]
    | refine (State.fixed_foldl _ _ _ fun t x => ?_).trans ?_

theorem State.tanSend_fixed (s : State) (p : Nat) (m : TanMsg) :
    (State.tanSend s p m).fixed = s.fixed := by
  unfold State.tanSend
  repeat' first
    | with_reducible rfl
    | simp only [State.fixed_ite, ite_self, State.emit_fixed, State.modTport_fixed, State.pump_fixed]
    | refine (State.fixed_foldl _ _ _ fun t x => ?_).trans ?_
    | refine (State.fixed_foldl_fst _ _ _ fun t x => ?_).trans ?_
    | refine (State.fixed_foldl_snd _ _ _ fun t x => ?_).trans ?_
    | split

theorem State.replay_fixed (s : State) (p : Nat) :
    (State.replay s p).fixed = s.fixed := by
  unfold State.replay
  repeat' first
    | with_reducible rfl
    | simp only [State.count_fixed, State.setTport_fixed, State.pump_fixed]
    | refine (State.fixed_foldl _ _ _ fun t x => ?_).trans ?_
    | refine (State.fixed_foldl_fst _ _ _ fun t x => ?_).trans ?_
    | refine (State.fixed_foldl_snd _ _ _ fun t x => ?_).trans ?_
    | split

theorem State.acked_fixed (s : State) (p : Nat) (n : Nat) :
    (State.acked s p n).fixed = s.fixed := by
  unfold State.acked
  repeat' first
    | with_reducible rfl
    | simp only [State.setTport_fixed]
    | refine (State.fixed_foldl _ _ _ fun t x => ?_).trans ?_
    | refine (State.fixed_foldl_fst _ _ _ fun t x => ?_).trans ?_
    | refine (State.fixed_foldl_snd _ _ _ fun t x => ?_).trans ?_
    | split

theorem State.spreadReset_fixed (s : State) (slot : Nat) (code : Nat) (from_ : Option Nat) :
    (State.spreadReset s slot code from_).fixed = s.fixed := by
  unfold State.spreadReset
  repeat' first
    | with_reducible rfl
    | simp only [State.fixed_ite, ite_self, State.tanSend_fixed]
    | refine (State.fixed_foldl _ _ _ fun t x => ?_).trans ?_

theorem State.countOnSpoke_fixed (s : State) (rows : Nat) (n : Nat) (reg : Nat → Nat) (cause : Nat) :
    (State.countOnSpoke s rows n reg cause).fixed = s.fixed := by
  unfold State.countOnSpoke
  repeat' first
    | with_reducible rfl
    | simp only [State.fixed_ite, ite_self, State.fresh_fixed, State.raiseBit_fixed, State.count_fixed]

theorem State.countWork_fixed (s : State) (rows : Nat) (macs : Nat) (bytes : Nat) (clocks : Nat) :
    (State.countWork s rows macs bytes clocks).fixed = s.fixed := by
  unfold State.countWork
  repeat' first
    | with_reducible rfl
    | simp only [State.count48_fixed]
    | refine (State.fixed_foldl _ _ _ fun t x => ?_).trans ?_

theorem State.handoffAway_fixed (s : State) (c : Nat) (items : List Handoff) :
    (State.handoffAway s c items).fixed = s.fixed := by
  unfold State.handoffAway
  repeat' first
    | with_reducible rfl
    | simp only [State.tanSend_fixed]
    | refine (State.fixed_foldl _ _ _ fun t x => ?_).trans ?_
    | refine (State.fixed_foldl_fst _ _ _ fun t x => ?_).trans ?_
    | refine (State.fixed_foldl_snd _ _ _ fun t x => ?_).trans ?_
    | split

theorem State.handoff_fixed (s : State) (producer : Nat) (items : List Handoff) :
    (State.handoff s producer items).fixed = s.fixed := by
  unfold State.handoff
  repeat' first
    | with_reducible rfl
    | simp only [State.fixed_mk, State.fixed_ite, ite_self, State.count_fixed, State.trace_fixed, State.handoffAway_fixed]
    | refine (State.fixed_foldl _ _ _ fun t x => ?_).trans ?_

theorem State.rollLinks_fixed (s : State) (producer : Nat) :
    (State.rollLinks s producer).fixed = s.fixed := by
  unfold State.rollLinks
  repeat' first
    | with_reducible rfl
    | simp only [State.fixed_mk]

theorem State.commitLinks_fixed (s : State) (producer : Nat) :
    (State.commitLinks s producer).fixed = s.fixed := by
  unfold State.commitLinks
  repeat' first
    | with_reducible rfl
    | simp only [State.fixed_mk]

theorem State.spillPage_fixed (s : State) (k : Nat) (p : KvPage) :
    (State.spillPage s k p).fixed = s.fixed := by
  unfold State.spillPage
  repeat' first
    | with_reducible rfl
    | simp only [State.setPage_fixed]

theorem State.prefetchPage_fixed (s : State) (k : Nat) (p : KvPage) :
    (State.prefetchPage s k p).fixed = s.fixed := by
  unfold State.prefetchPage
  split
  · rfl
  · dsimp only
    split
    · rename_i hp
      have k := State.takePage_fixed _ _ _ _ _ hp
      dsimp only at k
      split
      · rw [State.trace_fixed, State.countObj_fixed, State.count_fixed, State.setPage_fixed, k]
      · split
        · rw [State.dmaRead_fixed, State.setPage_fixed, k]
        · exact k
    · split
      · split
        · exact State.spillPage_fixed ..
        · rfl
      · rfl

theorem State.endPrefetch_fixed (s : State) (k : Nat) :
    (State.endPrefetch s k).fixed = s.fixed := by
  unfold State.endPrefetch
  repeat' first
    | with_reducible rfl
    | simp only [State.fixed_ite, ite_self, State.log_fixed, State.setSeq_fixed]
    | refine (State.fixed_foldl _ _ _ fun t x => ?_).trans ?_
    | refine (State.fixed_foldl_fst _ _ _ fun t x => ?_).trans ?_
    | refine (State.fixed_foldl_snd _ _ _ fun t x => ?_).trans ?_
    | split

theorem State.prefetch_fixed (s : State) (k : Nat) :
    (State.prefetch s k).fixed = s.fixed := by
  unfold State.prefetch
  repeat' first
    | with_reducible rfl
    | simp only [State.fixed_ite, State.prefetchPage_fixed, State.endPrefetch_fixed]
    | refine (State.fixed_foldl _ _ _ fun t x => ?_).trans ?_
    | refine (State.fixed_foldl_fst _ _ _ fun t x => ?_).trans ?_
    | refine (State.fixed_foldl_snd _ _ _ fun t x => ?_).trans ?_
    | split

theorem State.wakeSeq_fixed (s : State) (k : Nat) :
    (State.wakeSeq s k).fixed = s.fixed := by
  unfold State.wakeSeq
  repeat' first
    | with_reducible rfl
    | simp only [State.fixed_ite, ite_self, State.setSeq_fixed, State.prefetch_fixed]
    | refine (State.fixed_foldl _ _ _ fun t x => ?_).trans ?_
    | refine (State.fixed_foldl_fst _ _ _ fun t x => ?_).trans ?_
    | refine (State.fixed_foldl_snd _ _ _ fun t x => ?_).trans ?_
    | split

theorem State.queueTokens_fixed (s : State) (k : Nat) (l : List (Nat × Nat)) :
    (State.queueTokens s k l).fixed = s.fixed := by
  unfold State.queueTokens
  repeat' first
    | with_reducible rfl
    | simp only [State.fixed_ite, ite_self, State.raiseBit_fixed, State.count_fixed, State.setSeq_fixed, State.wakeSeq_fixed]
    | refine (State.fixed_foldl _ _ _ fun t x => ?_).trans ?_
    | refine (State.fixed_foldl_fst _ _ _ fun t x => ?_).trans ?_
    | refine (State.fixed_foldl_snd _ _ _ fun t x => ?_).trans ?_
    | split

theorem State.deliver_fixed (s : State) (f : Flight) :
    (State.deliver s f).fixed = s.fixed := by
  unfold State.deliver
  repeat' first
    | with_reducible rfl
    | simp only [State.fixed_ite, State.pushFrame_fixed, State.queueTokens_fixed]
    | refine (State.fixed_foldl _ _ _ fun t x => ?_).trans ?_
    | refine (State.fixed_foldl_fst _ _ _ fun t x => ?_).trans ?_
    | refine (State.fixed_foldl_snd _ _ _ fun t x => ?_).trans ?_
    | split

theorem State.runUnit_fixed (s : State) (p : Nat) (gear : Nat) (k : Nat) :
    (State.runUnit s p gear k).1.fixed = s.fixed := by
  unfold State.runUnit
  repeat' first
    | with_reducible rfl
    | simp only [State.fixed_ite, ite_self, State.countObj_fixed, State.setStr_fixed, State.handoff_fixed]
    | refine (State.fixed_foldl _ _ _ fun t x => ?_).trans ?_
    | refine (State.fixed_foldl_fst _ _ _ fun t x => ?_).trans ?_
    | refine (State.fixed_foldl_snd _ _ _ fun t x => ?_).trans ?_
    | split

theorem State.pageFault_fixed (s : State) (k : Nat) :
    (State.pageFault s k).fixed = s.fixed := by
  unfold State.pageFault
  repeat' first
    | with_reducible rfl
    | simp only [State.raiseBit_fixed, State.count_fixed, State.recordErrAt_fixed, State.modSeq_fixed, State.dropRound_fixed, State.endSeq_fixed]

theorem State.afterTurn_fixed (s : State) (k : Nat) :
    (State.afterTurn s k).fixed = s.fixed := by
  unfold State.afterTurn
  repeat' first
    | with_reducible rfl
    | simp only [State.fixed_ite, ite_self, State.setSeq_fixed, State.endSeq_fixed]
    | refine (State.fixed_foldl _ _ _ fun t x => ?_).trans ?_
    | refine (State.fixed_foldl_fst _ _ _ fun t x => ?_).trans ?_
    | refine (State.fixed_foldl_snd _ _ _ fun t x => ?_).trans ?_
    | split

theorem State.runItem_fixed (s : State) (p : Nat) (gear : Nat) (i : StrokeItem) :
    (State.runItem s p gear i).1.fixed = s.fixed := by
  unfold State.runItem
  repeat' first
    | with_reducible rfl
    | simp only [State.fixed_ite, ite_self, State.count48_fixed, State.trace_fixed, State.countObj_fixed, State.setMem_fixed, State.setSeq_fixed, State.modSeq_fixed, State.handoff_fixed, State.pageFault_fixed, State.afterTurn_fixed]
    | refine (State.fixed_foldl _ _ _ fun t x => ?_).trans ?_
    | refine (State.fixed_foldl_fst _ _ _ fun t x => ?_).trans ?_
    | refine (State.fixed_foldl_snd _ _ _ fun t x => ?_).trans ?_
    | split

theorem State.runItems_fixed (s : State) (p : Nat) (gear : Nat) (a : List StrokeItem) :
    (State.runItems s p gear a).1.fixed = s.fixed := by
  induction a generalizing s with
  | nil => rfl
  | cons i t ih =>
    refine (ih _).trans ?_
    split
    · exact State.runUnit_fixed ..
    · exact State.runItem_fixed ..

theorem State.overrun_fixed (s : State) (p : Nat) (late : Nat) :
    (State.overrun s p late).fixed = s.fixed := by
  unfold State.overrun
  repeat' first
    | with_reducible rfl
    | simp only [State.fixed_ite, ite_self, State.raiseBit_fixed, State.count_fixed, State.log_fixed, State.setPrt_fixed]
    | refine (State.fixed_foldl _ _ _ fun t x => ?_).trans ?_
    | refine (State.fixed_foldl_fst _ _ _ fun t x => ?_).trans ?_
    | refine (State.fixed_foldl_snd _ _ _ fun t x => ?_).trans ?_
    | split

theorem State.judge_fixed (s : State) (p : Nat) :
    (State.judge s p).fixed = s.fixed := by
  unfold State.judge
  repeat' first
    | with_reducible rfl
    | simp only [State.fixed_ite, ite_self, State.raiseBit_fixed, State.count_fixed, State.setPrt_fixed, State.overrun_fixed]
    | refine (State.fixed_foldl _ _ _ fun t x => ?_).trans ?_
    | refine (State.fixed_foldl_fst _ _ _ fun t x => ?_).trans ?_
    | refine (State.fixed_foldl_snd _ _ _ fun t x => ?_).trans ?_
    | split

theorem State.leaves_fixed (s : State) (p : Nat) :
    (State.leaves s p).fixed = s.fixed := by
  unfold State.leaves
  repeat' first
    | with_reducible rfl
    | simp only [State.fixed_ite, ite_self, State.dropRound_fixed, State.endSeq_fixed]
    | refine (State.fixed_foldl _ _ _ fun t x => ?_).trans ?_

theorem State.setGear_fixed (s : State) (p : Nat) (gear : Nat) (why : Nat) :
    (State.setGear s p gear why).fixed = s.fixed := by
  unfold State.setGear
  repeat' first
    | with_reducible rfl
    | simp only [State.count_fixed, State.trace_fixed, State.setPrt_fixed]
    | refine (State.fixed_foldl _ _ _ fun t x => ?_).trans ?_
    | refine (State.fixed_foldl_fst _ _ _ fun t x => ?_).trans ?_
    | refine (State.fixed_foldl_snd _ _ _ fun t x => ?_).trans ?_
    | split

theorem State.shift_fixed (s : State) (p : Nat) (b : Nat) :
    (State.shift s p b).fixed = s.fixed := by
  unfold State.shift
  repeat' first
    | with_reducible rfl
    | simp only [State.fixed_ite, ite_self, State.setPrt_fixed, State.modPrt_fixed, State.setGear_fixed]
    | refine (State.fixed_foldl _ _ _ fun t x => ?_).trans ?_
    | refine (State.fixed_foldl_fst _ _ _ fun t x => ?_).trans ?_
    | refine (State.fixed_foldl_snd _ _ _ fun t x => ?_).trans ?_
    | split

theorem State.flagMembers_fixed (s : State) (l : List StrokeItem) :
    (State.flagMembers s l).fixed = s.fixed := by
  unfold State.flagMembers
  repeat' first
    | with_reducible rfl
    | simp only [State.fixed_ite, ite_self, State.modStr_fixed, State.modSeq_fixed]
    | refine (State.fixed_foldl _ _ _ fun t x => ?_).trans ?_

theorem State.countStarve_fixed (s : State) (p : Nat) (us : Nat) :
    (State.countStarve s p us).fixed = s.fixed := by
  unfold State.countStarve
  repeat' first
    | with_reducible rfl
    | simp only [State.fixed_mk, State.fixed_ite, ite_self, State.raiseBit_fixed, State.count_fixed, State.modPrt_fixed]

theorem State.startStroke_fixed (s : State) (p : Nat) (b : Nat) (gear : Nat) (kind : StrokeKind) (items : List StrokeItem) :
    (State.startStroke s p b gear kind items).fixed = s.fixed := by
  unfold State.startStroke
  repeat' first
    | with_reducible rfl
    | simp only [State.fixed_ite, ite_self, State.trace_fixed, State.setPrt_fixed, State.flagMembers_fixed, State.countStarve_fixed]
    | refine (State.fixed_foldl _ _ _ fun t x => ?_).trans ?_
    | refine (State.fixed_foldl_fst _ _ _ fun t x => ?_).trans ?_
    | refine (State.fixed_foldl_snd _ _ _ fun t x => ?_).trans ?_
    | split

theorem State.compose_fixed (s : State) (p : Nat) (b : Nat) :
    (State.compose s p b).fixed = s.fixed := by
  unfold State.compose
  repeat' first
    | with_reducible rfl
    | simp only [State.fixed_ite, ite_self, State.modPrt_fixed, State.startStroke_fixed]
    | refine (State.fixed_foldl _ _ _ fun t x => ?_).trans ?_
    | refine (State.fixed_foldl_fst _ _ _ fun t x => ?_).trans ?_
    | refine (State.fixed_foldl_snd _ _ _ fun t x => ?_).trans ?_
    | split

theorem State.boundary_fixed (s : State) (p : Nat) :
    (State.boundary s p).fixed = s.fixed := by
  unfold State.boundary
  repeat' first
    | with_reducible rfl
    | simp only [State.fixed_ite, ite_self, State.modPrt_fixed, State.judge_fixed, State.leaves_fixed, State.shift_fixed, State.compose_fixed]

theorem State.boundaries_fixed (s : State) :
    (State.boundaries s).fixed = s.fixed := by
  unfold State.boundaries
  repeat' first
    | with_reducible rfl
    | simp only [State.boundary_fixed]
    | refine (State.fixed_foldl _ _ _ fun t x => ?_).trans ?_

theorem State.countPannier_fixed (s : State) (p : Nat) (t : Stroke) :
    (State.countPannier s p t).fixed = s.fixed := by
  have key (l : List (Nat × Nat)) (u : State) : (l.foldl (fun s x => s.trace 13 p x.1 (x.2 / 1_000_000)) u).fixed = u.fixed :=
    State.fixed_foldl _ _ _ fun t x => State.trace_fixed ..
  have k1 (c : Prop) [Decidable c] (n : Nat) : (if c then s else s.count48 Reg.STK_PAN_BYTES_LO n).fixed = s.fixed := by
    split
    · rfl
    · exact State.count48_fixed ..
  unfold State.countPannier
  extract_lets g cold used u waits ps v
  have ku : u.fixed = s.fixed := by
    show (if _ then _ else _ : State).fixed = _
    exact k1 _ _
  split
  · exact ku
  · rw [State.countStarve_fixed]
    exact (key _ _).trans ku

theorem State.strokeEnd_fixed (s : State) (p : Nat) :
    (State.strokeEnd s p).fixed = s.fixed := by
  unfold State.strokeEnd
  split
  · rfl
  · split
    · rfl
    · dsimp only
      rw [State.boundary_fixed, State.countOnSpoke_fixed, State.countOnSpoke_fixed, State.countWork_fixed, State.runItems_fixed,
        State.trace_fixed]
      split
      · rw [State.raiseBit_fixed, State.modPrt_fixed, State.countPannier_fixed]
      · rw [State.modPrt_fixed, State.countPannier_fixed]

theorem State.unflag_fixed (s : State) (l : List StrokeItem) :
    (State.unflag s l).fixed = s.fixed := by
  unfold State.unflag
  repeat' first
    | with_reducible rfl
    | simp only [State.fixed_ite, ite_self, State.modStr_fixed, State.modSeq_fixed]
    | refine (State.fixed_foldl _ _ _ fun t x => ?_).trans ?_

theorem State.stopStroke_fixed (s : State) (p : Nat) :
    (State.stopStroke s p).fixed = s.fixed := by
  unfold State.stopStroke
  repeat' first
    | with_reducible rfl
    | simp only [State.modPrt_fixed, State.unflag_fixed]
    | refine (State.fixed_foldl _ _ _ fun t x => ?_).trans ?_
    | refine (State.fixed_foldl_fst _ _ _ fun t x => ?_).trans ?_
    | refine (State.fixed_foldl_snd _ _ _ fun t x => ?_).trans ?_
    | split

theorem State.rollStreams_fixed (s : State) (p : Nat) :
    (State.rollStreams s p).fixed = s.fixed := by
  unfold State.rollStreams
  repeat' first
    | with_reducible rfl
    | simp only [State.fixed_ite, ite_self, State.setStr_fixed, State.rollLinks_fixed]
    | refine (State.fixed_foldl _ _ _ fun t x => ?_).trans ?_

theorem State.rollSeqs_fixed (s : State) (p : Nat) :
    (State.rollSeqs s p).fixed = s.fixed := by
  unfold State.rollSeqs
  repeat' first
    | with_reducible rfl
    | simp only [State.fixed_ite, ite_self, State.setSeq_fixed, State.endSeq_fixed]
    | refine (State.fixed_foldl _ _ _ fun t x => ?_).trans ?_

theorem State.abortNamed_fixed (s : State) (p : Nat) :
    (State.abortNamed s p).fixed = s.fixed := by
  unfold State.abortNamed
  repeat' first
    | with_reducible rfl
    | simp only [State.fixed_mk, State.decide_fixed]
    | refine (State.fixed_foldl _ _ _ fun t x => ?_).trans ?_

theorem State.resetPrt_fixed (s : State) (p : Nat) (code : Nat) (here : optParam Bool Bool.true) :
    (State.resetPrt s p code here).fixed = s.fixed := by
  unfold State.resetPrt
  repeat' first
    | with_reducible rfl
    | simp only [State.fixed_ite, ite_self, State.raiseBit_fixed, State.count_fixed, State.trace_fixed, State.recordErrAt_fixed, State.journal_fixed, State.modPrt_fixed, State.rollStreams_fixed, State.rollSeqs_fixed, State.abortNamed_fixed]
    | refine (State.fixed_foldl _ _ _ fun t x => ?_).trans ?_
    | refine (State.fixed_foldl_fst _ _ _ fun t x => ?_).trans ?_
    | refine (State.fixed_foldl_snd _ _ _ fun t x => ?_).trans ?_
    | split

theorem State.jobFaultHere_fixed (s : State) (p : Nat) (code : Nat) (here : optParam Bool Bool.true) :
    (State.jobFaultHere s p code here).fixed = s.fixed := by
  unfold State.jobFaultHere
  repeat' first
    | with_reducible rfl
    | simp only [State.fixed_ite, ite_self, State.modPrt_fixed, State.resetPrt_fixed]
    | refine (State.fixed_foldl _ _ _ fun t x => ?_).trans ?_
    | refine (State.fixed_foldl_fst _ _ _ fun t x => ?_).trans ?_
    | refine (State.fixed_foldl_snd _ _ _ fun t x => ?_).trans ?_
    | split

theorem State.jobFault_fixed (s : State) (p : Nat) (code : Nat) :
    (State.jobFault s p code).fixed = s.fixed := by
  unfold State.jobFault
  repeat' first
    | with_reducible rfl
    | simp only [State.fixed_ite, ite_self, State.spreadReset_fixed, State.jobFaultHere_fixed]
    | refine (State.fixed_foldl _ _ _ fun t x => ?_).trans ?_
    | refine (State.fixed_foldl_fst _ _ _ fun t x => ?_).trans ?_
    | refine (State.fixed_foldl_snd _ _ _ fun t x => ?_).trans ?_
    | split

theorem State.waitedFaults_fixed (s : State) :
    (State.waitedFaults s).fixed = s.fixed := by
  unfold State.waitedFaults
  repeat' first
    | with_reducible rfl
    | simp only [State.resetPrt_fixed]
    | refine (State.fixed_foldl _ _ _ fun t x => ?_).trans ?_
    | refine (State.fixed_foldl_fst _ _ _ fun t x => ?_).trans ?_
    | refine (State.fixed_foldl_snd _ _ _ fun t x => ?_).trans ?_
    | split

theorem State.abandonStroke_fixed (s : State) (p : Nat) :
    (State.abandonStroke s p).fixed = s.fixed := by
  unfold State.abandonStroke
  repeat' first
    | with_reducible rfl
    | simp only [State.fixed_ite, ite_self, State.count_fixed, State.recordErrAt_fixed, State.modPrt_fixed, State.dropRound_fixed, State.countStarve_fixed, State.stopStroke_fixed]
    | refine (State.fixed_foldl _ _ _ fun t x => ?_).trans ?_
    | refine (State.fixed_foldl_fst _ _ _ fun t x => ?_).trans ?_
    | refine (State.fixed_foldl_snd _ _ _ fun t x => ?_).trans ?_
    | split

theorem State.lastResult_fixed (s : State) (n : Nat) (op : Nat) (code : Nat) :
    (State.lastResult s n op code).fixed = s.fixed := by
  unfold State.lastResult
  repeat' first
    | with_reducible rfl
    | simp only [State.modSlot_fixed]

theorem State.emptySlot_fixed (s : State) (n : Nat) :
    (State.emptySlot s n).fixed = s.fixed := by
  unfold State.emptySlot
  repeat' first
    | with_reducible rfl
    | simp only [State.modSlot_fixed]

theorem State.failLoad_fixed (s : State) (order : Nat) (code : Nat) (result : optParam Nat 0) :
    (State.failLoad s order code result).fixed = s.fixed := by
  unfold State.failLoad
  repeat' first
    | with_reducible rfl
    | simp only [State.fixed_mk, State.fixed_ite, ite_self, State.raiseBit_fixed, State.recordErrAt_fixed, State.decide_fixed, State.freeOwner_fixed, State.modSlot_fixed, State.lastResult_fixed, State.emptySlot_fixed]
    | refine (State.fixed_foldl _ _ _ fun t x => ?_).trans ?_
    | refine (State.fixed_foldl_fst _ _ _ fun t x => ?_).trans ?_
    | refine (State.fixed_foldl_snd _ _ _ fun t x => ?_).trans ?_
    | split

theorem State.slotLost_fixed (s : State) (n : Nat) (code : Nat) :
    (State.slotLost s n code).fixed = s.fixed := by
  unfold State.slotLost
  repeat' first
    | with_reducible rfl
    | simp only [State.fixed_ite, ite_self, State.raiseBit_fixed, State.freeOwner_fixed, State.modSlot_fixed, State.jobFault_fixed, State.failLoad_fixed]
    | refine (State.fixed_foldl _ _ _ fun t x => ?_).trans ?_
    | refine (State.fixed_foldl_fst _ _ _ fun t x => ?_).trans ?_
    | refine (State.fixed_foldl_snd _ _ _ fun t x => ?_).trans ?_
    | split

theorem State.setSpoke_fixed (s : State) (k : Nat) (x : Spoke) :
    (State.setSpoke s k x).fixed = s.fixed := by
  unfold State.setSpoke
  repeat' first
    | with_reducible rfl
    | simp only [State.setMem_fixed]

theorem State.renumberRow_fixed (s : State) (r : Nat) :
    (State.renumberRow s r).fixed = s.fixed := by
  unfold State.renumberRow
  repeat' first
    | with_reducible rfl
    | simp only [State.setMem_fixed]

theorem State.dropPrt_fixed (s : State) (p : Nat) :
    (State.dropPrt s p).fixed = s.fixed := by
  unfold State.dropPrt
  repeat' first
    | with_reducible rfl
    | simp only [State.fixed_mk, State.decideAll_fixed, State.freeSeq_fixed, State.freeStr_fixed]
    | refine (State.fixed_foldl _ _ _ fun t x => ?_).trans ?_

theorem State.losePage_fixed (s : State) (k : Nat) (p : KvPage) :
    (State.losePage s k p).fixed = s.fixed := by
  unfold State.losePage
  repeat' first
    | with_reducible rfl
    | simp only [State.setPage_fixed, State.pageFault_fixed]

theorem State.loseContents_fixed (s : State) (n : Nat) (code : Nat) :
    (State.loseContents s n code).fixed = s.fixed := by
  unfold State.loseContents
  repeat' first
    | with_reducible rfl
    | simp only [State.fixed_ite, ite_self, State.dropScratch_fixed, State.faultStr_fixed, State.losePage_fixed]
    | refine (State.fixed_foldl _ _ _ fun t x => ?_).trans ?_
    | refine (State.fixed_foldl_fst _ _ _ fun t x => ?_).trans ?_
    | refine (State.fixed_foldl_snd _ _ _ fun t x => ?_).trans ?_
    | split

theorem State.loseRow_fixed (s : State) (r : Nat) (code : Nat) :
    (State.loseRow s r code).fixed = s.fixed := by
  unfold State.loseRow
  repeat' first
    | with_reducible rfl
    | simp only [State.fixed_ite, ite_self, State.journal_fixed, State.setMem_fixed, State.setChan_fixed, State.modPrt_fixed, State.modSlot_fixed, State.jobFault_fixed, State.slotLost_fixed, State.dropPrt_fixed, State.loseContents_fixed]
    | refine (State.fixed_foldl _ _ _ fun t x => ?_).trans ?_
    | refine (State.fixed_foldl_fst _ _ _ fun t x => ?_).trans ?_
    | refine (State.fixed_foldl_snd _ _ _ fun t x => ?_).trans ?_
    | split

theorem State.failSpoke_fixed (s : State) (k : Nat) (cause : Nat) (code : Nat) :
    (State.failSpoke s k cause code).fixed = s.fixed := by
  unfold State.failSpoke
  repeat' first
    | with_reducible rfl
    | simp only [State.fixed_ite, ite_self, State.raiseBit_fixed, State.recordErrAt_fixed, State.journal_fixed, State.setMem_fixed, State.modPrt_fixed, State.jobFault_fixed, State.setSpoke_fixed, State.loseRow_fixed]
    | refine (State.fixed_foldl _ _ _ fun t x => ?_).trans ?_
    | refine (State.fixed_foldl_fst _ _ _ fun t x => ?_).trans ?_
    | refine (State.fixed_foldl_snd _ _ _ fun t x => ?_).trans ?_
    | split

theorem State.failChannel_fixed (s : State) (n : Nat) :
    (State.failChannel s n).fixed = s.fixed := by
  unfold State.failChannel
  repeat' first
    | with_reducible rfl
    | simp only [State.fixed_mk, State.fixed_ite, State.raiseBit_fixed, State.recordErrAt_fixed, State.journal_fixed, State.setMem_fixed, State.setChan_fixed, State.slotLost_fixed, State.loseContents_fixed]
    | refine (State.fixed_foldl _ _ _ fun t x => ?_).trans ?_
    | refine (State.fixed_foldl_fst _ _ _ fun t x => ?_).trans ?_
    | refine (State.fixed_foldl_snd _ _ _ fun t x => ?_).trans ?_
    | split

theorem State.rehomeSpoke_fixed (s : State) (i : Nat) :
    (State.rehomeSpoke s i).fixed = s.fixed := by
  unfold State.rehomeSpoke
  repeat' first
    | with_reducible rfl
    | simp only [State.fixed_ite, ite_self, State.recordErrAt_fixed, State.setMem_fixed, State.loseRow_fixed]
    | refine (State.fixed_foldl _ _ _ fun t x => ?_).trans ?_
    | refine (State.fixed_foldl_fst _ _ _ fun t x => ?_).trans ?_
    | refine (State.fixed_foldl_snd _ _ _ fun t x => ?_).trans ?_
    | split

theorem State.replaceGrans_fixed (s : State) (l : Load) :
    (State.replaceGrans s l).fixed = s.fixed := by
  unfold State.replaceGrans
  dsimp only
  split
  · rename_i h
    have k := congrArg (fun x => (Prod.snd x).fixed) h
    dsimp only at k
    rw [State.request_fixed, State.freeOwner_fixed] at k
    rw [State.fixed_mk, State.takeGrans_fixed, ← k]
  · rename_i h
    have k := congrArg (fun x => (Prod.snd x).fixed) h
    dsimp only at k
    rw [State.request_fixed, State.freeOwner_fixed] at k
    rw [State.setMem_fixed, ← k]
  · rename_i h
    have k := congrArg (fun x => (Prod.snd x).fixed) h
    dsimp only at k
    rw [State.request_fixed, State.freeOwner_fixed] at k
    rw [State.failLoad_fixed, ← k]

theorem State.rehome_fixed (s : State) (n : Nat) :
    (State.rehome s n).fixed = s.fixed := by
  unfold State.rehome
  repeat' first
    | with_reducible rfl
    | simp only [State.fixed_mk, State.setMem_fixed, State.rehomeSpoke_fixed, State.replaceGrans_fixed]
    | refine (State.fixed_foldl _ _ _ fun t x => ?_).trans ?_

theorem State.loseBurst_fixed (s : State) (n : Nat) (off : Nat) :
    (State.loseBurst s n off).fixed = s.fixed := by
  unfold State.loseBurst
  repeat' first
    | with_reducible rfl
    | simp only [State.fixed_ite, ite_self, State.setChan_fixed, State.dropScratch_fixed, State.faultStr_fixed, State.slotLost_fixed, State.losePage_fixed]
    | refine (State.fixed_foldl _ _ _ fun t x => ?_).trans ?_
    | refine (State.fixed_foldl_fst _ _ _ fun t x => ?_).trans ?_
    | refine (State.fixed_foldl_snd _ _ _ fun t x => ?_).trans ?_
    | split

theorem State.setLoad_fixed (s : State) (l : Load) :
    (State.setLoad s l).fixed = s.fixed := by
  unfold State.setLoad
  repeat' first
    | with_reducible rfl
    | simp only [State.fixed_mk]

theorem State.startLoad_fixed (s : State) (l : Load) :
    (State.startLoad s l).fixed = s.fixed := by
  unfold State.startLoad
  repeat' first
    | with_reducible rfl
    | simp only [State.dmaRead_fixed, State.setLoad_fixed]

theorem State.headerArrived_fixed (s : State) (order : Nat) (bytes : List Byte) :
    (State.headerArrived s order bytes).fixed = s.fixed := by
  unfold State.headerArrived
  repeat' first
    | with_reducible rfl
    | simp only [State.dmaRead_fixed, State.readEnds_fixed, State.failLoad_fixed, State.setLoad_fixed]
    | refine (State.fixed_foldl _ _ _ fun t x => ?_).trans ?_
    | refine (State.fixed_foldl_fst _ _ _ fun t x => ?_).trans ?_
    | refine (State.fixed_foldl_snd _ _ _ fun t x => ?_).trans ?_
    | split

theorem State.placeOn_fixed (s : State) (l : Load) (size : Nat) (a : List Nat) :
    ∀ t, State.placeOn s l size a = some t → t.fixed = s.fixed := by
  intro t h
  induction a generalizing s with
  | nil => unfold State.placeOn at h; cases h
  | cons rows l' ih =>
    unfold State.placeOn at h
    dsimp only at h
    have key (c : Prop) [Decidable c] (g : Granted) (u : State) (ch : List Nat) (n : Nat)
        (e : (if c then s.request ch n true else (Granted.no, s)) = (g, u)) : u.fixed = s.fixed := by
      have k := congrArg (fun x => (Prod.snd x).fixed) e
      dsimp only at k
      rw [← k]
      split
      · exact State.request_fixed ..
      · rfl
    split at h
    · rename_i e
      cases h
      exact (State.setLoad_fixed ..).trans ((State.takeGrans_fixed ..).trans (key _ _ _ _ _ e))
    · rename_i e
      cases h
      exact (State.setLoad_fixed ..).trans ((State.setMem_fixed ..).trans (key _ _ _ _ _ e))
    · rename_i e
      exact (ih _ h).trans (key _ _ _ _ _ e)

theorem State.tablesArrived_fixed (s : State) (order : Nat) (bytes : List Byte) :
    (State.tablesArrived s order bytes).fixed = s.fixed := by
  have key (c : Prop) [Decidable c] (n : Nat) : (if c then s.freeOwner .cassette n else s).fixed = s.fixed := by
    split
    · exact State.freeOwner_fixed ..
    · rfl
  have ite (c : Prop) [Decidable c] (n : Nat) (u : State) (h : u.fixed = s.fixed) :
      (if c then s.failLoad order n else u).fixed = s.fixed := by
    split
    · exact State.failLoad_fixed ..
    · exact h
  unfold State.tablesArrived
  split
  · rfl
  · refine ite _ _ _ (ite _ _ _ (ite _ _ _ ?_))
    dsimp only
    generalize hp : State.placeOn _ _ _ _ = r
    cases r with
    | none => exact (State.failLoad_fixed ..).trans (key ..)
    | some t => exact (State.modSlot_fixed ..).trans ((State.placeOn_fixed _ _ _ _ _ hp).trans (key ..))

theorem State.finishAdapter_fixed (s : State) (l : Load) :
    (State.finishAdapter s l).fixed = s.fixed := by
  unfold State.finishAdapter
  repeat' first
    | with_reducible rfl
    | simp only [State.fixed_mk, State.raiseBit_fixed, State.decide_fixed, State.modSlot_fixed, State.lastResult_fixed]

theorem State.lastByte_fixed (s : State) (order : Nat) (bytes : List Byte) :
    (State.lastByte s order bytes).fixed = s.fixed := by
  unfold State.lastByte
  repeat' first
    | with_reducible rfl
    | simp only [State.fixed_ite, ite_self, State.readEnds_fixed, State.failLoad_fixed, State.setLoad_fixed, State.finishAdapter_fixed]
    | refine (State.fixed_foldl _ _ _ fun t x => ?_).trans ?_
    | refine (State.fixed_foldl_fst _ _ _ fun t x => ?_).trans ?_
    | refine (State.fixed_foldl_snd _ _ _ fun t x => ?_).trans ?_
    | split

theorem State.finishLoad_fixed (s : State) (l : Load) :
    (State.finishLoad s l).fixed = s.fixed := by
  unfold State.finishLoad
  repeat' first
    | with_reducible rfl
    | simp only [State.fixed_mk, State.raiseBit_fixed, State.log_fixed, State.decide_fixed, State.modSlot_fixed, State.lastResult_fixed]

theorem State.freeUnused_fixed (s : State) (n : Nat) :
    (State.freeUnused s n).fixed = s.fixed := by
  unfold State.freeUnused
  repeat' first
    | with_reducible rfl
    | simp only [State.setMem_fixed]

theorem State.finishReplace_fixed (s : State) (l : Load) :
    (State.finishReplace s l).fixed = s.fixed := by
  unfold State.finishReplace
  repeat' first
    | with_reducible rfl
    | simp only [State.fixed_mk, State.raiseBit_fixed, State.count_fixed, State.decide_fixed, State.modSlot_fixed, State.lastResult_fixed, State.freeUnused_fixed]

theorem State.finishLoads_fixed (s : State) :
    (State.finishLoads s).fixed = s.fixed := by
  unfold State.finishLoads
  repeat' first
    | with_reducible rfl
    | simp only [State.fixed_ite, ite_self, State.raiseBit_fixed, State.decide_fixed, State.setMem_fixed, State.freeOwner_fixed, State.modSlot_fixed, State.lastResult_fixed, State.emptySlot_fixed, State.failLoad_fixed, State.finishLoad_fixed, State.finishReplace_fixed]
    | refine (State.fixed_foldl _ _ _ fun t x => ?_).trans ?_
    | refine (State.fixed_foldl_fst _ _ _ fun t x => ?_).trans ?_
    | refine (State.fixed_foldl_snd _ _ _ fun t x => ?_).trans ?_
    | split

theorem State.noteCheck_fixed (s : State) (extra : Owner → Bool) (p : Nat) :
    (State.noteCheck s extra p).fixed = s.fixed := by
  unfold State.noteCheck
  repeat' first
    | with_reducible rfl
    | simp only [State.modPrt_fixed]

theorem State.reportEnds_fixed (s : State) (p : Nat) :
    (State.reportEnds s p).fixed = s.fixed := by
  unfold State.reportEnds
  repeat' first
    | with_reducible rfl
    | simp only [State.fixed_ite, ite_self, State.tanSend_fixed]
    | refine (State.fixed_foldl _ _ _ fun t x => ?_).trans ?_

theorem State.fitCheck_fixed (s : State) (o : Owner) (p : Nat) :
    (State.fitCheck s o p).2.fixed = s.fixed := by
  unfold State.fitCheck
  repeat' first
    | with_reducible rfl
    | simp only [State.noteCheck_fixed, State.reportEnds_fixed]
    | refine (State.fixed_foldl _ _ _ fun t x => ?_).trans ?_

theorem State.recheckOne_fixed (s : State) (p : Nat) :
    (State.recheckOne s p).fixed = s.fixed := by
  unfold State.recheckOne
  repeat' first
    | with_reducible rfl
    | simp only [State.fixed_ite, ite_self, State.raiseBit_fixed, State.recordErrAt_fixed, State.modPrt_fixed, State.noteCheck_fixed, State.reportEnds_fixed]
    | refine (State.fixed_foldl _ _ _ fun t x => ?_).trans ?_
    | refine (State.fixed_foldl_fst _ _ _ fun t x => ?_).trans ?_
    | refine (State.fixed_foldl_snd _ _ _ fun t x => ?_).trans ?_
    | split

theorem State.recheckAll_fixed (s : State) :
    (State.recheckAll s).fixed = s.fixed := by
  unfold State.recheckAll
  repeat' first
    | with_reducible rfl
    | simp only [State.recheckOne_fixed]
    | refine (State.fixed_foldl _ _ _ fun t x => ?_).trans ?_

theorem State.wantRecheck_fixed (s : State) :
    (State.wantRecheck s).fixed = s.fixed := by
  unfold State.wantRecheck
  repeat' first
    | with_reducible rfl
    | simp only [State.fixed_mk]

theorem State.departed_fixed (s : State) (p : Nat) :
    (State.departed s p).fixed = s.fixed := by
  unfold State.departed
  repeat' first
    | with_reducible rfl
    | simp only [State.modPrt_fixed]

theorem State.repannier_fixed (s : State) :
    (State.repannier s).fixed = s.fixed := by
  unfold State.repannier
  repeat' first
    | with_reducible rfl
    | simp only [State.fixed_ite, ite_self, State.raiseBit_fixed, State.modPrt_fixed]
    | refine (State.fixed_foldl _ _ _ fun t x => ?_).trans ?_

theorem State.failMigration_fixed (s : State) (m : MigOut) (code : Nat) :
    (State.failMigration s m code).fixed = s.fixed := by
  unfold State.failMigration
  repeat' first
    | with_reducible rfl
    | simp only [State.fixed_mk, State.fixed_ite, ite_self, State.count_fixed, State.decide_fixed, State.modStr_fixed, State.modSeq_fixed]

theorem State.abandonMigration_fixed (s : State) (m : MigOut) (code : Nat) :
    (State.abandonMigration s m code).fixed = s.fixed := by
  unfold State.abandonMigration
  repeat' first
    | with_reducible rfl
    | simp only [State.fixed_ite, ite_self, State.trace_fixed, State.tanSend_fixed, State.failMigration_fixed]

theorem State.dropMigIn_fixed (s : State) (m : MigIn) :
    (State.dropMigIn s m).fixed = s.fixed := by
  unfold State.dropMigIn
  repeat' first
    | with_reducible rfl
    | simp only [State.fixed_mk, State.fixed_ite, ite_self, State.freeSeq_fixed, State.freeStr_fixed]

theorem State.resetGroups_fixed (s : State) (code : Nat) (p : State → Nat → Bool) :
    (State.resetGroups s code p).fixed = s.fixed := by
  unfold State.resetGroups
  repeat' first
    | with_reducible rfl
    | simp only [State.fixed_ite, ite_self, State.recordErrAt_fixed, State.modPrt_fixed, State.jobFault_fixed]
    | refine (State.fixed_foldl _ _ _ fun t x => ?_).trans ?_

theorem State.linkLost_fixed (s : State) (p : Nat) :
    (State.linkLost s p).fixed = s.fixed := by
  unfold State.linkLost
  repeat' first
    | with_reducible rfl
    | simp only [State.raiseBit_fixed, State.failMigration_fixed, State.dropMigIn_fixed, State.resetGroups_fixed]
    | refine (State.fixed_foldl _ _ _ fun t x => ?_).trans ?_

theorem State.portDown_fixed (s : State) (p : Nat) (st : PortState) :
    (State.portDown s p st).fixed = s.fixed := by
  unfold State.portDown
  repeat' first
    | with_reducible rfl
    | simp only [State.fixed_ite, ite_self, State.setTport_fixed, State.portTo_fixed, State.linkLost_fixed]

theorem State.portsOff_fixed (s : State) :
    (State.portsOff s).fixed = s.fixed := by
  unfold State.portsOff
  repeat' first
    | with_reducible rfl
    | simp only [State.fixed_ite, ite_self, State.portDown_fixed]
    | refine (State.fixed_foldl _ _ _ fun t x => ?_).trans ?_

theorem State.detect_fixed (s : State) (p : Nat) :
    (State.detect s p).fixed = s.fixed := by
  unfold State.detect
  repeat' first
    | with_reducible rfl
    | simp only [State.portDown_fixed]

theorem State.aligned_fixed (s : State) (p : Nat) (lanes : Nat) :
    (State.aligned s p lanes).fixed = s.fixed := by
  unfold State.aligned
  repeat' first
    | with_reducible rfl
    | simp only [State.fixed_ite, ite_self, State.fresh_fixed, State.setTport_fixed, State.portTo_fixed, State.pump_fixed, State.tanSend_fixed]

theorem State.hello_fixed (s : State) (p : Nat) (id : Nat) (chip : Nat) (peerPort : Nat) (top : Nat) (credits0 : Nat) (credits1 : Nat) (lenCode : Nat) (recorded : Nat) :
    (State.hello s p id chip peerPort top credits0 credits1 lenCode recorded).fixed = s.fixed := by
  unfold State.hello
  repeat' first
    | with_reducible rfl
    | simp only [State.fixed_mk, State.raiseBit_fixed, State.setTport_fixed, State.portTo_fixed, State.pump_fixed, State.portDown_fixed]
    | refine (State.fixed_foldl _ _ _ fun t x => ?_).trans ?_
    | refine (State.fixed_foldl_fst _ _ _ fun t x => ?_).trans ?_
    | refine (State.fixed_foldl_snd _ _ _ fun t x => ?_).trans ?_
    | split

theorem State.narrow_fixed (s : State) (p : Nat) (locked : Nat) :
    (State.narrow s p locked).fixed = s.fixed := by
  unfold State.narrow
  repeat' first
    | with_reducible rfl
    | simp only [State.raiseBit_fixed, State.count_fixed, State.setTport_fixed, State.portTo_fixed, State.tanSend_fixed, State.portDown_fixed]
    | refine (State.fixed_foldl _ _ _ fun t x => ?_).trans ?_
    | refine (State.fixed_foldl_fst _ _ _ fun t x => ?_).trans ?_
    | refine (State.fixed_foldl_snd _ _ _ fun t x => ?_).trans ?_
    | split

theorem State.discardFlit_fixed (s : State) (p : Nat) :
    (State.discardFlit s p).fixed = s.fixed := by
  unfold State.discardFlit
  repeat' first
    | with_reducible rfl
    | simp only [State.fixed_ite, ite_self, State.modTport_fixed, State.tanSend_fixed]

theorem State.replayStep_fixed (s : State) (p : Nat) :
    (State.replayStep s p).fixed = s.fixed := by
  unfold State.replayStep
  repeat' first
    | with_reducible rfl
    | simp only [State.fixed_ite, ite_self, State.replay_fixed, State.narrow_fixed]

theorem State.flitReceive_fixed (s : State) (p : Nat) (f : List Byte) :
    (State.flitReceive s p f).fixed = s.fixed := by
  unfold State.flitReceive
  repeat' first
    | with_reducible rfl
    | simp only [State.fixed_ite, ite_self, State.count_fixed, State.count48_fixed, State.modTport_fixed, State.pump_fixed, State.acked_fixed, State.discardFlit_fixed, State.replayStep_fixed]

theorem State.failPairing_fixed (s : State) (x : Pairing) (code : Nat) :
    (State.failPairing s x code).fixed = s.fixed := by
  unfold State.failPairing
  repeat' first
    | with_reducible rfl
    | simp only [State.fixed_mk, State.decide_fixed]

theorem State.pairAckArrived_fixed (s : State) (p : Nat) :
    (State.pairAckArrived s p).fixed = s.fixed := by
  unfold State.pairAckArrived
  repeat' first
    | with_reducible rfl
    | simp only [State.fixed_ite, ite_self, State.modTport_fixed]

theorem State.portsUp_fixed (s : State) :
    (State.portsUp s).fixed = s.fixed := by
  unfold State.portsUp
  repeat' first
    | with_reducible rfl
    | simp only [State.fixed_ite, ite_self, State.raiseBit_fixed, State.setTport_fixed, State.portTo_fixed, State.failPairing_fixed]
    | refine (State.fixed_foldl _ _ _ fun t x => ?_).trans ?_
    | refine (State.fixed_foldl_fst _ _ _ fun t x => ?_).trans ?_
    | refine (State.fixed_foldl_snd _ _ _ fun t x => ?_).trans ?_
    | split

theorem State.lockNow_fixed (s : State) :
    (State.lockNow s).fixed = s.fixed := by
  unfold State.lockNow
  repeat' first
    | with_reducible rfl
    | simp only [State.fixed_mk, State.fixed_ite, ite_self, State.raiseBit_fixed, State.recordErrAt_fixed]

theorem State.alignmentLost_fixed (s : State) :
    (State.alignmentLost s).fixed = s.fixed := by
  unfold State.alignmentLost
  repeat' first
    | with_reducible rfl
    | simp only [State.resetGroups_fixed]

theorem State.unlockNow_fixed (s : State) :
    (State.unlockNow s).fixed = s.fixed := by
  unfold State.unlockNow
  repeat' first
    | with_reducible rfl
    | simp only [State.fixed_mk, State.raiseBit_fixed, State.alignmentLost_fixed]

theorem State.groupStroke_fixed (s : State) (port : Nat) (slot : Nat) (gear : Nat) (number : Nat) (m : TanMsg) :
    (State.groupStroke s port slot gear number m).fixed = s.fixed := by
  unfold State.groupStroke
  repeat' first
    | with_reducible rfl
    | simp only [State.fixed_ite, ite_self, State.trace_fixed, State.setPrt_fixed, State.tanSend_fixed]
    | refine (State.fixed_foldl _ _ _ fun t x => ?_).trans ?_
    | refine (State.fixed_foldl_fst _ _ _ fun t x => ?_).trans ?_
    | refine (State.fixed_foldl_snd _ _ _ fun t x => ?_).trans ?_
    | split

theorem State.groupCommit_fixed (s : State) (port : Nat) (slot : Nat) (tick : DWord) :
    (State.groupCommit s port slot tick).fixed = s.fixed := by
  unfold State.groupCommit
  repeat' first
    | with_reducible rfl
    | simp only [State.fixed_mk, State.tanSend_fixed]
    | refine (State.fixed_foldl _ _ _ fun t x => ?_).trans ?_

theorem State.groupReset_fixed (s : State) (port : Nat) (slot : Nat) (code : Nat) :
    (State.groupReset s port slot code).fixed = s.fixed := by
  unfold State.groupReset
  repeat' first
    | with_reducible rfl
    | simp only [State.fixed_ite, ite_self, State.raiseBit_fixed, State.count_fixed, State.recordErrAt_fixed, State.modPrt_fixed, State.spreadReset_fixed, State.jobFaultHere_fixed]
    | refine (State.fixed_foldl _ _ _ fun t x => ?_).trans ?_
    | refine (State.fixed_foldl_fst _ _ _ fun t x => ?_).trans ?_
    | refine (State.fixed_foldl_snd _ _ _ fun t x => ?_).trans ?_
    | split

theorem State.leaderCommit_fixed (s : State) (p : Nat) :
    (State.leaderCommit s p).fixed = s.fixed := by
  unfold State.leaderCommit
  repeat' first
    | with_reducible rfl
    | simp only [State.fixed_ite, State.tanSend_fixed]
    | refine (State.fixed_foldl _ _ _ fun t x => ?_).trans ?_
    | refine (State.fixed_foldl_fst _ _ _ fun t x => ?_).trans ?_
    | refine (State.fixed_foldl_snd _ _ _ fun t x => ?_).trans ?_
    | split

theorem State.leaderStroke_fixed (s : State) (p : Nat) :
    (State.leaderStroke s p).fixed = s.fixed := by
  unfold State.leaderStroke
  repeat' first
    | with_reducible rfl
    | simp only [State.fixed_ite, State.tanSend_fixed]
    | refine (State.fixed_foldl _ _ _ fun t x => ?_).trans ?_
    | refine (State.fixed_foldl_fst _ _ _ fun t x => ?_).trans ?_
    | refine (State.fixed_foldl_snd _ _ _ fun t x => ?_).trans ?_
    | split

theorem State.offerMigrations_fixed (s : State) :
    (State.offerMigrations s).fixed = s.fixed := by
  unfold State.offerMigrations
  repeat' first
    | with_reducible rfl
    | simp only [State.fixed_mk, State.fixed_ite, ite_self, State.trace_fixed, State.modStr_fixed, State.modSeq_fixed, State.tanSend_fixed]
    | refine (State.fixed_foldl _ _ _ fun t x => ?_).trans ?_

theorem State.sendMigration_fixed (s : State) (m : MigOut) (peer : Nat) :
    (State.sendMigration s m peer).fixed = s.fixed := by
  unfold State.sendMigration
  repeat' first
    | with_reducible rfl
    | simp only [State.fixed_mk, State.fixed_ite, ite_self, State.trace_fixed, State.tanSend_fixed]

theorem State.endMigrations_fixed (s : State) :
    (State.endMigrations s).fixed = s.fixed := by
  unfold State.endMigrations
  repeat' first
    | with_reducible rfl
    | simp only [State.fixed_mk, State.fixed_ite, ite_self, State.count_fixed, State.event_fixed, State.decide_fixed, State.freeSeq_fixed, State.freeStr_fixed, State.tanSend_fixed, State.departed_fixed]
    | refine (State.fixed_foldl _ _ _ fun t x => ?_).trans ?_
    | refine (State.fixed_foldl_fst _ _ _ fun t x => ?_).trans ?_
    | refine (State.fixed_foldl_snd _ _ _ fun t x => ?_).trans ?_
    | split

theorem State.takeArea_fixed (s : State) (k : Nat) (p : Nat) :
    ∀ t, State.takeArea s k p = some t → t.fixed = s.fixed := by
  intro t h
  have set (u : State) (o : Nat) (a b : List Nat) (f : Stream → Stream) (c : Nat) (hu : u.fixed = s.fixed) :
      ((u.claimArea a o c).modStr k f).fixed = s.fixed := by rw [State.modStr_fixed, State.claimArea_fixed, hu]
  unfold State.takeArea at h
  dsimp only at h
  split at h
  · cases h
    exact set _ _ _ [] _ _ rfl
  · split at h
    · rename_i e
      have hk := congrArg (fun x => (Prod.snd x).fixed) e
      dsimp only at hk
      rw [State.request_fixed] at hk
      obtain ⟨o, -, rfl⟩ := Option.map_eq_some_iff.1 h
      exact set _ _ _ [] _ _ hk.symm
    · rename_i e
      have hk := congrArg (fun x => (Prod.snd x).fixed) e
      dsimp only at hk
      rw [State.request_fixed] at hk
      cases h
      rw [State.modStr_fixed, State.setMem_fixed, ← hk]
    · cases h

theorem State.takePages_fixed (s : State) (k : Nat) (p : Nat) (globals : Bool) (spill : Bool) :
    ∀ t, State.takePages s k p globals spill = some t → t.fixed = s.fixed := by
  intro t h
  unfold State.takePages at h
  dsimp only at h
  split at h
  · cases h
  · exact State.placePages_fixed _ _ _ _ _ _ _ _ _ _ h

theorem State.migEntry_fixed (s : State) (p : Nat) (handle : Nat) (adapter : Nat) (mask : Nat) :
    ∀ t, State.migEntry s p handle adapter mask = some t → t.2.fixed = s.fixed := by
  intro t h
  unfold State.migEntry at h
  dsimp only at h
  split at h
  · split at h
    · cases h
    · obtain ⟨u, hu, rfl⟩ := Option.map_eq_some_iff.1 h
      exact (State.takeArea_fixed _ _ _ _ hu).trans ((State.setStr_fixed ..).trans (State.fresh_fixed ..))
  · split at h
    · cases h
    · obtain ⟨u, hu, rfl⟩ := Option.map_eq_some_iff.1 h
      exact (State.takePages_fixed _ _ _ _ _ _ hu).trans (State.setSeq_fixed ..)

theorem State.migOffered_fixed (s : State) (port : Nat) (handle : Nat) (layout : Nat) (graph : Nat) (adapter : Nat) (mask : Nat) (bytes : Nat) :
    (State.migOffered s port handle layout graph adapter mask bytes).fixed = s.fixed := by
  unfold State.migOffered
  split
  · exact State.tanSend_fixed ..
  · dsimp only
    split
    · exact State.tanSend_fixed ..
    · rename_i h t e
      have k : t.fixed = s.fixed := by
        split at e
        · exact State.migEntry_fixed _ _ _ _ _ _ e
        · cases e
      have out (c : Prop) [Decidable c] (a b : State) (ha : a.fixed = s.fixed) (hb : b.fixed = s.fixed) :
          (if c then a else b).fixed = s.fixed := by split <;> assumption
      exact out _ _ _ ((State.tanSend_fixed ..).trans ((State.fixed_mk ..).trans ((State.fitCheck_fixed ..).trans k)))
        (State.tanSend_fixed ..)

theorem State.migArrived_fixed (s : State) (port : Nat) (offset : Nat) (data : List Byte) :
    (State.migArrived s port offset data).fixed = s.fixed := by
  unfold State.migArrived
  repeat' first
    | with_reducible rfl
    | simp only [State.fixed_mk]
    | refine (State.fixed_foldl _ _ _ fun t x => ?_).trans ?_
    | refine (State.fixed_foldl_fst _ _ _ fun t x => ?_).trans ?_
    | refine (State.fixed_foldl_snd _ _ _ fun t x => ?_).trans ?_
    | split

theorem State.migLateInput_fixed (s : State) (h : Nat) (data : List Byte) :
    (State.migLateInput s h data).fixed = s.fixed := by
  unfold State.migLateInput
  repeat' first
    | with_reducible rfl
    | simp only [State.fixed_ite, ite_self, State.modStr_fixed, State.modSeq_fixed, State.wakeSeq_fixed]

theorem State.globalPages_fixed (s : State) (k : Nat) (p : Nat) (n : Nat) :
    (State.globalPages s k p n).fixed = s.fixed := by
  unfold State.globalPages
  split
  · rfl
  · dsimp only
    cases h : State.takePages ((s.modSeq k fun x => { x with pages := [] }).pruneKv) k p true false with
    | none => rfl
    | some t => exact (State.takePages_fixed _ _ _ _ _ _ h).trans ((State.pruneKv_fixed ..).trans (State.modSeq_fixed ..))

theorem State.commitMigIn_fixed (s : State) (m : MigIn) :
    (State.commitMigIn s m).fixed = s.fixed := by
  unfold State.commitMigIn
  repeat' first
    | with_reducible rfl
    | simp only [State.fixed_mk, State.fixed_ite, ite_self, State.raiseBit_fixed, State.count_fixed, State.produce_fixed, State.modStr_fixed, State.modSeq_fixed, State.globalPages_fixed]
    | refine (State.fixed_foldl _ _ _ fun t x => ?_).trans ?_
    | refine (State.fixed_foldl_fst _ _ _ fun t x => ?_).trans ?_
    | refine (State.fixed_foldl_snd _ _ _ fun t x => ?_).trans ?_
    | split

theorem State.commitArrivals_fixed (s : State) :
    (State.commitArrivals s).fixed = s.fixed := by
  unfold State.commitArrivals
  repeat' first
    | with_reducible rfl
    | simp only [State.commitMigIn_fixed]
    | refine (State.fixed_foldl _ _ _ fun t x => ?_).trans ?_

theorem State.xferArrived_fixed (s : State) (port : Nat) (offset : Nat) (data : List Byte) :
    (State.xferArrived s port offset data).fixed = s.fixed := by
  unfold State.xferArrived
  repeat' first
    | with_reducible rfl
    | simp only [State.fixed_ite, State.migArrived_fixed, State.migLateInput_fixed]
    | refine (State.fixed_foldl _ _ _ fun t x => ?_).trans ?_
    | refine (State.fixed_foldl_fst _ _ _ fun t x => ?_).trans ?_
    | refine (State.fixed_foldl_snd _ _ _ fun t x => ?_).trans ?_
    | split

theorem State.actArrived_fixed (s : State) (port : Nat) (num : Nat) (tags : List Nat) (data : List Byte) :
    (State.actArrived s port num tags data).fixed = s.fixed := by
  unfold State.actArrived
  repeat' first
    | with_reducible rfl
    | simp only [State.fixed_ite, ite_self, State.pushFrame_fixed, State.queueTokens_fixed]
    | refine (State.fixed_foldl _ _ _ fun t x => ?_).trans ?_
    | refine (State.fixed_foldl_fst _ _ _ fun t x => ?_).trans ?_
    | refine (State.fixed_foldl_snd _ _ _ fun t x => ?_).trans ?_
    | split

theorem State.sendTicks_fixed (s : State) (h : Nat) :
    (State.sendTicks s h).fixed = s.fixed := by
  unfold State.sendTicks
  repeat' first
    | with_reducible rfl
    | simp only [State.fixed_ite, ite_self, State.tanSend_fixed]
    | refine (State.fixed_foldl _ _ _ fun t x => ?_).trans ?_

theorem State.alignEdge_fixed (s : State) :
    (State.alignEdge s).fixed = s.fixed := by
  unfold State.alignEdge
  repeat' first
    | with_reducible rfl
    | simp only [State.fixed_mk, State.fixed_ite, ite_self, State.lockNow_fixed, State.unlockNow_fixed]

theorem State.raiseFirst_fixed (s : State) (pg : Nat) (cause : Nat) :
    (State.raiseFirst s pg cause).fixed = s.fixed := by
  unfold State.raiseFirst
  repeat' first
    | with_reducible rfl
    | simp only [State.fixed_mk, State.fixed_ite, ite_self, State.raiseBit_fixed]

theorem State.turnMarks_fixed (s : State) :
    (State.turnMarks s).fixed = s.fixed := by
  unfold State.turnMarks
  repeat' first
    | with_reducible rfl
    | simp only [State.fixed_mk]

theorem State.setPcmClock_fixed (s : State) (p : Nat) (dir : Nat) (c : PcmClock) :
    (State.setPcmClock s p dir c).fixed = s.fixed := by
  unfold State.setPcmClock
  repeat' first
    | with_reducible rfl
    | simp only [State.fixed_mk]

theorem State.setSink_fixed (s : State) (j : Nat) (x : Sink) :
    (State.setSink s j x).fixed = s.fixed := by
  unfold State.setSink
  repeat' first
    | with_reducible rfl
    | simp only [State.fixed_mk]

theorem State.overrunSink_fixed (s : State) (j : Nat) :
    (State.overrunSink s j).fixed = s.fixed := by
  unfold State.overrunSink
  repeat' first
    | with_reducible rfl
    | simp only [State.count_fixed, State.raiseFirst_fixed, State.setSink_fixed]

theorem State.pushSink_fixed (s : State) (j : Nat) (v : Nat × Nat) :
    (State.pushSink s j v).fixed = s.fixed := by
  unfold State.pushSink
  repeat' first
    | with_reducible rfl
    | simp only [State.fixed_ite, ite_self, State.setSink_fixed, State.overrunSink_fixed]

theorem State.pushStreams_fixed (s : State) (j : Nat) (v : Nat) (mark : Bool) :
    (State.pushStreams s j v mark).fixed = s.fixed := by
  unfold State.pushStreams
  repeat' first
    | with_reducible rfl
    | simp only [State.fixed_ite, ite_self, State.modStr_fixed]
    | refine (State.fixed_foldl _ _ _ fun t x => ?_).trans ?_

theorem State.fromSource_fixed (s : State) (i : Nat) (v : Nat) (tag : Nat) (mark : Bool) :
    (State.fromSource s i v tag mark).fixed = s.fixed := by
  unfold State.fromSource
  repeat' first
    | with_reducible rfl
    | simp only [State.fixed_ite, ite_self, State.pushSink_fixed, State.pushStreams_fixed]
    | refine (State.fixed_foldl _ _ _ fun t x => ?_).trans ?_

theorem State.captured_fixed (s : State) (i : Nat) (q : Int) :
    (State.captured s i q).2.fixed = s.fixed := by
  unfold State.captured
  repeat' first
    | with_reducible rfl
    | simp only [State.fixed_ite, ite_self, State.count_fixed, State.raiseFirst_fixed]
    | refine (State.fixed_foldl _ _ _ fun t x => ?_).trans ?_
    | refine (State.fixed_foldl_fst _ _ _ fun t x => ?_).trans ?_
    | refine (State.fixed_foldl_snd _ _ _ fun t x => ?_).trans ?_
    | split

theorem State.linkFrame_fixed (s : State) (port : Nat) :
    ∀ t, State.linkFrame s port = some t → t.2.fixed = s.fixed := by
  intro t h
  unfold State.linkFrame at h
  split at h
  · cases h
  · split at h
    · cases h
    · cases h
      rfl

theorem State.linkStrobes_fixed (s : State) (port : Nat) (a : Nat) :
    (State.linkStrobes s port a).fixed = s.fixed := by
  induction a generalizing s with
  | zero => rfl
  | succ n ih =>
    unfold State.linkStrobes
    split
    · rfl
    · rename_i h
      exact (ih _).trans ((State.fixed_foldl _ _ _ fun t x => State.fromSource_fixed ..).trans (State.linkFrame_fixed _ _ _ h))

theorem State.takeCaptured_fixed (s : State) (i : Nat) (l : List Int) :
    (State.takeCaptured s i l).fixed = s.fixed := by
  unfold State.takeCaptured
  repeat' first
    | with_reducible rfl
    | simp only [State.fixed_ite, State.fromSource_fixed, State.captured_fixed, State.linkStrobes_fixed]
    | refine (State.fixed_foldl _ _ _ fun t x => ?_).trans ?_
    | refine (State.fixed_foldl_fst _ _ _ fun t x => ?_).trans ?_
    | refine (State.fixed_foldl_snd _ _ _ fun t x => ?_).trans ?_
    | split

theorem State.underrunSink_fixed (s : State) (j : Nat) :
    (State.underrunSink s j).fixed = s.fixed := by
  unfold State.underrunSink
  repeat' first
    | with_reducible rfl
    | simp only [State.count_fixed, State.trace_fixed, State.raiseFirst_fixed, State.setSink_fixed]

theorem State.strobe_fixed (s : State) (j : Nat) :
    (State.strobe s j).2.fixed = s.fixed := by
  unfold State.strobe
  repeat' first
    | with_reducible rfl
    | simp only [State.setSink_fixed, State.underrunSink_fixed]
    | refine (State.fixed_foldl _ _ _ fun t x => ?_).trans ?_
    | refine (State.fixed_foldl_fst _ _ _ fun t x => ?_).trans ?_
    | refine (State.fixed_foldl_snd _ _ _ fun t x => ?_).trans ?_
    | split

theorem State.strobes_fixed (s : State) (j : Nat) (a : Nat) :
    (State.strobes s j a).2.fixed = s.fixed := by
  induction a generalizing s with
  | zero => rfl
  | succ n ih => exact (ih _).trans (State.strobe_fixed ..)

theorem State.putOut_fixed (s : State) (j : Nat) (quiet : Bool) (l : List (Nat × Nat)) :
    (State.putOut s j quiet l).fixed = s.fixed := by
  unfold State.putOut
  repeat' first
    | with_reducible rfl
    | simp only [State.fixed_mk, State.fixed_ite, ite_self, State.emit_fixed, State.count_fixed, State.raiseFirst_fixed]
    | refine (State.fixed_foldl _ _ _ fun t x => ?_).trans ?_
    | refine (State.fixed_foldl_fst _ _ _ fun t x => ?_).trans ?_
    | refine (State.fixed_foldl_snd _ _ _ fun t x => ?_).trans ?_
    | split

theorem State.sinkBatch_fixed (s : State) (at_ : Nat) (j : Nat) (n : Nat) :
    (State.sinkBatch s at_ j n).2.fixed = s.fixed := by
  unfold State.sinkBatch
  repeat' first
    | with_reducible rfl
    | simp only [State.setSink_fixed, State.strobes_fixed]
    | refine (State.fixed_foldl _ _ _ fun t x => ?_).trans ?_
    | refine (State.fixed_foldl_fst _ _ _ fun t x => ?_).trans ?_
    | refine (State.fixed_foldl_snd _ _ _ fun t x => ?_).trans ?_
    | split

theorem State.decision_fixed (s : State) (j : Nat) :
    (State.decision s j).fixed = s.fixed := by
  unfold State.decision
  repeat' first
    | with_reducible rfl
    | simp only [State.fixed_ite, ite_self, State.count_fixed, State.trace_fixed, State.raiseFirst_fixed, State.setSink_fixed]

theorem State.block_fixed (s : State) (j : Nat) (l : List (Nat × Nat)) :
    (State.block s j l).fixed = s.fixed := by
  unfold State.block
  repeat' first
    | with_reducible rfl
    | simp only [State.fixed_ite, ite_self, State.count_fixed, State.setSink_fixed, State.pushSink_fixed]
    | refine (State.fixed_foldl _ _ _ fun t x => ?_).trans ?_

theorem State.feedSink_fixed (s : State) (j : Nat) (l : List (Nat × Nat)) :
    (State.feedSink s j l).fixed = s.fixed := by
  unfold State.feedSink
  repeat' first
    | with_reducible rfl
    | simp only [State.fixed_ite, State.pushStreams_fixed, State.block_fixed]
    | refine (State.fixed_foldl _ _ _ fun t x => ?_).trans ?_
    | refine (State.fixed_foldl_fst _ _ _ fun t x => ?_).trans ?_
    | refine (State.fixed_foldl_snd _ _ _ fun t x => ?_).trans ?_
    | split

theorem State.audioSlice_fixed (s : State) (at_ : Nat) (acc : List (Nat × List (Nat × Nat))) (a : AudioIn) :
    (State.audioSlice s at_ acc a).2.fixed = s.fixed := by
  unfold State.audioSlice
  repeat' first
    | with_reducible rfl
    | simp only [State.takeCaptured_fixed, State.sinkBatch_fixed]
    | refine (State.fixed_foldl _ _ _ fun t x => ?_).trans ?_
    | refine (State.fixed_foldl_fst _ _ _ fun t x => ?_).trans ?_
    | refine (State.fixed_foldl_snd _ _ _ fun t x => ?_).trans ?_
    | split

theorem State.audioSlices_fixed (a : AudioIn) (from_ : Nat) (n : Nat) (acc : List (Nat × List (Nat × Nat))) (a_1 : Nat) (a_2 : State) :
    (State.audioSlices a from_ n acc a_1 a_2).2.fixed = a_2.fixed := by
  induction a_1 generalizing acc a_2 with
  | zero => rfl
  | succ k ih => exact (ih _ _).trans (State.audioSlice_fixed ..)

theorem State.audioBatch_fixed (s : State) (a : AudioIn) :
    (State.audioBatch s a).2.fixed = s.fixed := by
  exact State.audioSlices_fixed ..

theorem State.closeFrames_fixed (s : State) (k : Nat) :
    (State.closeFrames s k).fixed = s.fixed := by
  unfold State.closeFrames
  repeat' first
    | with_reducible rfl
    | simp only [State.fixed_ite, State.setStr_fixed, State.pushFrame_fixed]
    | refine (State.fixed_foldl _ _ _ fun t x => ?_).trans ?_
    | refine (State.fixed_foldl_fst _ _ _ fun t x => ?_).trans ?_
    | refine (State.fixed_foldl_snd _ _ _ fun t x => ?_).trans ?_
    | split

theorem State.closeAll_fixed (s : State) :
    (State.closeAll s).fixed = s.fixed := by
  unfold State.closeAll
  repeat' first
    | with_reducible rfl
    | simp only [State.closeFrames_fixed]
    | refine (State.fixed_foldl _ _ _ fun t x => ?_).trans ?_

theorem State.ringWrite_fixed (s : State) (rider : Nat) (addr : Nat) (area : Nat) (off : Nat) (b : List Byte) :
    (State.ringWrite s rider addr area off b).fixed = s.fixed := by
  unfold State.ringWrite
  repeat' first
    | with_reducible rfl
    | simp only [State.dmaWrite_fixed]

theorem State.audToHost_fixed (s : State) (i : Nat) (p : AudPort) (host : List Byte) :
    (State.audToHost s i p host).fixed = s.fixed := by
  unfold State.audToHost
  repeat' first
    | with_reducible rfl
    | simp only [State.fixed_mk, State.count_fixed, State.dmaWrite_fixed, State.ringWrite_fixed]
    | refine (State.fixed_foldl _ _ _ fun t x => ?_).trans ?_

theorem State.audFromHost_fixed (s : State) (i : Nat) (p : AudPort) (host : List Byte) :
    (State.audFromHost s i p host).fixed = s.fixed := by
  unfold State.audFromHost
  repeat' first
    | with_reducible rfl
    | simp only [State.fixed_mk, State.fixed_ite, ite_self, State.dmaWrite_fixed]

theorem State.audRings_fixed (s : State) (a : AudioIn) :
    (State.audRings s a).fixed = s.fixed := by
  unfold State.audRings
  repeat' first
    | with_reducible rfl
    | simp only [State.fixed_ite, ite_self, State.audToHost_fixed, State.audFromHost_fixed]
    | refine (State.fixed_foldl _ _ _ fun t x => ?_).trans ?_

theorem State.applyPorts_fixed (s : State) :
    (State.applyPorts s).fixed = s.fixed := by
  unfold State.applyPorts
  repeat' first
    | with_reducible rfl
    | simp only [State.fixed_mk]
    | refine (State.fixed_foldl _ _ _ fun t x => ?_).trans ?_

theorem State.rerouted_fixed (s : State) (j : Nat) (old : Nat) (new : Nat) :
    (State.rerouted s j old new).fixed = s.fixed := by
  unfold State.rerouted
  repeat' first
    | with_reducible rfl
    | simp only [State.fixed_ite, ite_self, State.count_fixed, State.trace_fixed]

theorem State.resetSinks_fixed (s : State) (old : State) :
    (State.resetSinks s old).fixed = s.fixed := by
  unfold State.resetSinks
  repeat' first
    | with_reducible rfl
    | simp only [State.fixed_ite, ite_self, State.setSink_fixed, State.rerouted_fixed]
    | refine (State.fixed_foldl _ _ _ fun t x => ?_).trans ?_

theorem State.measure_fixed (s : State) (p : Nat) (dir : Nat) (rate : Nat) :
    (State.measure s p dir rate).fixed = s.fixed := by
  unfold State.measure
  repeat' first
    | with_reducible rfl
    | simp only [State.fixed_ite, ite_self, State.wr_fixed, State.raiseBit_fixed, State.setPcmClock_fixed]

theorem State.clockLost_fixed (s : State) (p : Nat) (dir : Nat) :
    (State.clockLost s p dir).fixed = s.fixed := by
  unfold State.clockLost
  repeat' first
    | with_reducible rfl
    | simp only [State.fixed_ite, ite_self, State.raiseBit_fixed, State.count_fixed, State.setPcmClock_fixed, State.setSink_fixed]
    | refine (State.fixed_foldl _ _ _ fun t x => ?_).trans ?_
    | refine (State.fixed_foldl_fst _ _ _ fun t x => ?_).trans ?_
    | refine (State.fixed_foldl_snd _ _ _ fun t x => ?_).trans ?_
    | split

theorem State.clockReturn_fixed (s : State) (p : Nat) (dir : Nat) :
    (State.clockReturn s p dir).fixed = s.fixed := by
  unfold State.clockReturn
  repeat' first
    | with_reducible rfl
    | simp only [State.setPcmClock_fixed]

theorem State.dropClaim_fixed (s : State) (pg : Nat) (code : Nat) :
    (State.dropClaim s pg code).fixed = s.fixed := by
  unfold State.dropClaim
  repeat' first
    | with_reducible rfl
    | simp only [State.fixed_mk, State.setFld_fixed, State.raiseBit_fixed, State.recordErrAt_fixed]
    | refine (State.fixed_foldl _ _ _ fun t x => ?_).trans ?_
    | refine (State.fixed_foldl_fst _ _ _ fun t x => ?_).trans ?_
    | refine (State.fixed_foldl_snd _ _ _ fun t x => ?_).trans ?_
    | split

theorem State.loseClaims_fixed (s : State) (p : Nat → Bool) :
    (State.loseClaims s p).fixed = s.fixed := by
  unfold State.loseClaims
  repeat' first
    | with_reducible rfl
    | simp only [State.fixed_ite, ite_self, State.dropClaim_fixed]
    | refine (State.fixed_foldl _ _ _ fun t x => ?_).trans ?_

theorem State.safety_fixed (s : State) (code : Nat) (arg0 : Nat) (arg1 : Nat) :
    (State.safety s code arg0 arg1).fixed = s.fixed := by
  unfold State.safety
  repeat' first
    | with_reducible rfl
    | simp only [State.journal_fixed]

theorem State.safErr_fixed (s : State) (code : Nat) :
    (State.safErr s code).fixed = s.fixed := by
  unfold State.safErr
  repeat' first
    | with_reducible rfl
    | simp only [State.recordErrAt_fixed]

theorem State.kickLoops_fixed (s : State) :
    (State.kickLoops s).fixed = s.fixed := by
  unfold State.kickLoops
  repeat' first
    | with_reducible rfl
    | simp only [State.setStr_fixed, State.setSeq_fixed, State.modPrt_fixed, State.rollLinks_fixed, State.stopStroke_fixed]
    | refine (State.fixed_foldl _ _ _ fun t x => ?_).trans ?_

theorem State.undoCommand_fixed (s : State) (c : Cmd) (code : Nat) :
    (State.undoCommand s c code).fixed = s.fixed := by
  unfold State.undoCommand
  repeat' first
    | with_reducible rfl
    | simp only [State.fixed_mk, State.fixed_ite, ite_self, State.setStr_fixed, State.setSeq_fixed, State.setPrt_fixed, State.setSlot_fixed, State.freeSeq_fixed, State.freeStr_fixed, State.failLoad_fixed]
    | refine (State.fixed_foldl _ _ _ fun t x => ?_).trans ?_

theorem State.kickCommand_fixed (s : State) (c : Cmd) :
    (State.kickCommand s c).fixed = s.fixed := by
  unfold State.kickCommand
  repeat' first
    | with_reducible rfl
    | simp only [State.decide_fixed, State.undoCommand_fixed]

theorem State.kickCommands_fixed (s : State) :
    (State.kickCommands s).fixed = s.fixed := by
  unfold State.kickCommands
  repeat' first
    | with_reducible rfl
    | simp only [State.kickCommand_fixed]
    | refine (State.fixed_foldl _ _ _ fun t x => ?_).trans ?_

theorem State.kickSeqs_fixed (s : State) :
    (State.kickSeqs s).fixed = s.fixed := by
  unfold State.kickSeqs
  repeat' first
    | with_reducible rfl
    | simp only [State.event_fixed, State.freeSeq_fixed]
    | refine (State.fixed_foldl _ _ _ fun t x => ?_).trans ?_

theorem State.kickClear_fixed (s : State) :
    (State.kickClear s).fixed = s.fixed := by
  unfold State.kickClear
  repeat' first
    | with_reducible rfl
    | simp only [State.fixed_mk, State.pruneAreas_fixed, State.pruneKv_fixed, State.freeStr_fixed, State.kickSeqs_fixed]
    | refine (State.fixed_foldl _ _ _ fun t x => ?_).trans ?_

theorem State.restartPin_fixed (s : State) (o : Nat) :
    (State.restartPin s o).fixed = s.fixed := by
  unfold State.restartPin
  repeat' first
    | with_reducible rfl
    | simp only [State.fixed_ite, ite_self, State.setSink_fixed]
    | refine (State.fixed_foldl _ _ _ fun t x => ?_).trans ?_

theorem State.latchPriv_fixed (s : State) (kind : Nat) :
    (State.latchPriv s kind).fixed = s.fixed := by
  unfold State.latchPriv
  repeat' first
    | with_reducible rfl
    | simp only [State.fixed_ite, ite_self, State.setFld_fixed, State.raiseBit_fixed, State.safety_fixed, State.safErr_fixed]

theorem State.tagFails_fixed (s : State) (handle : Nat) (tag : Nat) (agent : Nat) :
    (State.tagFails s handle tag agent).fixed = s.fixed := by
  unfold State.tagFails
  repeat' first
    | with_reducible rfl
    | simp only [State.wr_fixed, State.raiseBit_fixed, State.count_fixed, State.recordErrAt_fixed, State.safety_fixed]

theorem State.choosePoint_fixed (s : State) :
    (State.choosePoint s).fixed = s.fixed := by
  unfold State.choosePoint
  repeat' first
    | with_reducible rfl
    | simp only [State.fixed_ite, ite_self, State.setFld_fixed, State.count_fixed, State.trace_fixed]

theorem State.openWindows_fixed (s : State) :
    (State.openWindows s).fixed = s.fixed := by
  unfold State.openWindows
  repeat' first
    | with_reducible rfl
    | simp only [State.fixed_ite, ite_self, State.raiseBit_fixed, State.count_fixed, State.setMem_fixed, State.setChan_fixed]
    | refine (State.fixed_foldl _ _ _ fun t x => ?_).trans ?_
    | refine (State.fixed_foldl_fst _ _ _ fun t x => ?_).trans ?_
    | refine (State.fixed_foldl_snd _ _ _ fun t x => ?_).trans ?_
    | split

theorem State.setBudgets_fixed (s : State) :
    (State.setBudgets s).fixed = s.fixed := by
  unfold State.setBudgets
  repeat' first
    | with_reducible rfl
    | simp only [State.modPrt_fixed]
    | refine (State.fixed_foldl _ _ _ fun t x => ?_).trans ?_

theorem State.settleChannels_fixed (s : State) :
    (State.settleChannels s).fixed = s.fixed := by
  unfold State.settleChannels
  repeat' first
    | with_reducible rfl
    | simp only [State.fixed_ite, ite_self, State.setChan_fixed]
    | refine (State.fixed_foldl _ _ _ fun t x => ?_).trans ?_

theorem State.powerChannels_fixed (s : State) :
    (State.powerChannels s).fixed = s.fixed := by
  unfold State.powerChannels
  repeat' first
    | with_reducible rfl
    | simp only [State.fixed_ite, ite_self, State.setChan_fixed]
    | refine (State.fixed_foldl _ _ _ fun t x => ?_).trans ?_

theorem State.stacksOff_fixed (s : State) :
    (State.stacksOff s).fixed = s.fixed := by
  unfold State.stacksOff
  repeat' first
    | with_reducible rfl
    | simp only [State.fixed_mk, State.fixed_ite, ite_self, State.setMem_fixed, State.setChan_fixed, State.emptySlot_fixed, State.failLoad_fixed, State.dropPrt_fixed]
    | refine (State.fixed_foldl _ _ _ fun t x => ?_).trans ?_

theorem State.requestEnds_fixed (s : State) (code : Nat) :
    (State.requestEnds s code).fixed = s.fixed := by
  unfold State.requestEnds
  repeat' first
    | with_reducible rfl
    | simp only [State.setFld_fixed, State.raiseBit_fixed]

theorem State.requestDone_fixed (s : State) :
    (State.requestDone s).fixed = s.fixed := by
  unfold State.requestDone
  repeat' first
    | with_reducible rfl
    | simp only [State.fixed_ite, ite_self, State.requestEnds_fixed]

theorem State.wakeBit_fixed (s : State) (i : Nat) :
    (State.wakeBit s i).fixed = s.fixed := by
  unfold State.wakeBit
  repeat' first
    | with_reducible rfl
    | simp only [State.wr_fixed, State.raiseBit_fixed]

theorem State.takeReferences_fixed (s : State) :
    (State.takeReferences s).fixed = s.fixed := by
  unfold State.takeReferences
  repeat' first
    | with_reducible rfl
    | simp only [State.setChan_fixed]
    | refine (State.fixed_foldl _ _ _ fun t x => ?_).trans ?_
    | refine (State.fixed_foldl_fst _ _ _ fun t x => ?_).trans ?_
    | refine (State.fixed_foldl_snd _ _ _ fun t x => ?_).trans ?_
    | split

theorem State.retrainEnds_fixed (s : State) (n : Nat) (pass : Bool) :
    (State.retrainEnds s n pass).fixed = s.fixed := by
  unfold State.retrainEnds
  repeat' first
    | with_reducible rfl
    | simp only [State.fixed_ite, ite_self, State.raiseBit_fixed, State.count_fixed, State.log_fixed, State.trace_fixed, State.setChan_fixed, State.failChannel_fixed]

theorem State.resetRegs_fixed (s : State) (p : Nat → Bool) :
    (State.resetRegs s p).fixed = s.fixed := by
  unfold State.resetRegs
  repeat' first
    | with_reducible rfl
    | simp only [State.fixed_mk]

theorem State.ltrUpdate_fixed (s : State) :
    (State.ltrUpdate s).fixed = s.fixed := by
  unfold State.ltrUpdate
  repeat' first
    | with_reducible rfl
    | simp only [State.fixed_mk, State.fixed_ite, ite_self, State.emit_fixed]

theorem State.stopTrace_fixed (s : State) :
    (State.stopTrace s).fixed = s.fixed := by
  unfold State.stopTrace
  repeat' first
    | with_reducible rfl
    | simp only [State.fixed_mk, State.setFld_fixed]

theorem State.stopDump_fixed (s : State) :
    (State.stopDump s).fixed = s.fixed := by
  unfold State.stopDump
  repeat' first
    | with_reducible rfl
    | simp only [State.fixed_mk]

theorem State.riderClear_fixed (s : State) (n : Nat) :
    (State.riderClear s n).fixed = s.fixed := by
  unfold State.riderClear
  repeat' first
    | with_reducible rfl
    | simp only [State.fixed_mk, State.fixed_ite, ite_self, State.resetRegs_fixed, State.stopTrace_fixed, State.stopDump_fixed]

theorem State.riderWork_fixed (s : State) (n : Nat) :
    (State.riderWork s n).fixed = s.fixed := by
  unfold State.riderWork
  repeat' first
    | with_reducible rfl
    | simp only [State.fixed_mk, State.fixed_ite, ite_self, State.abandon_fixed, State.modStr_fixed, State.endSeq_fixed, State.loseClaims_fixed, State.undoCommand_fixed]
    | refine (State.fixed_foldl _ _ _ fun t x => ?_).trans ?_

theorem State.cutPages_fixed (s : State) :
    (State.cutPages s).fixed = s.fixed := by
  unfold State.cutPages
  repeat' first
    | with_reducible rfl
    | simp only [State.fixed_mk]

theorem State.riderReset_fixed (s : State) (n : Nat) :
    (State.riderReset s n).fixed = s.fixed := by
  unfold State.riderReset
  repeat' first
    | with_reducible rfl
    | simp only [State.fixed_mk, State.fixed_ite, ite_self, State.riderClear_fixed, State.riderWork_fixed, State.cutPages_fixed]

theorem State.riderResetEnd_fixed (s : State) (n : Nat) :
    (State.riderResetEnd s n).fixed = s.fixed := by
  unfold State.riderResetEnd
  repeat' first
    | with_reducible rfl
    | simp only [State.fixed_mk, State.fixed_ite, ite_self, State.raiseBit_fixed, State.count_fixed, State.journal_fixed]

theorem State.flrConfig_fixed (s : State) (n : Nat) :
    (State.flrConfig s n).fixed = s.fixed := by
  unfold State.flrConfig
  repeat' first
    | with_reducible rfl
    | simp only [State.fixed_mk]

theorem State.vfClear_fixed (s : State) :
    (State.vfClear s).fixed = s.fixed := by
  unfold State.vfClear
  repeat' first
    | with_reducible rfl
    | simp only [State.fixed_mk, State.fixed_ite, ite_self, State.riderReset_fixed, State.flrConfig_fixed]
    | refine (State.fixed_foldl _ _ _ fun t x => ?_).trans ?_

theorem State.flr_fixed (s : State) (n : Nat) :
    (State.flr s n).fixed = s.fixed := by
  unfold State.flr
  repeat' first
    | with_reducible rfl
    | simp only [State.fixed_ite, ite_self, State.riderReset_fixed, State.flrConfig_fixed, State.vfClear_fixed]

theorem State.undoEndings_fixed (s : State) :
    (State.undoEndings s).fixed = s.fixed := by
  unfold State.undoEndings
  repeat' first
    | with_reducible rfl
    | simp only [State.fixed_ite, ite_self, State.modStr_fixed, State.modSeq_fixed, State.wakeSeq_fixed]
    | refine (State.fixed_foldl _ _ _ fun t x => ?_).trans ?_

theorem State.importDone_fixed (s : State) (k : Nat) (blob : Option (List Byte)) :
    (State.importDone s k blob).fixed = s.fixed := by
  unfold State.importDone
  repeat' first
    | with_reducible rfl
    | simp only [State.fixed_ite, ite_self, State.recordErrAt_fixed, State.readEnds_fixed, State.setStr_fixed, State.faultStr_fixed]
    | refine (State.fixed_foldl _ _ _ fun t x => ?_).trans ?_
    | refine (State.fixed_foldl_fst _ _ _ fun t x => ?_).trans ?_
    | refine (State.fixed_foldl_snd _ _ _ fun t x => ?_).trans ?_
    | split

theorem State.cutReads_fixed (s : State) :
    (State.cutReads s).fixed = s.fixed := by
  unfold State.cutReads
  repeat' first
    | with_reducible rfl
    | simp only [State.fixed_mk, State.cutPages_fixed, State.importDone_fixed]
    | refine (State.fixed_foldl _ _ _ fun t x => ?_).trans ?_

theorem State.hostLinkReset_fixed (s : State) (cause : Nat) :
    (State.hostLinkReset s cause).fixed = s.fixed := by
  unfold State.hostLinkReset
  repeat' first
    | with_reducible rfl
    | simp only [State.fixed_mk, State.fixed_ite, ite_self, State.setFld_fixed, State.raiseBit_fixed, State.count_fixed, State.journal_fixed, State.setPm_fixed, State.dropEntry_fixed, State.loseClaims_fixed, State.riderClear_fixed, State.undoEndings_fixed, State.cutReads_fixed]
    | refine (State.fixed_foldl _ _ _ fun t x => ?_).trans ?_

theorem State.perstRises_fixed (s : State) :
    (State.perstRises s).fixed = s.fixed := by
  unfold State.perstRises
  repeat' first
    | with_reducible rfl
    | simp only [State.fixed_mk]

theorem State.setLink_fixed (s : State) (width : Nat) (rate : Nat) :
    (State.setLink s width rate).fixed = s.fixed := by
  unfold State.setLink
  repeat' first
    | with_reducible rfl
    | simp only [State.setFld_fixed]

theorem State.linkReaches_fixed (s : State) (width : Nat) (rate : Nat) :
    (State.linkReaches s width rate).fixed = s.fixed := by
  unfold State.linkReaches
  repeat' first
    | with_reducible rfl
    | simp only [State.fixed_mk, State.fixed_ite, ite_self, State.setFld_fixed, State.raiseBit_fixed, State.repannier_fixed, State.setLink_fixed]

theorem State.linkChanges_fixed (s : State) (width : Nat) (rate : Nat) :
    (State.linkChanges s width rate).fixed = s.fixed := by
  unfold State.linkChanges
  repeat' first
    | with_reducible rfl
    | simp only [State.raiseBit_fixed, State.count_fixed, State.repannier_fixed, State.setLink_fixed]

theorem State.interruptFw_fixed (s : State) :
    (State.interruptFw s).fixed = s.fixed := by
  unfold State.interruptFw
  split
  · rfl
  · rfl

theorem State.tearLog_fixed (s : State) (h : Nat) :
    (State.tearLog s h).fixed = s.fixed := by
  unfold State.tearLog
  repeat' first
    | with_reducible rfl
    | simp only [State.fixed_mk]
    | refine (State.fixed_foldl _ _ _ fun t x => ?_).trans ?_
    | refine (State.fixed_foldl_fst _ _ _ fun t x => ?_).trans ?_
    | refine (State.fixed_foldl_snd _ _ _ fun t x => ?_).trans ?_
    | split

theorem State.journalRestart_fixed (s : State) (h : Nat) (x : Hub) (us : Nat) :
    (State.journalRestart s h x us).fixed = s.fixed := by
  unfold State.journalRestart
  repeat' first
    | with_reducible rfl
    | simp only [State.fixed_mk]

theorem State.resetHeld_fixed (s : State) :
    (State.resetHeld s).fixed = s.fixed := by
  unfold State.resetHeld
  repeat' first
    | with_reducible rfl
    | simp only [State.fixed_ite, ite_self, State.fresh_fixed, State.modPrt_fixed, State.jobFault_fixed]
    | refine (State.fixed_foldl _ _ _ fun t x => ?_).trans ?_

theorem State.fwEntry_fixed (s : State) (code : Nat) :
    (State.fwEntry s code).fixed = s.fixed := by
  unfold State.fwEntry
  repeat' first
    | with_reducible rfl
    | simp only [State.journal_fixed]

theorem State.judgeRow_fixed (s : State) (rimFails : List Nat) (r : Nat) :
    (State.judgeRow s rimFails r).fixed = s.fixed := by
  unfold State.judgeRow
  repeat' first
    | with_reducible rfl
    | simp only [State.fixed_ite, ite_self, State.journal_fixed, State.setMem_fixed, State.renumberRow_fixed]

theorem State.spokeFails_fixed (s : State) (k : Nat) :
    (State.spokeFails s k).fixed = s.fixed := by
  unfold State.spokeFails
  repeat' first
    | with_reducible rfl
    | simp only [State.fixed_ite, ite_self, State.journal_fixed, State.setSpoke_fixed]

theorem State.testSpokes_fixed (s : State) (b : BootIn) :
    (State.testSpokes s b).fixed = s.fixed := by
  unfold State.testSpokes
  repeat' first
    | with_reducible rfl
    | simp only [State.judgeRow_fixed, State.spokeFails_fixed]
    | refine (State.fixed_foldl _ _ _ fun t x => ?_).trans ?_

theorem State.trainChannel_fixed (s : State) (n : Nat) :
    (State.trainChannel s n).fixed = s.fixed := by
  unfold State.trainChannel
  repeat' first
    | with_reducible rfl
    | simp only [State.setChan_fixed]

theorem State.testChannels_fixed (s : State) (b : BootIn) :
    (State.testChannels s b).fixed = s.fixed := by
  unfold State.testChannels
  repeat' first
    | with_reducible rfl
    | simp only [State.failChannel_fixed, State.trainChannel_fixed]
    | refine (State.fixed_foldl _ _ _ fun t x => ?_).trans ?_

theorem State.offerResult_fixed (s : State) (result : Nat) (minor : Nat) :
    (State.offerResult s result minor).fixed = s.fixed := by
  unfold State.offerResult
  repeat' first
    | with_reducible rfl
    | simp only [State.wr_fixed]

theorem State.fwRefuse_fixed (s : State) (result : Nat) :
    (State.fwRefuse s result).fixed = s.fixed := by
  unfold State.fwRefuse
  repeat' first
    | with_reducible rfl
    | simp only [State.setFld_fixed, State.raiseBit_fixed]

theorem State.fwRead_fixed (s : State) :
    (State.fwRead s).fixed = s.fixed := by
  unfold State.fwRead
  repeat' first
    | with_reducible rfl
    | simp only [State.fixed_ite, ite_self, State.emit_fixed, State.wakeLink_fixed]

theorem State.stage_fixed (s : State) (len : Nat) :
    (State.stage s len).2.fixed = s.fixed := by
  unfold State.stage
  repeat' first
    | with_reducible rfl
    | simp only [State.takeGrans_fixed]
    | refine (State.fixed_foldl _ _ _ fun t x => ?_).trans ?_
    | refine (State.fixed_foldl_fst _ _ _ fun t x => ?_).trans ?_
    | refine (State.fixed_foldl_snd _ _ _ fun t x => ?_).trans ?_
    | split

theorem State.fwStart_fixed (s : State) (op : Nat) (target : Nat) (image : List Byte) (result : Nat) (scratch : Option Nat) :
    (State.fwStart s op target image result scratch).fixed = s.fixed := by
  rfl

theorem State.fwReport_fixed (s : State) (result : Nat) :
    (State.fwReport s result).fixed = s.fixed := by
  unfold State.fwReport
  repeat' first
    | with_reducible rfl
    | simp only [State.setFld_fixed, State.raiseBit_fixed, State.fwEntry_fixed]

theorem State.waited_fixed (s : State) :
    (State.waited s).fixed = s.fixed := by
  unfold State.waited
  repeat' first
    | with_reducible rfl
    | simp only [State.wr_fixed]
    | refine (State.fixed_foldl _ _ _ fun t x => ?_).trans ?_

theorem State.latchWords_fixed (s : State) (at_ : Nat) (bs : List Byte) :
    (State.latchWords s at_ bs).fixed = s.fixed := by
  unfold State.latchWords
  repeat' first
    | with_reducible rfl
    | simp only [State.wr_fixed]
    | refine (State.fixed_foldl _ _ _ fun t x => ?_).trans ?_

theorem State.jnlLatch_fixed (s : State) (i : Nat) :
    (State.jnlLatch s i).fixed = s.fixed := by
  unfold State.jnlLatch
  repeat' first
    | with_reducible rfl
    | simp only [State.fixed_mk, State.fixed_ite, ite_self, State.raiseBit_fixed, State.count_fixed]
    | refine (State.fixed_foldl _ _ _ fun t x => ?_).trans ?_
    | refine (State.fixed_foldl_fst _ _ _ fun t x => ?_).trans ?_
    | refine (State.fixed_foldl_snd _ _ _ fun t x => ?_).trans ?_
    | split

theorem State.logLatch_fixed (s : State) (w : Word) :
    (State.logLatch s w).fixed = s.fixed := by
  unfold State.logLatch
  repeat' first
    | with_reducible rfl
    | simp only [State.fixed_mk, State.fixed_ite, ite_self, State.count_fixed]
    | refine (State.fixed_foldl _ _ _ fun t x => ?_).trans ?_
    | refine (State.fixed_foldl_fst _ _ _ fun t x => ?_).trans ?_
    | refine (State.fixed_foldl_snd _ _ _ fun t x => ?_).trans ?_
    | split

theorem State.objLatch_fixed (s : State) (w : Word) :
    (State.objLatch s w).fixed = s.fixed := by
  unfold State.objLatch
  repeat' first
    | with_reducible rfl
    | simp only [State.fixed_mk, State.wr_fixed]
    | refine (State.fixed_foldl _ _ _ fun t x => ?_).trans ?_

theorem State.fire_fixed (s : State) (p : Nat) (a : Nat) :
    (State.fire s p a).fixed = s.fixed := by
  unfold State.fire
  repeat' first
    | with_reducible rfl
    | simp only [State.fixed_mk]

theorem State.startTrace_fixed (s : State) :
    (State.startTrace s).fixed = s.fixed := by
  unfold State.startTrace
  repeat' first
    | with_reducible rfl
    | simp only [State.fixed_mk, State.fire_fixed]

theorem State.traceCtl_fixed (s : State) (new : Word) :
    (State.traceCtl s new).fixed = s.fixed := by
  unfold State.traceCtl
  repeat' first
    | with_reducible rfl
    | simp only [State.fixed_mk, State.fixed_ite, ite_self, State.startTrace_fixed]

theorem State.ringCtl_fixed (s : State) (n : Nat) (q : Nat) (cq : Bool) (old : Word) (new : Word) :
    (State.ringCtl s n q cq old new).fixed = s.fixed := by
  unfold State.ringCtl
  repeat' first
    | with_reducible rfl
    | simp only [State.fixed_mk, State.fixed_ite, ite_self, State.wr_fixed]

theorem State.portEnable_fixed (s : State) (p : Nat) (old : Bool) (new : Bool) :
    (State.portEnable s p old new).fixed = s.fixed := by
  unfold State.portEnable
  repeat' first
    | with_reducible rfl
    | simp only [State.fixed_ite, ite_self, State.portDown_fixed, State.detect_fixed]

theorem State.tickLock_fixed (s : State) (agent : Nat) (old : Word) (new : Word) :
    (State.tickLock s agent old new).fixed = s.fixed := by
  unfold State.tickLock
  repeat' first
    | with_reducible rfl
    | simp only [State.fixed_mk, State.fixed_ite, ite_self, State.recordErr_fixed, State.unlockNow_fixed]

theorem State.clearCounters_fixed (s : State) (b : Block) (inst : Nat) (o : Nat) (bits : Nat) :
    (State.clearCounters s b inst o bits).fixed = s.fixed := by
  unfold State.clearCounters
  repeat' first
    | with_reducible rfl
    | simp only [State.wr_fixed]
    | refine (State.fixed_foldl _ _ _ fun t x => ?_).trans ?_

theorem State.testTag_fixed (s : State) :
    (State.testTag s).fixed = s.fixed := by
  unfold State.testTag
  repeat' first
    | with_reducible rfl
    | simp only [State.fresh_fixed, State.tagFails_fixed]

theorem State.dumpGo_fixed (s : State) :
    (State.dumpGo s).fixed = s.fixed := by
  unfold State.dumpGo
  repeat' first
    | with_reducible rfl
    | simp only [State.fixed_mk, State.fixed_ite, ite_self]

theorem State.snapGo_fixed (s : State) :
    (State.snapGo s).fixed = s.fixed := by
  unfold State.snapGo
  repeat' first
    | with_reducible rfl
    | simp only [State.fixed_mk, State.fixed_ite, ite_self]

theorem State.wakePeer_fixed (s : State) (p : Nat) :
    (State.wakePeer s p).fixed = s.fixed := by
  unfold State.wakePeer
  repeat' first
    | with_reducible rfl
    | simp only [State.emit_fixed, State.modTport_fixed]

theorem State.onBit_fixed (s : State) (bits : Nat) (i : Nat) (f : State → State) (h : ∀ t, (f t).fixed = t.fixed) :
    (State.onBit s bits i f).fixed = s.fixed := by
  unfold State.onBit
  repeat' first
    | with_reducible rfl
    | simp only [State.fixed_ite, ite_self, h]

theorem State.frameWrite_fixed (s : State) (agent : Nat) (off : Nat) (w : Word) :
    (State.frameWrite s agent off w).fixed = s.fixed := by
  unfold State.frameWrite
  repeat' first
    | with_reducible rfl
    | simp only [State.fixed_mk, State.fixed_ite, ite_self, State.recordErr_fixed, State.badVal_fixed]
    | refine (State.fixed_foldl _ _ _ fun t x => ?_).trans ?_
    | refine (State.fixed_foldl_fst _ _ _ fun t x => ?_).trans ?_
    | refine (State.fixed_foldl_snd _ _ _ fun t x => ?_).trans ?_
    | split

theorem State.frameCommit_fixed (s : State) (c : Commit) :
    (State.frameCommit s c).fixed = s.fixed := by
  unfold State.frameCommit
  repeat' first
    | with_reducible rfl
    | simp only [State.fixed_ite, ite_self, State.wr_fixed, State.recordErr_fixed, State.badVal_fixed]
    | refine (State.fixed_foldl _ _ _ fun t x => ?_).trans ?_
    | refine (State.fixed_foldl_fst _ _ _ fun t x => ?_).trans ?_
    | refine (State.fixed_foldl_snd _ _ _ fun t x => ?_).trans ?_
    | split

theorem State.resend_fixed (s : State) (pg : Nat) (f : State → State) (h : ∀ t, (f t).fixed = t.fixed) :
    (State.resend s pg f).fixed = s.fixed := by
  have k := State.withLine_fixed s pg f h
  unfold State.resend
  dsimp only
  split
  · rw [State.dueVec_fixed, k]
  · exact k

theorem State.headerWrite_fixed (s : State) (pg : Nat) (b : Block) (inst : Nat) (o : Nat) (w : Word) :
    (State.headerWrite s pg b inst o w).fixed = s.fixed := by
  unfold State.headerWrite
  repeat' split
  · exact State.withLine_fixed _ _ _ fun t => State.wr_fixed ..
  · exact State.resend_fixed _ _ _ fun t => State.wr_fixed ..
  · exact State.resend_fixed _ _ _ fun t => State.wr_fixed ..
  · exact State.raise_fixed ..
  · rw [State.wr_fixed, State.wr_fixed]
  · rfl
  · exact State.wr_fixed ..
  · rfl

theorem State.shadowWrite_fixed (s : State) (agent : Nat) (pg : Nat) (c : Claim) (off : Nat) (r : RegSpec) (w : Word) :
    (State.shadowWrite s agent pg c off r w).fixed = s.fixed := by
  unfold State.shadowWrite
  repeat' first
    | with_reducible rfl
    | simp only [State.fixed_mk]

theorem State.denied_fixed (s : State) (agent : Nat) (off : Nat) (be : Nat) :
    (State.denied s agent off be).fixed = s.fixed := by
  unfold State.denied
  repeat' first
    | with_reducible rfl
    | simp only [State.recordErr_fixed]

theorem State.done_fixed (s : State) (o : Owner) (result : Nat) :
    ∀ t, State.done s o result = .run t → t.fixed = s.fixed := by
  intro t h
  cases h
  exact State.decide_fixed ..

theorem State.stageTo_fixed (s : State) (o : Owner) (st : CmdStage) :
    (State.stageTo s o st).fixed = s.fixed := by
  unfold State.stageTo
  repeat' first
    | with_reducible rfl
    | simp only [State.setCmd_fixed]

theorem State.setBuf_fixed (s : State) (h : Nat) (addr : Nat) (len : Nat) :
    (State.setBuf s h addr len).fixed = s.fixed := by
  unfold State.setBuf
  repeat' first
    | with_reducible rfl
    | simp only [State.fixed_mk, State.zeroObj_fixed]

theorem State.readData_fixed (s : State) (o : Owner) (d : Desc) :
    (State.readData s o d).fixed = s.fixed := by
  unfold State.readData
  repeat' first
    | with_reducible rfl
    | simp only [State.fixed_ite, ite_self, State.dmaRead_fixed, State.readEnds_fixed]

theorem State.eraseJournal_fixed (s : State) :
    (State.eraseJournal s).1.fixed = s.fixed := by
  unfold State.eraseJournal
  repeat' first
    | with_reducible rfl
    | simp only [State.fixed_mk, State.raiseBit_fixed, State.journal_fixed]

theorem State.refuseCmd_fixed (s : State) (o : Owner) (d : Desc) (status : Nat) :
    (State.refuseCmd s o d status).fixed = s.fixed := by
  unfold State.refuseCmd
  repeat' first
    | with_reducible rfl
    | simp only [State.trace_fixed, State.decide_fixed, State.countRefused_fixed]

theorem State.visited_fixed (s : State) :
    (State.visited s).fixed = s.fixed := by
  unfold State.visited
  repeat' first
    | with_reducible rfl
    | simp only [State.fixed_mk, State.fixed_ite, ite_self]

theorem State.markCrossing_fixed (s : State) (l : List StrokeItem) :
    (State.markCrossing s l).fixed = s.fixed := by
  unfold State.markCrossing
  repeat' first
    | with_reducible rfl
    | simp only [State.fixed_ite, ite_self, State.modStr_fixed, State.modSeq_fixed]
    | refine (State.fixed_foldl _ _ _ fun t x => ?_).trans ?_

theorem State.crossPrt_fixed (s : State) (p : Nat) :
    (State.crossPrt s p).fixed = s.fixed := by
  unfold State.crossPrt
  repeat' first
    | with_reducible rfl
    | simp only [State.fixed_ite, ite_self, State.modPrt_fixed, State.overrun_fixed, State.markCrossing_fixed]
    | refine (State.fixed_foldl _ _ _ fun t x => ?_).trans ?_
    | refine (State.fixed_foldl_fst _ _ _ fun t x => ?_).trans ?_
    | refine (State.fixed_foldl_snd _ _ _ fun t x => ?_).trans ?_
    | split

theorem State.hungPrt_fixed (last : Nat) (s : State) (p : Nat) :
    (State.hungPrt last s p).fixed = s.fixed := by
  unfold State.hungPrt
  repeat' first
    | with_reducible rfl
    | simp only [State.fixed_ite, ite_self, State.jobFault_fixed]
    | refine (State.fixed_foldl _ _ _ fun t x => ?_).trans ?_
    | refine (State.fixed_foldl_fst _ _ _ fun t x => ?_).trans ?_
    | refine (State.fixed_foldl_snd _ _ _ fun t x => ?_).trans ?_
    | split

theorem State.traceEdge_fixed (s : State) :
    (State.traceEdge s).fixed = s.fixed := by
  unfold State.traceEdge
  repeat' first
    | with_reducible rfl
    | simp only [State.fixed_mk, State.fixed_ite, ite_self, State.fire_fixed, State.startTrace_fixed]

theorem State.turnTick_fixed (s : State) :
    (State.turnTick s).fixed = s.fixed := by
  unfold State.turnTick
  repeat' first
    | with_reducible rfl
    | simp only [State.fixed_mk, State.turnMarks_fixed]

theorem State.enterFault_fixed (s : State) (k : Nat) (code : Nat) :
    (State.enterFault s k code).fixed = s.fixed := by
  unfold State.enterFault
  repeat' first
    | with_reducible rfl
    | simp only [State.raiseBit_fixed, State.count_fixed, State.event_fixed, State.setStr_fixed]
    | refine (State.fixed_foldl _ _ _ fun t x => ?_).trans ?_
    | refine (State.fixed_foldl_fst _ _ _ fun t x => ?_).trans ?_
    | refine (State.fixed_foldl_snd _ _ _ fun t x => ?_).trans ?_
    | split

theorem State.reportRoll_fixed (s : State) (k : Nat) :
    (State.reportRoll s k).fixed = s.fixed := by
  unfold State.reportRoll
  repeat' first
    | with_reducible rfl
    | simp only [State.raiseBit_fixed, State.count_fixed, State.event_fixed, State.countObj_fixed, State.setStr_fixed]
    | refine (State.fixed_foldl _ _ _ fun t x => ?_).trans ?_
    | refine (State.fixed_foldl_fst _ _ _ fun t x => ?_).trans ?_
    | refine (State.fixed_foldl_snd _ _ _ fun t x => ?_).trans ?_
    | split

theorem State.commitStr_fixed (s : State) (k : Nat) :
    (State.commitStr s k).1.fixed = s.fixed := by
  unfold State.commitStr
  repeat' first
    | with_reducible rfl
    | simp only [State.setStr_fixed, State.commitLinks_fixed, State.enterFault_fixed, State.reportRoll_fixed]
    | refine (State.fixed_foldl _ _ _ fun t x => ?_).trans ?_
    | refine (State.fixed_foldl_fst _ _ _ fun t x => ?_).trans ?_
    | refine (State.fixed_foldl_snd _ _ _ fun t x => ?_).trans ?_
    | split

theorem State.commitSeq_fixed (s : State) (k : Nat) :
    (State.commitSeq s k).1.fixed = s.fixed := by
  unfold State.commitSeq
  repeat' first
    | with_reducible rfl
    | simp only [State.fixed_ite, ite_self, State.modSeq_fixed, State.dropRound_fixed, State.commitLinks_fixed]
    | refine (State.fixed_foldl _ _ _ fun t x => ?_).trans ?_
    | refine (State.fixed_foldl_fst _ _ _ fun t x => ?_).trans ?_
    | refine (State.fixed_foldl_snd _ _ _ fun t x => ?_).trans ?_
    | split

theorem State.missingCommit_fixed (s : State) :
    (State.missingCommit s).fixed = s.fixed := by
  unfold State.missingCommit
  repeat' first
    | with_reducible rfl
    | simp only [State.fixed_mk, State.fixed_ite, ite_self, State.jobFault_fixed]
    | refine (State.fixed_foldl _ _ _ fun t x => ?_).trans ?_

theorem State.commitAll_fixed (s : State) :
    (State.commitAll s).1.fixed = s.fixed := by
  unfold State.commitAll
  repeat' first
    | with_reducible rfl
    | simp only [State.fixed_ite, ite_self, State.trace_fixed, State.modPrt_fixed, State.leaves_fixed, State.commitStr_fixed, State.commitSeq_fixed]
    | refine (State.fixed_foldl _ _ _ fun t x => ?_).trans ?_
    | refine (State.fixed_foldl_fst _ _ _ fun t x => ?_).trans ?_

theorem State.tagEnds_fixed (s : State) (h : Nat) :
    (State.tagEnds s h).fixed = s.fixed := by
  unfold State.tagEnds
  repeat' first
    | with_reducible rfl
    | simp only [State.fixed_ite, ite_self, State.modStr_fixed, State.endSeq_fixed, State.failExports_fixed]

theorem State.payload_fixed (s : State) (h : Nat) (o : Owner) (perm : Nat) (tag : Nat) (bytes : List Byte) :
    (State.payload s h o perm tag bytes).fixed = s.fixed := by
  unfold State.payload
  repeat' first
    | with_reducible rfl
    | simp only [State.fixed_ite, ite_self, State.produce_fixed, State.countObj_fixed, State.tagFails_fixed, State.tagEnds_fixed]

theorem State.sinkBlock_fixed (s : State) (h : Nat) (j : Nat) (l : List (Nat × Nat)) :
    (State.sinkBlock s h j l).fixed = s.fixed := by
  unfold State.sinkBlock
  repeat' first
    | with_reducible rfl
    | simp only [State.fixed_mk, State.fixed_ite, ite_self, State.feedSink_fixed, State.tagFails_fixed]
    | refine (State.fixed_foldl _ _ _ fun t x => ?_).trans ?_
    | refine (State.fixed_foldl_fst _ _ _ fun t x => ?_).trans ?_
    | refine (State.fixed_foldl_snd _ _ _ fun t x => ?_).trans ?_
    | split

theorem State.streamBlock_fixed (s : State) (k : Nat) (perm : Nat) (i : Nat) (l : List (Nat × Nat)) :
    (State.streamBlock s k perm i l).fixed = s.fixed := by
  unfold State.streamBlock
  repeat' first
    | with_reducible rfl
    | simp only [State.fixed_ite, State.countObj_fixed, State.tagFails_fixed, State.tagEnds_fixed, State.sinkBlock_fixed]
    | refine (State.fixed_foldl _ _ _ fun t x => ?_).trans ?_
    | refine (State.fixed_foldl_fst _ _ _ fun t x => ?_).trans ?_
    | refine (State.fixed_foldl_snd _ _ _ fun t x => ?_).trans ?_
    | split

theorem State.noBlock_fixed (s : State) (i : Nat) :
    (State.noBlock s i).fixed = s.fixed := by
  unfold State.noBlock
  repeat' first
    | with_reducible rfl
    | simp only [State.fixed_ite, ite_self, State.underrunSink_fixed]
    | refine (State.fixed_foldl _ _ _ fun t x => ?_).trans ?_

theorem State.sourceBlock_fixed (s : State) (outs : List (Nat × Emit)) (i : Nat) :
    (State.sourceBlock s outs i).fixed = s.fixed := by
  unfold State.sourceBlock
  repeat' first
    | with_reducible rfl
    | simp only [State.fixed_ite, State.streamBlock_fixed, State.noBlock_fixed]
    | refine (State.fixed_foldl _ _ _ fun t x => ?_).trans ?_
    | refine (State.fixed_foldl_fst _ _ _ fun t x => ?_).trans ?_
    | refine (State.fixed_foldl_snd _ _ _ fun t x => ?_).trans ?_
    | split

theorem State.exportStr_fixed (s : State) (k : Nat) :
    (State.exportStr s k).fixed = s.fixed := by
  unfold State.exportStr
  repeat' first
    | with_reducible rfl
    | simp only [State.fixed_ite, ite_self, State.dmaWrite_fixed, State.setCmd_fixed, State.decide_fixed, State.setStr_fixed]
    | refine (State.fixed_foldl _ _ _ fun t x => ?_).trans ?_
    | refine (State.fixed_foldl_fst _ _ _ fun t x => ?_).trans ?_
    | refine (State.fixed_foldl_snd _ _ _ fun t x => ?_).trans ?_
    | split

theorem State.rebinds_fixed (s : State) :
    (State.rebinds s).fixed = s.fixed := by
  unfold State.rebinds
  repeat' first
    | with_reducible rfl
    | simp only [State.fixed_mk, State.decide_fixed]
    | refine (State.fixed_foldl _ _ _ fun t x => ?_).trans ?_

theorem State.endReports_fixed (s : State) (l : List Nat) :
    (State.endReports s l).fixed = s.fixed := by
  unfold State.endReports
  repeat' first
    | with_reducible rfl
    | simp only [State.fixed_ite, ite_self, State.event_fixed, State.decide_fixed]
    | refine (State.fixed_foldl _ _ _ fun t x => ?_).trans ?_
    | refine (State.fixed_foldl_fst _ _ _ fun t x => ?_).trans ?_
    | refine (State.fixed_foldl_snd _ _ _ fun t x => ?_).trans ?_
    | split

theorem State.reportCloses_fixed (s : State) (l : List Nat) :
    (State.reportCloses s l).fixed = s.fixed := by
  unfold State.reportCloses
  repeat' first
    | with_reducible rfl
    | simp only [State.decide_fixed]
    | refine (State.fixed_foldl _ _ _ fun t x => ?_).trans ?_
    | refine (State.fixed_foldl_fst _ _ _ fun t x => ?_).trans ?_
    | refine (State.fixed_foldl_snd _ _ _ fun t x => ?_).trans ?_
    | split

theorem State.freeGone_fixed (s : State) (strs : List Nat) (seqs : List Nat) :
    (State.freeGone s strs seqs).fixed = s.fixed := by
  unfold State.freeGone
  repeat' first
    | with_reducible rfl
    | simp only [State.freeSeq_fixed, State.freeStr_fixed, State.departed_fixed]
    | refine (State.fixed_foldl _ _ _ fun t x => ?_).trans ?_
    | refine (State.fixed_foldl_fst _ _ _ fun t x => ?_).trans ?_
    | refine (State.fixed_foldl_snd _ _ _ fun t x => ?_).trans ?_
    | split

theorem State.prtReady_fixed (s : State) (p : Nat) :
    (State.prtReady s p).fixed = s.fixed := by
  unfold State.prtReady
  repeat' first
    | with_reducible rfl
    | simp only [State.raiseBit_fixed, State.modPrt_fixed]

theorem State.resumePrt_fixed (s : State) (p : Nat) (x : Prt) :
    (State.resumePrt s p x).fixed = s.fixed := by
  unfold State.resumePrt
  repeat' first
    | with_reducible rfl
    | simp only [State.fixed_ite, ite_self, State.raiseBit_fixed, State.recordErrAt_fixed, State.journal_fixed, State.setPrt_fixed, State.prtReady_fixed]

theorem State.prtEdge_fixed (s : State) (p : Nat) :
    (State.prtEdge s p).fixed = s.fixed := by
  unfold State.prtEdge
  repeat' first
    | with_reducible rfl
    | simp only [State.fixed_mk, State.fixed_ite, ite_self, State.decide_fixed, State.pruneKv_fixed, State.setPrt_fixed, State.modPrt_fixed, State.prtReady_fixed, State.resumePrt_fixed]
    | refine (State.fixed_foldl _ _ _ fun t x => ?_).trans ?_
    | refine (State.fixed_foldl_fst _ _ _ fun t x => ?_).trans ?_
    | refine (State.fixed_foldl_snd _ _ _ fun t x => ?_).trans ?_
    | split

theorem State.prtsEdge_fixed (s : State) :
    (State.prtsEdge s).fixed = s.fixed := by
  unfold State.prtsEdge
  repeat' first
    | with_reducible rfl
    | simp only [State.prtEdge_fixed]
    | refine (State.fixed_foldl _ _ _ fun t x => ?_).trans ?_

theorem State.importEdge_fixed (s : State) (k : Nat) :
    (State.importEdge s k).fixed = s.fixed := by
  unfold State.importEdge
  repeat' first
    | with_reducible rfl
    | simp only [State.raiseBit_fixed, State.count_fixed, State.setStr_fixed, State.pushFrame_fixed]
    | refine (State.fixed_foldl _ _ _ fun t x => ?_).trans ?_
    | refine (State.fixed_foldl_fst _ _ _ fun t x => ?_).trans ?_
    | refine (State.fixed_foldl_snd _ _ _ fun t x => ?_).trans ?_
    | split

theorem State.importStart_fixed (s : State) (k : Nat) :
    (State.importStart s k).fixed = s.fixed := by
  unfold State.importStart
  repeat' first
    | with_reducible rfl
    | simp only [State.fixed_ite, ite_self, State.dmaRead_fixed, State.setStr_fixed]
    | refine (State.fixed_foldl _ _ _ fun t x => ?_).trans ?_
    | refine (State.fixed_foldl_fst _ _ _ fun t x => ?_).trans ?_
    | refine (State.fixed_foldl_snd _ _ _ fun t x => ?_).trans ?_
    | split

theorem State.spillWanted_fixed (s : State) :
    (State.spillWanted s).fixed = s.fixed := by
  unfold State.spillWanted
  repeat' first
    | with_reducible rfl
    | simp only [State.fixed_ite, State.spillPage_fixed]
    | refine (State.fixed_foldl _ _ _ fun t x => ?_).trans ?_
    | refine (State.fixed_foldl_fst _ _ _ fun t x => ?_).trans ?_
    | refine (State.fixed_foldl_snd _ _ _ fun t x => ?_).trans ?_
    | split

theorem State.prefetchEdge_fixed (s : State) (from_ : Nat) :
    (State.prefetchEdge s from_).fixed = s.fixed := by
  unfold State.prefetchEdge
  repeat' first
    | with_reducible rfl
    | simp only [State.fixed_ite, ite_self, State.count_fixed, State.prefetch_fixed, State.raiseFirst_fixed]
    | refine (State.fixed_foldl _ _ _ fun t x => ?_).trans ?_

theorem State.seat_fixed (s : State) (c : Cmd) (p : Nat) (handle : Nat) :
    (State.seat s c p handle).fixed = s.fixed := by
  unfold State.seat
  repeat' first
    | with_reducible rfl
    | simp only [State.fixed_ite, ite_self, State.raiseBit_fixed, State.count_fixed, State.trace_fixed, State.decide_fixed, State.modStr_fixed, State.modSeq_fixed, State.freeSeq_fixed, State.freeStr_fixed, State.wakeSeq_fixed, State.fitCheck_fixed, State.refuseCmd_fixed]
    | refine (State.fixed_foldl _ _ _ fun t x => ?_).trans ?_
    | refine (State.fixed_foldl_fst _ _ _ fun t x => ?_).trans ?_
    | refine (State.fixed_foldl_snd _ _ _ fun t x => ?_).trans ?_
    | split

theorem State.check11_fixed (s : State) (c : Cmd) :
    (State.check11 s c).fixed = s.fixed := by
  unfold State.check11
  repeat' first
    | with_reducible rfl
    | simp only [State.fixed_ite, ite_self, State.seat_fixed]
    | refine (State.fixed_foldl _ _ _ fun t x => ?_).trans ?_
    | refine (State.fixed_foldl_fst _ _ _ fun t x => ?_).trans ?_
    | refine (State.fixed_foldl_snd _ _ _ fun t x => ?_).trans ?_
    | split

theorem State.snapEdge_fixed (s : State) :
    (State.snapEdge s).fixed = s.fixed := by
  unfold State.snapEdge
  repeat' first
    | with_reducible rfl
    | simp only [State.fixed_mk, State.dmaWrite_fixed]
    | refine (State.fixed_foldl _ _ _ fun t x => ?_).trans ?_
    | refine (State.fixed_foldl_fst _ _ _ fun t x => ?_).trans ?_
    | refine (State.fixed_foldl_snd _ _ _ fun t x => ?_).trans ?_
    | split

theorem State.spreadStrokes_fixed (s : State) (t : State) :
    (s.spreadStrokes t).fixed = t.fixed := by
  unfold State.spreadStrokes
  refine State.fixed_foldl _ _ _ fun u x => ?_
  split
  · rfl
  · split
    · split
      · rfl
      · exact State.leaderStroke_fixed ..
    · exact State.leaderStroke_fixed ..

theorem State.dropRec_fixed (s : State) :
    (State.dropRec s).fixed = s.fixed := by
  unfold State.dropRec
  repeat' first
    | with_reducible rfl
    | simp only [State.fixed_mk, State.fixed_ite, ite_self, State.raiseBit_fixed, State.count_fixed]

theorem State.stageRec_fixed (s : State) (p : Nat) (unit : Nat) (a : Nat) (b : Nat) :
    (State.stageRec s p unit a b).fixed = s.fixed := by
  unfold State.stageRec
  repeat' first
    | with_reducible rfl
    | simp only [State.fixed_mk, State.fixed_ite, ite_self, State.dropRec_fixed]

theorem State.takeRec_fixed (s : State) :
    (State.takeRec s).fixed = s.fixed := by
  unfold State.takeRec
  repeat' first
    | with_reducible rfl
    | simp only [State.fixed_mk, State.fixed_ite, ite_self, State.stageRec_fixed]
    | refine (State.fixed_foldl _ _ _ fun t x => ?_).trans ?_
    | refine (State.fixed_foldl_fst _ _ _ fun t x => ?_).trans ?_
    | refine (State.fixed_foldl_snd _ _ _ fun t x => ?_).trans ?_
    | split

theorem State.writeRec_fixed (s : State) (r : TraceRec) :
    (State.writeRec s r).fixed = s.fixed := by
  unfold State.writeRec
  repeat' first
    | with_reducible rfl
    | simp only [State.fixed_mk, State.fixed_ite, ite_self, State.wr_fixed, State.raiseBit_fixed, State.count48_fixed, State.dmaWrite_fixed, State.dropRec_fixed]

theorem State.drainTrace_fixed (s : State) :
    (State.drainTrace s).fixed = s.fixed := by
  unfold State.drainTrace
  repeat' first
    | with_reducible rfl
    | simp only [State.fixed_mk, State.fixed_ite, State.writeRec_fixed]
    | refine (State.fixed_foldl _ _ _ fun t x => ?_).trans ?_
    | refine (State.fixed_foldl_fst _ _ _ fun t x => ?_).trans ?_
    | refine (State.fixed_foldl_snd _ _ _ fun t x => ?_).trans ?_
    | split

theorem State.pcmFrame_fixed (s : State) (p : Nat) (dir : Nat) (bits : Nat) :
    (State.pcmFrame s p dir bits).fixed = s.fixed := by
  unfold State.pcmFrame
  repeat' first
    | with_reducible rfl
    | simp only [State.fixed_ite, ite_self, State.count_fixed, State.raiseFirst_fixed]

theorem State.corrected_fixed (s : State) (n : Nat) (k : Nat) :
    (State.corrected s n k).fixed = s.fixed := by
  unfold State.corrected
  repeat' first
    | with_reducible rfl
    | simp only [State.fixed_ite, ite_self, State.raiseBit_fixed, State.count_fixed]

theorem State.spokeFault_fixed (s : State) (k : Nat) (code : Nat) (p : Option Nat) :
    (State.spokeFault s k code p).fixed = s.fixed := by
  unfold State.spokeFault
  repeat' first
    | with_reducible rfl
    | simp only [State.raiseBit_fixed, State.recordErrAt_fixed, State.jobFault_fixed]
    | refine (State.fixed_foldl _ _ _ fun t x => ?_).trans ?_
    | refine (State.fixed_foldl_fst _ _ _ fun t x => ?_).trans ?_
    | refine (State.fixed_foldl_snd _ _ _ fun t x => ?_).trans ?_
    | split

theorem State.sramLost_fixed (s : State) (k : Nat) (off : Nat) :
    (State.sramLost s k off).fixed = s.fixed := by
  unfold State.sramLost
  repeat' first
    | with_reducible rfl
    | simp only [State.fixed_ite, ite_self, State.wr_fixed, State.count_fixed, State.setSpoke_fixed, State.failSpoke_fixed, State.spokeFault_fixed]

theorem State.residueLost_fixed (s : State) (k : Nat) :
    (State.residueLost s k).fixed = s.fixed := by
  unfold State.residueLost
  repeat' first
    | with_reducible rfl
    | simp only [State.fixed_ite, ite_self, State.count_fixed, State.setSpoke_fixed, State.failSpoke_fixed, State.spokeFault_fixed]

theorem State.spareFails_fixed (s : State) (r : Nat) :
    (State.spareFails s r).fixed = s.fixed := by
  unfold State.spareFails
  repeat' first
    | with_reducible rfl
    | simp only [State.recordErrAt_fixed, State.journal_fixed, State.setSpoke_fixed, State.loseRow_fixed]
    | refine (State.fixed_foldl _ _ _ fun t x => ?_).trans ?_
    | refine (State.fixed_foldl_fst _ _ _ fun t x => ?_).trans ?_
    | refine (State.fixed_foldl_snd _ _ _ fun t x => ?_).trans ?_
    | split

theorem State.rebuildRow_fixed (s : State) (r : Nat) (spareGood : Bool) :
    (State.rebuildRow s r spareGood).fixed = s.fixed := by
  unfold State.rebuildRow
  repeat' first
    | with_reducible rfl
    | simp only [State.fixed_ite, ite_self, State.setMem_fixed, State.modPrt_fixed, State.renumberRow_fixed, State.spareFails_fixed]

theorem State.buildDone_fixed (s : State) (p : Nat) :
    (State.buildDone s p).fixed = s.fixed := by
  unfold State.buildDone
  repeat' first
    | with_reducible rfl
    | simp only [State.log_fixed, State.setPrt_fixed]
    | refine (State.fixed_foldl _ _ _ fun t x => ?_).trans ?_
    | refine (State.fixed_foldl_fst _ _ _ fun t x => ?_).trans ?_
    | refine (State.fixed_foldl_snd _ _ _ fun t x => ?_).trans ?_
    | split

theorem State.handoffArrives_fixed (s : State) (producer : Nat) (consumer : Nat) :
    (State.handoffArrives s producer consumer).fixed = s.fixed := by
  unfold State.handoffArrives
  repeat' first
    | with_reducible rfl
    | simp only [State.fixed_mk, State.deliver_fixed, State.boundary_fixed]
    | refine (State.fixed_foldl _ _ _ fun t x => ?_).trans ?_
    | refine (State.fixed_foldl_fst _ _ _ fun t x => ?_).trans ?_
    | refine (State.fixed_foldl_snd _ _ _ fun t x => ?_).trans ?_
    | split

theorem State.digestFails_fixed (s : State) (p : Nat) :
    (State.digestFails s p).fixed = s.fixed := by
  unfold State.digestFails
  repeat' first
    | with_reducible rfl
    | simp only [State.raiseBit_fixed, State.count_fixed, State.recordErrAt_fixed, State.slotLost_fixed]

theorem State.spilled_fixed (s : State) (k : Nat) (tensor : Nat) (ring : Nat) :
    (State.spilled s k tensor ring).fixed = s.fixed := by
  unfold State.spilled
  repeat' first
    | with_reducible rfl
    | simp only [State.count_fixed, State.trace_fixed, State.dmaWrite_fixed, State.setPage_fixed, State.pruneKv_fixed, State.serveWants_fixed, State.modSeq_fixed, State.prefetch_fixed]
    | refine (State.fixed_foldl _ _ _ fun t x => ?_).trans ?_
    | refine (State.fixed_foldl_fst _ _ _ fun t x => ?_).trans ?_
    | refine (State.fixed_foldl_snd _ _ _ fun t x => ?_).trans ?_
    | split

theorem State.fetched_fixed (s : State) (k : Nat) (tensor : Nat) (ring : Nat) (good : Bool) :
    (State.fetched s k tensor ring good).fixed = s.fixed := by
  unfold State.fetched
  repeat' first
    | with_reducible rfl
    | simp only [State.fixed_ite, ite_self, State.raiseBit_fixed, State.count_fixed, State.trace_fixed, State.recordErrAt_fixed, State.readEnds_fixed, State.countObj_fixed, State.setPage_fixed, State.endPrefetch_fixed, State.boundary_fixed]
    | refine (State.fixed_foldl _ _ _ fun t x => ?_).trans ?_
    | refine (State.fixed_foldl_fst _ _ _ fun t x => ?_).trans ?_
    | refine (State.fixed_foldl_snd _ _ _ fun t x => ?_).trans ?_
    | split

theorem State.exported_fixed (s : State) (order : Nat) :
    (State.exported s order).fixed = s.fixed := by
  unfold State.exported
  repeat' first
    | with_reducible rfl
    | simp only [State.decide_fixed]

theorem State.dumpEnds_fixed (s : State) (fail : Option Nat) :
    (State.dumpEnds s fail).fixed = s.fixed := by
  unfold State.dumpEnds
  repeat' first
    | with_reducible rfl
    | simp only [State.fixed_mk, State.raiseBit_fixed, State.dmaWrite_fixed, State.recordDma_fixed]
    | refine (State.fixed_foldl _ _ _ fun t x => ?_).trans ?_
    | refine (State.fixed_foldl_fst _ _ _ fun t x => ?_).trans ?_
    | refine (State.fixed_foldl_snd _ _ _ fun t x => ?_).trans ?_
    | split

theorem State.snapEnds_fixed (s : State) (fail : Option Nat) :
    (State.snapEnds s fail).fixed = s.fixed := by
  unfold State.snapEnds
  repeat' first
    | with_reducible rfl
    | simp only [State.fixed_mk, State.setFld_fixed, State.raiseBit_fixed, State.recordDma_fixed]
    | refine (State.fixed_foldl _ _ _ fun t x => ?_).trans ?_
    | refine (State.fixed_foldl_fst _ _ _ fun t x => ?_).trans ?_
    | refine (State.fixed_foldl_snd _ _ _ fun t x => ?_).trans ?_
    | split

theorem State.pageFails_fixed (s : State) (k : Nat) (t : Nat) (r : Nat) :
    (State.pageFails s k t r).fixed = s.fixed := by
  unfold State.pageFails
  repeat' first
    | with_reducible rfl
    | simp only [State.fixed_ite, ite_self, State.recordErrAt_fixed, State.readEnds_fixed, State.setPage_fixed]
    | refine (State.fixed_foldl _ _ _ fun t x => ?_).trans ?_
    | refine (State.fixed_foldl_fst _ _ _ fun t x => ?_).trans ?_
    | refine (State.fixed_foldl_snd _ _ _ fun t x => ?_).trans ?_
    | split

theorem State.transferFails_fixed (s : State) (n : Nat) (kind : Nat) (a : Transfer) :
    (State.transferFails s n kind a).fixed = s.fixed := by
  unfold State.transferFails
  repeat' first
    | with_reducible rfl
    | simp only [State.fixed_mk, State.fixed_ite, ite_self, State.readEnds_fixed, State.decide_fixed, State.modPrt_fixed, State.failLoad_fixed, State.importDone_fixed, State.visited_fixed, State.pageFails_fixed]
    | refine (State.fixed_foldl _ _ _ fun t x => ?_).trans ?_
    | refine (State.fixed_foldl_fst _ _ _ fun t x => ?_).trans ?_
    | refine (State.fixed_foldl_snd _ _ _ fun t x => ?_).trans ?_
    | split

theorem State.modFn_fixed (s : State) (n : Nat) (f : FnCfg → FnCfg) :
    (State.modFn s n f).fixed = s.fixed := by
  unfold State.modFn
  repeat' first
    | with_reducible rfl
    | simp only [State.fixed_mk, State.flushHeld_fixed]

theorem State.modPf_fixed (s : State) (f : PfCfg → PfCfg) :
    (State.modPf s f).fixed = s.fixed := by
  unfold State.modPf
  repeat' first
    | with_reducible rfl
    | simp only [State.fixed_mk]

theorem State.configure_fixed (s : State) (n : Nat) (a : CfgField) :
    (State.configure s n a).fixed = s.fixed := by
  unfold State.configure
  repeat' first
    | with_reducible rfl
    | simp only [State.fixed_ite, ite_self, State.ltrUpdate_fixed, State.modFn_fixed, State.modPf_fixed]
    | refine (State.fixed_foldl _ _ _ fun t x => ?_).trans ?_
    | refine (State.fixed_foldl_fst _ _ _ fun t x => ?_).trans ?_
    | refine (State.fixed_foldl_snd _ _ _ fun t x => ?_).trans ?_
    | split

theorem State.setMsix_fixed (s : State) (n : Nat) (v : Nat) (e : MsixEntry) :
    (State.setMsix s n v e).fixed = s.fixed := by
  unfold State.setMsix
  repeat' first
    | with_reducible rfl
    | simp only [State.fixed_mk, State.flushHeld_fixed]

theorem State.noPartner_fixed (s : State) (p : Nat) :
    (State.noPartner s p).fixed = s.fixed := by
  unfold State.noPartner
  repeat' first
    | with_reducible rfl
    | simp only [State.raiseBit_fixed, State.portDown_fixed]

theorem State.endPairing_fixed (s : State) (p : Nat) :
    (State.endPairing s p).fixed = s.fixed := by
  unfold State.endPairing
  repeat' first
    | with_reducible rfl
    | simp only [State.failPairing_fixed]
    | refine (State.fixed_foldl _ _ _ fun t x => ?_).trans ?_
    | refine (State.fixed_foldl_fst _ _ _ fun t x => ?_).trans ?_
    | refine (State.fixed_foldl_snd _ _ _ fun t x => ?_).trans ?_
    | split

theorem State.withOffer_fixed (s : State) (p : Nat) (sent : Bool) (f : State → MigOut → State) (h : ∀ t x, (f t x).fixed = t.fixed) :
    (State.withOffer s p sent f).fixed = s.fixed := by
  unfold State.withOffer
  repeat' first
    | with_reducible rfl
    | simp only [h]
    | refine (State.fixed_foldl _ _ _ fun t x => ?_).trans ?_
    | refine (State.fixed_foldl_fst _ _ _ fun t x => ?_).trans ?_
    | refine (State.fixed_foldl_snd _ _ _ fun t x => ?_).trans ?_
    | split

theorem State.migComplete_fixed (s : State) (p : Nat) (bytes : Nat) :
    (State.migComplete s p bytes).fixed = s.fixed := by
  unfold State.migComplete
  repeat' first
    | with_reducible rfl
    | simp only [State.fixed_mk]
    | refine (State.fixed_foldl _ _ _ fun t x => ?_).trans ?_
    | refine (State.fixed_foldl_fst _ _ _ fun t x => ?_).trans ?_
    | refine (State.fixed_foldl_snd _ _ _ fun t x => ?_).trans ?_
    | split

theorem State.migDropped_fixed (s : State) (p : Nat) :
    (State.migDropped s p).fixed = s.fixed := by
  unfold State.migDropped
  repeat' first
    | with_reducible rfl
    | simp only [State.trace_fixed, State.dropMigIn_fixed]
    | refine (State.fixed_foldl _ _ _ fun t x => ?_).trans ?_
    | refine (State.fixed_foldl_fst _ _ _ fun t x => ?_).trans ?_
    | refine (State.fixed_foldl_snd _ _ _ fun t x => ?_).trans ?_
    | split

end Sys2Proof.Machine
end

