-- ==== Sys2Proof/Laws/Step.lean ====
section
/-! SUPPORT. What every command can do, said once: all but the five rows that reset the part or move the tick number answer with the
queue, the tick number and the fuses kept. -/
namespace Sys2Proof.Machine
open Sys2Proof

theorem runOpcode_sound (op rider ring : Nat) (d : Desc) (s : State) : Sound s (runOpcode op rider ring d s) := runCmdIf_sound _ _ _

/-- The rows that reset the part, and the tick edge. -/
def resetsOrTicks : Instr → Bool
  | .vinRise | .vinLoss | .resetNPulse _ | .coldReset _ | .tickEdge _ _ => true
  | _ => false

/-- Every other command keeps the queue, the tick number and the fuses, and stops only at an event that the block cannot show. -/
theorem exec_sound (c : Instr) (s : State) (h : resetsOrTicks c = false) : Sound s (exec c s) := by
  cases c
  case vinRise => simp [resetsOrTicks] at h
  case vinLoss => simp [resetsOrTicks] at h
  case resetNPulse => simp [resetsOrTicks] at h
  case coldReset => simp [resetsOrTicks] at h
  case tickEdge => simp [resetsOrTicks] at h
  all_goals simp only [exec]
  all_goals first
    | exact runCmdIf_sound _ _ _
    | exact runCmd_sound _ _
    | exact runCmdAt_sound _ _ _ _
    | exact runIf_sound _ _ _
    | exact runRegIf_sound _ _ _
    | exact runAt_sound _ _ _ _
    | exact runOpcode_sound _ _ _ _ _

/-- A tick edge keeps the queue and the fuses, and adds one to the tick number (R19). -/
theorem execTickEdge_next {a : AudioIn} {u : Nat} {s t : State} (ha : s.alive = true) (h : execTickEdge a u s = .next t) :
    t.tick.number = s.tick.number + 1 ∧ t.pending = s.pending ∧ s.now ≤ t.now ∧ SameFuses s.part t.part := by
  unfold execTickEdge at h
  rw [if_neg (by simp [ha])] at h
  split at h
  · cases h
    have k := (State.waitTo_kept s s.edgeDue).trans (State.keepCmd_kept (State.edge a u) (s.waitTo s.edgeDue))
    exact ⟨rfl, k.pending, k.now, k.fuses⟩
  · cases h

end Sys2Proof.Machine
end

