-- ==== Sys2Proof/WellFormed.lean ====
section
/-! DEFINITION. Which terms of `Instr` are commands of the block: every number in the range its table gives (units,
rings, riders, vectors, agents), every byte list of the length its structure has. A term that is not well formed names no
event of the block. -/
namespace Sys2Proof

/-- Agents that access registers (Table 4-3): riders 0 to 15, the four hub cores, the tandem link and the debug port. -/
def agentOk (a : Nat) : Bool := a < 16 || (0x10 ≤ a && a ≤ 0x13) || (0x20 ≤ a && a ≤ 0x22)

/-- A rider and one of its rings (R186, R187). -/
def ringOk (n q : Nat) : Bool := n < 16 && q < 4

/-- A way in which a host transfer fails (R175), if it does. -/
def failOk (f : Option Nat) : Bool := match f with
  | some k => k < 4
  | none => true

/-- A submission descriptor fits its 64 bytes (Table 7-1). -/
def Desc.wf (d : Desc) : Bool :=
  d.opcode < 256 && d.flags < 256 && d.tag < 65536 && d.target < 2 ^ 32 && d.dataAddr < 2 ^ 64 && d.dataLen < 2 ^ 24
    && d.zero13 < 256 && d.outLen < 2 ^ 24 && d.zero17 < 256 && d.outAddr < 2 ^ 64 && d.ops.length = 32 && failOk d.dataFail

/-- A register offset in BAR0 (R95). -/
def offOk (off : Nat) : Bool := off < 0x20_0000

/-- What cold boot finds names spokes, channels and rows that exist (R131 to R134). -/
def BootIn.wf (b : BootIn) : Bool :=
  b.failedSpokes.all (· < 72) && b.failedChannels.all (· < 32) && b.failedRim.all (· < 8)

/-- Batches of the audio section name sources, sinks and ports that exist (R464, R489). -/
def AudioIn.wf (a : AudioIn) : Bool :=
  a.captured.all (fun x => x.1 < 16) && a.strobes.all (fun x => x.1 < 16) && a.rings.all (fun x => x.1 < 16)

/-- A value fits a field of configuration space. -/
def CfgField.wf : CfgField → Bool
  | .maxPayload v => v = 128 || v = 256 || v = 512
  | .maxRead v => v = 128 || v = 256 || v = 512 || v = 1024 || v = 2048 || v = 4096
  | .numVFs v => v ≤ 15
  | .l1Substates v => v < 3
  | .d3hot _ | .busMaster _ | .msixEnable _ | .msixMask _ | .pmeEnable _ | .cplTimeout _ | .vfEnable | .ari _
  | .ltrEnable _ | .aspmL1 _ => true

/-- The well-formed commands. -/
def Instr.wf : Instr → Bool
  | .coldReset b | .deviceReset b => b.wf
  | .tickEdge a _ | .routerFrameEdge a => a.wf
  | .rstCtlDeviceReset a _ | .pwrStateRequest a _ | .tickCtlWrite a _ | .prsCtlClose a _ | .hubIfaceOffer a _
  | .fwOpRollback a _ | .fwOpConfirm a _ | .fwOpReset a _ | .fwOpInvalid a _ | .jnlReadIdx a _ | .jnlDumpGo a _
  | .strReadIdx a _ | .kvcSeqReadIdx a _ | .safCtlForce a _ | .safCtlRelease a _ | .safCtlStore a _ | .safPrivClear a _
  | .safTestCeiling a _ | .safTestTag a _ | .safTestLamp a _ | .trcLogRead a _ | .trcObjRead a _ | .trcSnapGo a _ => agentOk a
  | .fwOpWrite a _ _ _ | .fwOpRecoveryRun a _ _ => agentOk a
  | .sinkDecisionPoint n | .sinkUnderrun n | .sinkOverrun n => n < 16
  | .pcmFrame p d _ | .pcmRateMeasure p d _ | .pcmClockLost p d | .pcmClockReturn p d => p < 2 && d < 2
  | .audioPortFail pg _ => 0x012 ≤ pg && pg ≤ 0x01D
  | .thmSample r => r.all fun x => x.1 < 16
  | .vinSample mv => mv < 65536
  | .hostAccessInAon a off be _ => agentOk a && offOk off && be < 256
  | .tandemSbWake p | .tanDetectTimeout p | .tanReplayTimeout p | .tanPairTimeout p | .tanPartnerDetect p | .migLate p =>
    p < 2
  | .hdrClaimClaim a pg | .hdrClaimCommit a pg | .hdrClaimAbandon a pg => agentOk a && pg < 512
  | .claimExpire pg => pg < 512
  | .hdrIntStatusClear a pg _ | .hdrIntEnableWrite a pg _ | .hdrIntSet a pg _ | .hdrErrClear a pg _ => agentOk a && pg < 512
  | .registerWrite a off be _ => agentOk a && offOk off && be < 256
  | .counterClear a off _ => agentOk a && offOk off
  | .hubRestartRequest a h _ => agentOk a && h < 4
  | .hubWatchdogExpire h _ | .hubFault h _ | .hubRestartDone h | .hubRestartTimeout h _ => h < 4
  | .retrainDue c | .spokeRehome c => c < 32
  | .retrainWindowDone c _ => c < 32
  | .patrolScrub c g k => c < 32 && g < 512 && k < 2 ^ 32
  | .eccReadError c a k => c < 32 && a < 2 ^ 30 && k < 3
  | .sramError k o _ => k < 72 && o < 2 ^ 20
  | .residueMismatch k => k < 72
  | .rimCheckFail k p _ => k < 72 && p < 8
  | .partitionResetCleared p | .prtBuildDone p | .strokeEnd p | .pannierStarveAbandon p => p < 8
  | .partitionRebuild r _ => r < 8
  | .pannierDigestCheck p _ _ => p < 8
  | .descriptorFetch n q l => ringOk n q && l.all Desc.wf
  | .rdrSqTail a n q _ | .rdrCqHead a n q _ => agentOk a && ringOk n q
  | .nop n q d | .jnlMark n q d | .outRebind n q d | .casLoad n q d | .casEvict n q d | .casReplace n q d
  | .adpLoad n q d | .adpUnload n q d | .prtBuild n q d | .prtDiscard n q d | .strOpen n q d | .strClose n q d
  | .strExport n q d | .seqSubmit n q d | .seqAppend n q d | .seqCancel n q d | .lnkAudSet n q d | .tanPair n q d
  | .migrate n q d | .jnlErase n q d | .sigPolicy n q d | .privPolicy n q d | .debugUnlock n q d | .sealBurn n q d =>
    ringOk n q && d.wf
  | .imageHeaderArrived _ b => b.length = 256
  | .rdrCtlReset a n _ => agentOk a && n < 16
  | .functionLevelReset n | .riderResetEnd n | .deliveryHoldEnd n => n < 16
  | .hostLinkReset c => c < 4
  | .linkUp w r | .linkWidthSpeedChange w r => w < 32 && r < 16
  | .dmaFailure n k _ => n < 16 && k < 4
  | .jnlDumpDone f | .trcSnapDone f => failOk f
  | .msixSend n v => n < 16 && v < 64
  | .tanPortRetrain a p _ | .tanPortUnpair a p _ | .tanPortWakePeer a p _ => agentOk a && p < 2
  | .tanTrainAlign p l | .tanLaneLoss p l => p < 2 && l < 16
  | .hello p _ c q w a b t r => p < 2 && c < 8 && q < 2 && w < 8 && a < 256 && b < 256 && t < 4 && r < 256
  | .tanFlitReceive p f => p < 2 && f.length = 256
  | .tanNak p a => p < 2 && a < 65536
  | .pairReq p a b => p < 2 && a < 8 && b < 8
  | .pairAck p a => p < 2 && a < 8
  | .tick p _ l h w r _ => p < 2 && l < 4 && h < 16 && w < 65536 && r < 256
  | .tanLockLost r => r < 4
  | .stroke p sl g _ _ _ => p < 2 && sl < 16 && g < 4
  | .commit p sl _ => p < 2 && sl < 16
  | .report p sl _ _ => p < 2 && sl < 16
  | .groupReset p sl _ => p < 2 && sl < 16
  | .migOffer p _ _ _ _ _ _ | .migAccept p _ | .migRefuse p _ | .migDone p _ | .migAbandon p _ => p < 2
  | .xfer p _ _ _ | .coll p _ _ _ => p < 2
  | .act p _ _ _ => p < 2
  | .ceilingExceedance o | .ceilingLongEval o | .muteCheckFail o => o < 4
  | .safCeilClear a o _ => agentOk a && o < 4
  | .gateCheckFail i => i < 16
  | .islandStartupTests f | .periodicSelfTest f => f < 1024
  | .configSpaceWrite n f => n < 16 && f.wf
  | .msixTableWrite n v _ _ _ => n < 16 && v < 64
  | .vinRise | .vinLoss | .resetNPulse _ | .fwBankSelect | .bootWaitDriver | .tickSourceLost
  | .refLost | .headwindPowerDecay | .headwindThermalDecay | .dvfsCapLower | .dvfsCapRaise | .powerTransitionDone
  | .aonTimerExpire | .presencePress | .presenceWindowExpire | .pageHubHoldTimeout | .fwOpDone | .handoffArrival _ _
  | .kvSpillDone _ _ _ | .kvPrefetchDone _ _ _ _ | .imageTablesArrived _ _ | .imageLastByte _ _ | .strExportWritten _
  | .strImportDone _ _ | .vfEnableClear | .l1IdleEntry | .tanLockAchieved | .lockstepMismatch
  | .lampSenseSample _ _ | .lampOffCheck _ | .islandThermalSample _ | .islandThermalClear
  | .islandSensorCompare | .traceRecord | .traceStagingDrain | .perstNDeassert | .presNRelease => true

end Sys2Proof
end

