-- ==== Sys2Proof/Tests/Slice0.lean ====
section
/-! SUPPORT. Tests of the model: the well-formedness checks, the spec's worked values on single operations, and for each statement with
hypotheses a concrete state that meets them. -/
namespace Sys2Proof.Tests
open Sys2Proof Sys2Proof.Machine

/-! ### States -/

/-- A hub that runs. -/
def hubOn : Hub := { Hub.zero with run := .running }

/-- A block that serves: firmware runs, the tick runs, the four hubs run, the host link is up and function 0 may issue requests; its ring
0 is enabled, has 16 slots and holds four descriptors. -/
def live : State :=
  let s := State.reset
  let s := { s with
    boot := { s.boot with fw := .running, stage := 8, refLocked := true }
    tick := { s.tick with running := true }
    hubs := [(0, hubOn), (1, hubOn), (2, hubOn), (3, hubOn)]
    isl := { s.isl with started := true, kickRun := false }
    link := { s.link with perstLow := false, fns := [(0, { FnCfg.zero with bme := true, msixEn := true })] } }
  (((s.wr Reg.LNK_STATUS 1).wr (Reg.RDR_SQ_CTL 0 0) 0x104).wr (Reg.RDR_SQ_TAIL 0 0) 4).wr (Reg.RDR_CQ_CTL 0 0) 0x10004

/-- `live` with a presence window open. -/
def present : State := { live with window := some { since := 0, used := 0 } }

/-- A descriptor with an opcode, a target and operand bytes. -/
def desc (op target : Nat) (ops : List Nat) : Desc :=
  { opcode := op, flags := 0, tag := 7, target := target, dataAddr := 0, dataLen := 0, zero13 := 0, outLen := 0, zero17 := 0, outAddr := 0,
    ops := ops.map (BitVec.ofNat 8) ++ List.replicate (32 - ops.length) 0, data := [], dataFail := none }

/-- A command's owner: rider 0, ring 0. -/
def own (order : Nat) : Owner := { rider := 0, sq := 0, cq := 0, order := order, tag := 7, seq := 1, epoch := 0, op := 0 }

/-- A graph for up to four streams, or four sequences, at 16 kHz. -/
def graph (kind : Nat) : Graph := { Graph.empty with kind := kind, maxPel := 4, maxPos := 1, inRate := 16000 }

/-- A partition of a slot, on row `p`, in a state. -/
def part (p slot graph : Nat) (st : PrtState) : Prt := { Prt.new (2 ^ p) slot graph 4 0 0 0 0 false true false with st := st, built := true }

/-- A stroke in flight. -/
def aStroke : Stroke := { kind := .main, gear := 0, items := [], start := 0, base := 0, crossed := false, waiting := true, number := 0 }

/-- `present` with two graphs in slot 0, partitions 0 (streams) and 1 (sequences) READY, stream 0 RUNNING and sequence 0 IDLE; slot 1 needs a
reload; output 0 of PCM port 0 runs at 16 kHz. -/
def work : State :=
  let s := present
  let s := { s with
    mem := { s.mem with chans := (List.range 32).map fun n => (n, { Channel.zero with st := .active }) }
    slots := [(0, { Slot.blank with st := .resident, gears := 1, rows := 3, graphs := [graph 0, graph 1] }), (1, { Slot.blank with st := .needsReload })]
    prts := [(0, part 0 0 0 .ready), (1, part 1 0 1 .ready)]
    streams := [(0, { Stream.new (graph 0) (own 0) 0 0xFF 0 0 0 with st := .running })]
    seqs := [(0, Seq.new (own 0) 1 0xFF 0xFF 0 false 0 8 [])] }
  (s.wr (Reg.AUD_SINK 0) 1).wr (pcmRate 0 0) 16000

/-- `Passes` as one decidable proposition. -/
abbrev Passable (s : State) (n q : Nat) (d : Desc) : Prop :=
  s.alive = true ∧ s.visitOk n q [d] = true ∧ (∀ c ∈ s.link.cmds, c.stage ≠ .fenced)
    ∧ (d.flags % 2 = 1 → ∀ c ∈ s.link.cmds, c.own.rider = n → c.own.sq = q → c.open_ = false) ∧ (s.entered n q d).checks n d = none

theorem passes_of {s : State} {n q : Nat} {d : Desc} (h : Passable s n q d) : Passes s n q d := ⟨h.1, h.2.1, h.2.2.1, h.2.2.2.1, h.2.2.2.2⟩

/-- `Reaches` for a page's block and instance, as one decidable proposition. -/
abbrev Reached (s : State) (agent off : Nat) (b : Block) (inst : Nat) : Prop :=
  s.alive = true ∧ (agent < 0x10 → s.riderExists agent = true ∧ s.pwr.st ≠ .aon) ∧ off % 4 = 0
    ∧ (pageOf (off / 0x1000) = some (b, inst) ∧ s.responds b inst = true ∧ permitted agent b inst (off % 0x1000) true = true
      ∧ b.present s.part.variant inst = true) ∧ (specAt off).isSome = true ∧ Tab.find s.regs.commits (off / 0x1000) = none

theorem reaches_of {s : State} {agent off : Nat} {b : Block} {inst : Nat} (h : Reached s agent off b inst) : Reaches s agent off :=
  ⟨h.1, h.2.1, h.2.2.1, ⟨b, inst, h.2.2.2.1⟩, h.2.2.2.2.1, h.2.2.2.2.2⟩

/-! ### Witnesses: the whole block, and registers -/

theorem witness_StepRunsTheFront : ({ live with pending := [.refLost, .vinLoss] } : State).pending = .refLost :: [.vinLoss] := by decide
theorem witness_IdleStep : live.pending = [] := by decide
theorem witness_NoCommandIsRefused : exec (.strokeEnd 0) live = .fault .noSuchEvent := rfl
theorem witness_WritesNeverStop : isWrite (.safCtlForce 0 1) = true := by decide
theorem witness_DeadPart : ({ live with pwr := { live.pwr with st := .off } } : State).alive = false
    ∧ ({ live with pwr := { live.pwr with factory := true } } : State).alive = false := by decide
theorem witness_FusesStay : SameFuses Part.fresh live.part ∧ ∃ t, step live = .next t := ⟨⟨rfl, rfl, rfl, rfl, rfl, fun _ => by contradiction⟩, _, rfl⟩
theorem witness_FusesStay_sealed : SameFuses { Part.fresh with sealFuse := true } { Part.fresh with sealFuse := true } := ⟨rfl, rfl, rfl, rfl, rfl, fun _ => rfl⟩
theorem witness_TickNumber : ∃ t, step { live with pending := [.refLost] } = .next t := ⟨_, rfl⟩
theorem witness_Queue : ∃ t, step { live with pending := [.safCtlForce 0 1, .refLost] } = .next t := ⟨_, rfl⟩

/-- A block whose 32 channels are in self-refresh, as no partition uses them. -/
def resting : State := { live with mem := { live.mem with chans := (List.range 32).map fun n => (n, { Channel.zero with st := .selfRefresh }) } }

theorem witness_NothingFollows : Calm resting { resting with window := none } := ⟨by decide, by decide, by decide⟩

theorem witness_HeaderWrites : pageOf 0x001 = some (.pwr, 0) ∧ Reaches live 0 (hdrOff 0x001 0x010) ∧ Reaches live 0 (hdrOff 0x001 0x014)
    ∧ Reaches live 0 (hdrOff 0x001 0x018) ∧ Reaches live 0 (hdrOff 0x001 0x01C) :=
  ⟨by decide, reaches_of (b := .pwr) (inst := 0) (by decide), reaches_of (b := .pwr) (inst := 0) (by decide), reaches_of (b := .pwr) (inst := 0) (by decide),
   reaches_of (b := .pwr) (inst := 0) (by decide)⟩

/-- `live` with a claim of rider 0 on a page, with a shadowed word. -/
def claimed (page agent : Nat) (l : List (Nat × Word)) : State :=
  { live with regs := { live.regs with claims := [(page, { owner := agent, since := 0, shadow := l, trigger := [] })] } }

theorem witness_Claims : pageOf 0x003 = some (.thm, 0) ∧ Reaches live 0 (hdrOff 0x003 0x024) ∧ Block.thm.claimable = true ∧ live.claimOf 0x003 = none
    ∧ Reaches (claimed 0x003 0 [(hdrOff 0x003 0x040, 0x6450)]) 0 (hdrOff 0x003 0x024)
    ∧ (claimed 0x003 0 [(hdrOff 0x003 0x040, 0x6450)]).claimOf 0x003 = some { owner := 0, since := 0, shadow := [(hdrOff 0x003 0x040, 0x6450)], trigger := [] } :=
  ⟨by decide, reaches_of (b := .thm) (inst := 0) (by decide), by decide, by decide, reaches_of (b := .thm) (inst := 0) (by decide), by decide⟩

theorem witness_Claims_commit : onlyStores .thm 0x040 = true ∧ (specAt (hdrOff 0x003 0x040)).map RegSpec.role = some .single
    ∧ (woken (claimed 0x003 0 [(hdrOff 0x003 0x040, 0x6450)]) 0).verdict .thm 0 0x040 (hdrOff 0x003 0x040) 0x6450 = .take := by decide

theorem witness_Claims_audio : pageOf 0x012 = some (.aud, 0) ∧ Block.aud.audio = true ∧ Reaches (claimed 0x012 0 []) 0 (hdrOff 0x012 0x024) :=
  ⟨by decide, by decide, reaches_of (b := .aud) (inst := 0) (by decide)⟩

theorem witness_WordWrites : Reaches live 0 (hdrOff 0x003 0x040) ∧ (specAt (hdrOff 0x003 0x040)).map (fun r => (r.role, r.rw)) = some (.single, 0xFFFF)
    ∧ live.claimOf 0x003 = none ∧ (woken live 0).verdict .thm 0 0x040 (hdrOff 0x003 0x040) 0x6867 = .take
    ∧ (woken live 0).verdict .thm 0 0x040 (hdrOff 0x003 0x040) 0x6968 = .bad ∧ Reaches (claimed 0x003 0 []) 0 (hdrOff 0x003 0x040)
    ∧ Reaches (claimed 0x003 0x11 []) 0 (hdrOff 0x003 0x040) :=
  ⟨reaches_of (b := .thm) (inst := 0) (by decide), by decide, by decide, by decide, by decide, reaches_of (b := .thm) (inst := 0) (by decide),
   reaches_of (b := .thm) (inst := 0) (by decide)⟩

theorem witness_RefusedFirmware : ({ live with boot := { live.boot with fw := .refused } } : State).boot.fw = .refused ∧ pageOf 0x001 = some (.pwr, 0) := by decide

/-- `live` with the fifteen virtual functions. -/
def virtual : State := { live with link := { live.link with pf := { live.link.pf with vfEnable := true, numVFs := 15, ari := true } } }

/-- `live` as a part with one weight stack. -/
def small : State := { live with part := { live.part with variant := .fl1H } }

theorem witness_WritesTurnedAway : virtual.riderExists 15 = true ∧ permitted 15 .pwr 0 0x064 true = false ∧ permitted 0 .stk 3 0x040 true = true
    ∧ Block.stk.present small.part.variant 3 = false ∧ pageOf 0x053 = some (.stk, 3) ∧ specAt (hdrOff 0x003 0x054) = none
    ∧ (specAt (hdrOff 0x003 0x040)).isSome = true := by decide

theorem witness_Pairs : Reaches live 0 (hdrOff 0x040 0x100) ∧ pageOf 0x040 = some (.rdr, 0)
    ∧ (specAt (hdrOff 0x040 0x120)).map (fun r => (r.role, decide (r.rw ≠ 0))) = some (.lo, true)
    ∧ (specAt (hdrOff 0x040 0x124)).map (fun r => (r.role, decide (r.rw ≠ 0))) = some (.hi, true)
    ∧ onlyStores .rdr 0x120 = true ∧ onlyStores .rdr 0x124 = true ∧ Reaches live 0 (hdrOff 0x040 0x120)
    ∧ (woken live 0).verdict .rdr 0 0x120 (hdrOff 0x040 0x120) 0x1000 = .take ∧ (woken live 0).verdict .rdr 0 0x124 (hdrOff 0x040 0x124) 1 = .take
    ∧ (woken live 0).verdict .rdr 0 0x120 (hdrOff 0x040 0x120) 0 = .take :=
  ⟨reaches_of (b := .rdr) (inst := 0) (by decide), by decide, by decide, by decide, by decide, by decide, reaches_of (b := .rdr) (inst := 0) (by decide),
   by decide, by decide, by decide⟩

theorem witness_PowerLimit : Reaches live 0 Reg.PWR_LIMIT ∧ live.claimOf 0x001 = none := ⟨reaches_of (b := .pwr) (inst := 0) (by decide), by decide⟩

theorem witness_Counters : Reaches live 0 (hdrOff 0x00C 0x068) ∧ clears .lnk 0x068 ≠ [] ∧ live.claimOf 0x00C = none ∧ hubOf .lnk 0 = none
    ∧ Reaches live 0 (hdrOff 0x060 0x064) ∧ clears .chn 0x064 ≠ [] ∧ hubOf .chn 0 = some 0 ∧ live.restarting 0 = false :=
  ⟨reaches_of (b := .lnk) (inst := 0) (by decide), by decide, by decide, by decide, reaches_of (b := .chn) (inst := 0) (by decide), by decide, by decide, by decide⟩

theorem witness_Controls : Reaches live 0 Reg.RST_CTL ∧ Reaches live 0 Reg.PWR_STATE_CTL ∧ Reaches live 0 Reg.CLK_TICK_CTL ∧ Reaches live 0 Reg.PRS_CTL
    ∧ Reaches live 0 (Reg.HUB_CTL 3) ∧ Reaches live 0 Reg.HUB_IFACE_CTL ∧ live.regs.claims = [] ∧ live.restarting 0 = false ∧ live.restarting 1 = false :=
  ⟨reaches_of (b := .rst) (inst := 0) (by decide), reaches_of (b := .pwr) (inst := 0) (by decide), reaches_of (b := .clk) (inst := 0) (by decide),
   reaches_of (b := .prs) (inst := 0) (by decide), reaches_of (b := .hub) (inst := 3) (by decide), reaches_of (b := .hub) (inst := 0) (by decide), by decide, by decide, by decide⟩

/-- `live` in another firmware state. -/
def inFw (fw : FwState) : State := { live with boot := { live.boot with fw := fw } }

theorem witness_Controls_offer : Reaches (inFw .waitDriver) 0 Reg.HUB_IFACE_CTL ∧ Reaches (inFw .booting) 0 Reg.HUB_IFACE_CTL :=
  ⟨reaches_of (b := .hub) (inst := 0) (by decide), reaches_of (b := .hub) (inst := 0) (by decide)⟩

theorem witness_FirmwareOperations : Reaches live 0 Reg.HUB_FW_CTL ∧ live.claimOf 0x008 = none ∧ live.boot.op = none ∧ live.windowStatus ≠ none
    ∧ Reaches present 0 Reg.HUB_FW_CTL ∧ present.windowStatus = none ∧ Reaches (inFw .recovery) 0 Reg.HUB_FW_CTL
    ∧ ({ live.part with bank1 := { live.part.bank1 with st := .standby } } : Part).bankIn .standby = some 1 :=
  ⟨reaches_of (b := .hub) (inst := 0) (by decide), by decide, by decide, by decide, reaches_of (b := .hub) (inst := 0) (by decide), by decide,
   reaches_of (b := .hub) (inst := 0) (by decide), by decide⟩

theorem witness_Doorbells : Reaches live 0 (Reg.RDR_SQ_TAIL 0 0) ∧ Reaches live 0 (Reg.RDR_CQ_HEAD 0 3) ∧ live.claimOf 0x040 = none
    ∧ Tab.find live.link.resetting 0 = none ∧ Word.bit (live.rd (Reg.RDR_SQ_CTL 0 0)) 8 = true :=
  ⟨reaches_of (b := .rdr) (inst := 0) (by decide), reaches_of (b := .rdr) (inst := 0) (by decide), by decide, by decide, by decide⟩

theorem witness_ReadWindows : Reaches live 0 Reg.JNL_READ_IDX ∧ Reaches live 0 Reg.STR_READ_IDX ∧ Reaches live 0 Reg.KVC_SEQ_READ_IDX
    ∧ Reaches live 0 Reg.TRC_LOG_READ ∧ Reaches live 0 Reg.TRC_OBJ_READ ∧ Reaches live 0 Reg.JNL_DUMP_CTL ∧ Reaches live 0 Reg.TRC_SNAP_CTL
    ∧ live.regs.claims = [] ∧ live.restarting 1 = false ∧ live.restarting 2 = false :=
  ⟨reaches_of (b := .jnl) (inst := 0) (by decide), reaches_of (b := .str) (inst := 0) (by decide), reaches_of (b := .kvc) (inst := 0) (by decide),
   reaches_of (b := .trc) (inst := 0) (by decide), reaches_of (b := .trc) (inst := 0) (by decide), reaches_of (b := .jnl) (inst := 0) (by decide),
   reaches_of (b := .trc) (inst := 0) (by decide), by decide, by decide, by decide⟩

/-- `virtual` with a reset of rider 15 going on. -/
def resetting : State := { virtual with link := { virtual.link with resetting := [(15, 0)], reads := [(15, 1)] } }

theorem witness_RiderResets : Reaches virtual 0 (Reg.RDR_CTL 15) ∧ virtual.claimOf 0x04F = none ∧ Tab.find virtual.link.resetting 15 = none
    ∧ virtual.linkUp = true ∧ virtual.riderExists 15 = true ∧ virtual.riderExists 0 = true ∧ virtual.link.pf.vfEnable = true ∧ resetting.resetOver 15 = true :=
  ⟨reaches_of (b := .rdr) (inst := 15) (by decide), by decide, by decide, by decide, by decide, by decide, by decide, by decide⟩

theorem witness_Kickstand : Reaches live 0 Reg.SAF_CTL ∧ live.claimOf 0x005 = none ∧ Word.bit 1 1 = false ∧ Word.bit 1 2 = false ∧ Word.bit 2 0 = false :=
  ⟨reaches_of (b := .saf) (inst := 0) (by decide), by decide, by decide, by decide, by decide⟩

theorem witness_Safety : Reaches live 0 (Reg.SAF_CEIL_STATE 3) ∧ Reaches live 0 Reg.SAF_PRIV ∧ Reaches live 0 Reg.SAF_TEST ∧ live.part.sealFuse = false
    ∧ Word.fld 15 4 28 = 0 :=
  ⟨reaches_of (b := .saf) (inst := 0) (by decide), reaches_of (b := .saf) (inst := 0) (by decide), reaches_of (b := .saf) (inst := 0) (by decide), by decide, by decide⟩

theorem witness_TandemPortWrites : Reaches live 0 (Reg.TAN_PORT_CTL 1) ∧ live.claimOf 0x021 = none ∧ live.restarting 1 = false ∧ live.pwr.st = .serve
    ∧ Word.fld 1 5 2 = 0 ∧ Word.bit 1 0 = true ∧ Word.bit 0x20 4 = false ∧ Word.bit 0x20 6 = false ∧ Word.bit 0x20 0 = live.bit (Reg.TAN_PORT_CTL 1) 0 :=
  ⟨reaches_of (b := .tan) (inst := 1) (by decide), by decide, by decide, by decide, by decide, by decide, by decide, by decide, by decide⟩

/-! ### Witnesses: commands of the rings -/

theorem witness_RingVisits : live.alive = true ∧ live.visitOk 0 0 [desc 0 0 []] = true := by decide

theorem witness_ShortCommands : Passes live 0 0 (desc 0x00 0 []) ∧ Passes live 0 0 (desc 0x01 0 [1]) ∧ Passes work 0 0 (desc 0x02 0x1000_0000 []) :=
  ⟨passes_of (by decide), passes_of (by decide), passes_of (by decide)⟩

theorem witness_ShortCommands_fence : Passes live 0 0 { desc 0x00 0 [] with flags := 1 } := passes_of (by decide)

theorem witness_ShortCommands_privileged : Passes present 0 0 (desc 0x70 0 []) ∧ Passes present 0 0 (desc 0x71 0 [1]) ∧ Passes present 0 0 (desc 0x72 0 [1])
    ∧ Passes present 0 0 (desc 0x73 0 []) ∧ Passes present 0 0 (desc 0x74 0 [0x4C, 0x41, 0x45, 0x53])
    ∧ Passes { present with part := { present.part with sealFuse := true } } 0 0 (desc 0x73 0 []) :=
  ⟨passes_of (by decide), passes_of (by decide), passes_of (by decide), passes_of (by decide), passes_of (by decide), passes_of (by decide)⟩

/-- A CAS_LOAD of one page to a slot, and to any. -/
def loadTo (slot : Nat) : Desc := { desc 0x10 (0x4000_0000 + slot) [] with dataLen := 1 }

theorem witness_CasLoad : Passes work 0 0 (loadTo 2) ∧ (work.slotD 2).st = .empty ∧ Passes work 0 0 (loadTo 1) ∧ (work.slotD 1).st = .needsReload
    ∧ Passes work 0 0 (loadTo anyIndex) ∧ (List.range 16).find? (fun j => (work.slotD j).st = .empty) = some 2 :=
  ⟨passes_of (by decide), by decide, passes_of (by decide), by decide, passes_of (by decide), by decide⟩

/-- `work` with no partition. -/
def idle : State := { work with prts := [], streams := [], seqs := [] }

theorem witness_CasEvict : Passes idle 0 0 (desc 0x11 0x4000_0000 []) ∧ (∀ x ∈ idle.prts, x.2.slot ≠ 0) ∧ (idle.slotD 0).st = .resident :=
  ⟨passes_of (by decide), by decide, by decide⟩

theorem witness_CasReplace : Passes work 0 0 { desc 0x12 0x4000_0000 [] with dataLen := 1 } ∧ (work.slotD 0).st = .resident :=
  ⟨passes_of (by decide), by decide⟩

theorem witness_AdpLoad : Passes work 0 0 { desc 0x13 0x4000_0000 [0xFF] with dataLen := 1 } ∧ Passes work 0 0 { desc 0x13 0x4000_0000 [63] with dataLen := 1 }
    ∧ (work.slotD 0).st = .resident ∧ (work.slotD 0).adapters.length < 64
    ∧ (List.range 64).find? (fun b => (Tab.find (work.slotD 0).adapters b).isNone && work.loads.all fun l => !(l.op = 0x13 && l.slot = 0 && l.adapter = b))
      = some 0 := ⟨passes_of (by decide), passes_of (by decide), by decide, by decide, by decide⟩

/-- `idle` with adapter 3 in slot 0. -/
def adapted : State := idle.setSlot 0 { idle.slotD 0 with adapters := [(3, { owner := 0, version := 0, layers := [] })] }

theorem witness_AdpUnload : Passes adapted 0 0 (desc 0x14 0x4000_0000 [3]) ∧ (adapted.slotD 0).st ≠ .replacing
    ∧ (∀ x ∈ adapted.streams, adapted.slotOf x.2.prt = 0 → x.2.adapter ≠ 3) ∧ (∀ x ∈ adapted.seqs, adapted.slotOf x.2.prt = 0 → x.2.adapter ≠ 3)
    ∧ ∀ u ∈ (adapted.slotD 0).unloads, u.1 ≠ 3 := ⟨passes_of (by decide), by decide, by decide, by decide, by decide⟩

/-- PRT_BUILD of partition 2 on row 0 and 1, of graph 1 of slot 0, with one element. -/
def build : Desc := desc 0x20 0x5000_0002 [3, 0, 1, 1]

theorem witness_PrtBuild : Passes idle 0 0 build ∧ idle.pwr.st ≠ .listen ∧ idle.prt 2 = none ∧ (∀ x ∈ idle.prts, Nat.land x.2.rows 3 = 0)
    ∧ (idle.slotD 0).graphs[1]? = some (graph 1) ∧ 1 ≤ (graph 1).maxPel
    ∧ (idle.entered 0 0 build).pannierFits 3 1 [] (graph 1) (graph 1).passPositions = true :=
  ⟨passes_of (by decide), by decide, by decide, by decide, by decide, by decide, by decide⟩

/-- `work` with no stream or sequence. -/
def empties : State := { work with streams := [], seqs := [] }

theorem witness_PrtDiscard : Passes empties 0 0 (desc 0x21 0x5000_0000 []) ∧ empties.prt 0 = some (part 0 0 0 .ready) ∧ empties.strOf 0 = []
    ∧ empties.seqOf 0 = [] ∧ ∀ c ∈ empties.link.cmds, c.stage ≠ .held ∧ c.stage ≠ .check11 :=
  ⟨passes_of (by decide), by decide, by decide, by decide, by decide⟩

/-- STR_OPEN on partition 0, of a given index, without adapter, from sink 0. -/
def openAt (k : Nat) : Desc := desc 0x30 (0x1000_0000 + k) [0, 0xFF, 0, 0]

set_option maxRecDepth 30000 in
theorem witness_StrOpen : Passes work 0 0 (openAt 1023) ∧ work.str 1023 = none ∧ Passes work 0 0 (openAt anyIndex) ∧ freeIndex work.streams 1024 = some 1
    ∧ work.replacing (work.slotOf 0) = false ∧ work.roomIn 0 = none :=
  ⟨passes_of (by decide), by decide, passes_of (by decide), by decide, by decide, by decide⟩

/-- `work` with partition 0 built on no row: its area takes no granule, which keeps the search for it short. -/
def rowless : State := { work with prts := [(0, { part 0 0 0 .ready with rows := 0 })] }

set_option maxRecDepth 30000 in
theorem witness_StrOpen_area : Passes rowless 0 0 (openAt 1023) ∧ rowless.replacing (rowless.slotOf 0) = false ∧ rowless.roomIn 0 = none ∧ rowless.str 1023 = none
    ∧ (rowless.findArea (rowless.prtHomes 0) ((rowless.graphOf 0).areaShare (rowless.prtHomes 0).length)).isSome = true :=
  ⟨passes_of (by decide), by decide, by decide, by decide, by decide⟩

theorem witness_StrClose : Passes work 0 0 (desc 0x31 0x1000_0000 []) ∧ (work.str 0).map Stream.st = some .running
    ∧ (work.str 0).map Stream.migrating = some false := ⟨passes_of (by decide), by decide, by decide⟩

theorem witness_StrExport : Passes work 0 0 { desc 0x32 0x1000_0000 [] with outLen := 64 * 1024 } := passes_of (by decide)

/-- SEQ_SUBMIT to partition 1 with 8 new tokens at most, without adapter or drafts, of four tokens. -/
def submit : Desc := { desc 0x40 0x5000_0001 [8, 0, 0xFF, 0xFF, 0, 0, 0] with dataLen := 16, data := List.replicate 16 0 }

set_option maxRecDepth 30000 in
theorem witness_SeqSubmit : Passes work 0 0 submit ∧ work.replacing (work.slotOf 1) = false ∧ work.roomIn 1 = none ∧ freeIndex work.seqs 1024 = some 1
    ∧ (submit.tokens 0).length ≤ 4096 ∧ submit.opnd 0x25 1 = 0 ∧ (work.graphOf 1).pageSet (decide (sortDistinct ((submit.tokens 0).take 0) ≠ [])) = [] :=
  ⟨passes_of (by decide), by decide, by decide, by decide, by decide, by decide, by decide⟩

/-- SEQ_APPEND of one token to sequence 0. -/
def append : Desc := { desc 0x41 0x2000_0000 [] with dataLen := 4, data := [1, 0, 0, 0] }

/-- `work` with a stroke of both partitions in flight. -/
def striking : State := { work with prts := [(0, { part 0 0 0 .ready with stroke := some aStroke }), (1, { part 1 0 1 .ready with stroke := some aStroke })] }

theorem witness_SeqAppend : Passes striking 0 0 append ∧ (striking.seq 0).map (fun x => (x.st ≠ .ending : Bool) && x.queue.length + (append.tokens 0).length ≤ 4096 && x.prt = 1)
    = some true ∧ (striking.prt 1).bind Prt.stroke = some aStroke := ⟨passes_of (by decide), by decide, by decide⟩

theorem witness_SeqCancel : Passes work 0 0 (desc 0x42 0x2000_0000 []) ∧ (work.seq 0).bind Seq.cancel = none ∧ (work.seq 0).map Seq.migrating = some false :=
  ⟨passes_of (by decide), by decide, by decide⟩

/-- LNK_AUD_SET of a direction 0 port on sink 5: one channel, 8 kHz, a ring of 16 KiB and its control block. -/
def audSet (len : Nat) : Desc := { desc 0x50 0x3000_0000 [0, 0, 1, 5, 0x40, 0x1F, 0, 0] with dataLen := len }

/-- `work` with sink 5 a link-audio sink of rider 0. -/
def audio : State := work.wr (Reg.AUD_SINK 5) 0x3

theorem witness_LnkAudSet : Passes audio 0 0 (audSet 0) ∧ Passes audio 0 0 (audSet 16448)
    ∧ ∀ c ∈ (audSet 0).audSlots, (audio.entered 0 0 (audSet 0)).audBusy 0 0 8000 c = false := ⟨passes_of (by decide), passes_of (by decide), by decide⟩

/-- `present` with port 0 of the tandem die in a state, its partner's chip number 1. -/
def linked (st : PortState) : State := present.setTport 0 { TanPort.zero with st := st, peerChip := 1, width := 4, lanes := 15, locked := 15, root := 0 }

theorem witness_TanPair : Passes (linked .linked) 0 0 (desc 0x60 0 [0, 1]) ∧ ((linked .linked).tport 0).st = .linked
    ∧ (∀ x ∈ (linked .linked).tan.pairing, x.port ≠ 0) ∧ ((linked .linked).tport 0).req = none := ⟨passes_of (by decide), by decide, by decide, by decide⟩

/-- `work` over a port 0 that is UP. -/
def paired : State := { work with part := { work.part with tanRecords := [(0, { peerId := 5, peerChip := 1, ownChip := 0 })] } }.setTport 0
  { TanPort.zero with st := .up, peerChip := 1, width := 4, lanes := 15, locked := 15, root := 0 }

theorem witness_Migrate : Passes paired 0 0 (desc 0x61 0x1000_0000 [0, 1]) ∧ (paired.entered 0 0 (desc 0x61 0x1000_0000 [0, 1])).inGroup 0 = false
    ∧ (∀ m ∈ paired.tan.migOut, m.port ≠ 0) ∧ (paired.entered 0 0 (desc 0x61 0x1000_0000 [0, 1])).alignedWith 0 = true
    ∧ (paired.str 0).map Stream.st = some .running ∧ Passes paired 0 0 (desc 0x61 0x2000_0000 [0, 1]) ∧ (paired.seq 0).map Seq.st = some .idle :=
  ⟨passes_of (by decide), by decide, by decide, by decide, by decide, passes_of (by decide), by decide⟩

/-! ### Witnesses: audio, safety, boot and power -/

/-- `work` with PCM port 0 transmitting as a master from stream 0, and sink 0 started with six samples; also with sink 0 full, and its port slaved. -/
def playing (n : Nat) : State :=
  (((work.wr (Reg.AUD_SINK 0) 0x0000_0001).wr (Reg.AUD_SRC 0) 4).wr (pcmCtl 0 0) 3).setSink 0
    { Sink.zero with started := true, buf := List.replicate n (0, 0) }

set_option maxRecDepth 30000 in
theorem witness_Sinks : (playing 3).sinkOn 0 = true ∧ ((playing 3).sink 0).under = false ∧ ((playing 3).sink 0).started = true
    ∧ ((playing 3).sink 0).buf ≠ [] ∧ (((playing 3).sink 0).buf.length - ((playing 3).sink 0).newest) * 1000000 < 250 * max 1 (((playing 3).sinkRate 0).getD 0)
    ∧ 750 * max 1 (((playing 3).sinkRate 0).getD 0) < (((playing 13).sink 0).buf.length - ((playing 13).sink 0).newest) * 1000000
    ∧ 250 * max 1 (((playing 4).sinkRate 0).getD 0) ≤ (((playing 4).sink 0).buf.length - ((playing 4).sink 0).newest) * 1000000
    ∧ (playing 0).dry 0 = true ∧ (playing 384).brim 0 = true ∧ (playing 3).tick.running = true := by decide

/-- `live` with PCM port 1 slaved in both directions, the tick slaved to its receiver, which has lost its clock or not. -/
def slave (lost : Bool) : State :=
  let s := (live.wr (pcmCtl 1 0) 1).wr (pcmCtl 1 1) 1
  let s := s.setPcmClock 1 1 { lost := lost, refSet := false }
  { s with tick := { s.tick with source := 4 } }

theorem witness_Pcm : (slave false).slaved 1 0 false = true ∧ (slave false).slaved 1 1 false = true ∧ (slave true).slaved 1 1 true = true
    ∧ (slave true).sourceLost = true ∧ (slave false).mayFail 0x017 false = true ∧ (live.wr (Reg.PDM_CTL 5) 1).mayFail 0x01D false = true := by decide

theorem witness_KickstandCauses : ({ live with isl := { live.isl with started := false } } : State).isl.started = false ∧ live.isl.started = true
    ∧ (live.setPinOut 3 { live.pinOut 3 with muted := true }).pinOut 3 = { live.pinOut 3 with muted := true }
    ∧ (live.wr (Reg.AUD_SRC 15) 1).srcKind 15 = 1 ∧ (live.wr (Reg.AUD_SRC 15) 1).srcOpen 15 = false
    ∧ (live.wr Reg.SAF_KICK 16).kickCauses.testBit 4 = true ∧ ({ live with isl := { live.isl with coolFrom := some 5, hot := 3, apart := 2 } } : State).isl.hot = 3
    ∧ (Tab.get { temp := 0, valid := false, flagged := false } ({ live with sensors := [(8, { temp := 400, valid := true, flagged := false })] } : State).sensors 8).valid = true := by
  decide

theorem witness_Ceiling : ((live.setPinOut 3 { live.pinOut 3 with hit := some (1, -8) }).pinOut 3).hit = some (1, -8)
    ∧ ({ live with isl := { live.isl with sink := true, dark := 4 } } : State).isl.sink = true ∧ live.isl.sink = false := by decide

theorem witness_ResetPulses : live.pwr.st ≠ .off ∧ (∀ t, live.boot.resetnAt = some t → t + 100 ≤ live.now)
    ∧ ({ live with boot := { live.boot with resetnAt := some 0 } } : State).now < 0 + 100 := by decide

theorem witness_Supply : ({ live with pwr := { live.pwr with st := .off } } : State).pwr.st = .off ∧ State.reset.alive = true ∧ State.reset.boot.stage = 0
    ∧ State.reset.boot.fw = .booting := by decide

/-- `live` as boot stands at a stage. -/
def bootAt (stage : Nat) : State := { live with boot := { live.boot with fw := .booting, stage := stage } }

theorem witness_Boot : (bootAt 3).alive = true ∧ (bootAt 3).boot.fw = .booting ∧ (bootAt 5).boot.stage = 5
    ∧ ({ live with boot := { live.boot with resetReq := some 5 } } : State).boot.resetReq = some 5 := by decide

theorem witness_FirmwareEnds : ({ live with boot := { live.boot with op := some { op := 1, target := 1, image := [], result := 0, scratch := none } } } : State).boot.op
    = some { op := 1, target := 1, image := [], result := 0, scratch := none } := by decide

theorem witness_Presence : ({ live with boot := { live.boot with highSince := some 0 } } : State).boot.highSince = some 0 ∧ present.window = some { since := 0, used := 0 }
    ∧ ({ live with boot := { live.boot with presStuck := true } } : State).boot.presStuck = true := by decide

theorem witness_Governor : Governor.InRange { live.gov with hPower := 12, hThermal := 12, cap := 0, lowEdges := 8, coolEdges := 8, hotEdges := 10, easyEdges := 100 } :=
  ⟨by decide, by decide, by decide, by decide, by decide, by decide, by decide⟩

theorem witness_GovernorEvents : 8 ≤ ({ live with gov := { live.gov with lowEdges := 8, coolEdges := 8 } } : State).gov.coolEdges
    ∧ 10 ≤ ({ live with gov := { live.gov with hotEdges := 10 } } : State).gov.hotEdges ∧ 100 ≤ ({ live with gov := { live.gov with easyEdges := 100 } } : State).gov.easyEdges
    ∧ sensorFitted live.part.variant 0 = true ∧ live.boot.refLocked = true ∧ live.kickCauses.testBit 3 = false ∧ live.pwr.vinArmed = true
    ∧ 2000 < live.fld Reg.PWR_VIN 16 16 ∧ live.fld Reg.PWR_VIN 16 16 + 100 < 3300 := by decide

/-- `live` in AON, or on its way to a state. -/
def inAon : State := { live with pwr := { live.pwr with st := .aon } }
def moving (dst : PowerState) : State := { live with pwr := { live.pwr with trans := some { src := .serve, dst := dst, since := 0, done := false } } }

theorem witness_Power : (moving .serve).pwr.st = .serve ∧ (moving .listen).pwr.trans = some { src := .serve, dst := .listen, since := 0, done := false }
    ∧ inAon.pwr.st = .aon ∧ inAon.riderExists 0 = true ∧ (inAon.wr Reg.PWR_AON_TIMER 1).aonTimerRuns = true ∧ inAon.part.variant.tandem = true
    ∧ (inAon.wr Reg.PWR_WAKE_EN 0x1E).bit Reg.PWR_WAKE_EN 4 = true ∧ (inAon.wr Reg.PWR_WAKE_EN 0x1E).bit Reg.PWR_WAKE_EN 2 = true := by decide

/-! ### Witnesses: the tick, hubs, memories, partitions and pages -/

theorem witness_TickEdges : live.alive = true ∧ live.tick.running = true := by decide

/-- `work` with hub `h` restarting, and partition 1 held by it. -/
def restarting (h : Nat) : State :=
  { work with hubs := Tab.put work.hubs h { Hub.zero with run := .restarting }, prts := [(0, part 0 0 0 .ready), (1, { part 1 0 1 .ready with heldHub := some 0 })] }

theorem witness_Hubs : (live.hub 3).run = .running ∧ (restarting 3).restarting 3 = true ∧ (restarting 2).restarting 2 = true
    ∧ (∃ x ∈ (restarting 2).prts, x.2.heldHub.isSome = true) ∧ ∀ x ∈ (restarting 3).regs.hubActs, x.1 ≠ 3 := by decide

/-- `work` with granule 0 of channel 31 allocated to the key-value class, and a window of channel 31 running or not. -/
def stacked (w : Bool) : State :=
  let s := work.setChan 31 { work.chan 31 with window := w }
  s.setMem { s.mem with allocs := [{ chan := 31, gran := 0, cls := .kv, owner := 0, idx := 0, age := 0 }], rehome := [(31, 0)] }

theorem witness_Channels : 31 < (stacked true).chanCount ∧ (stacked true).pwr.st = .serve ∧ ((stacked true).chan 31).st = .active
    ∧ ((stacked true).chan 31).window = true ∧ ((stacked false).allocAt 31 0).isSome = true ∧ (stacked false).noWindow = true
    ∧ ((stacked false).hub 0).run = .running := by decide

theorem witness_MemoryErrors : (stacked false).chanReads 31 = true ∧ (stacked false).regionOf 31 0x0100_0000 = some 2 ∧ (stacked false).regionOf 31 0x00FF_FFFF = some 4
    ∧ (Tab.find (stacked false).mem.rehome 31).isSome = true ∧ live.spokeOn 70 = true ∧ live.prtOfRow 7 = none ∧ live.spokeOn 71 = false
    ∧ (work.prt 0).isSome = true := by decide

/-- `work` with partition 2 in a state. -/
def third (x : Prt) : State := work.setPrt 2 x

theorem witness_Partitions : ((third (part 2 0 0 .resetting)).prt 2).map Prt.st = some .resetting ∧ ((third (part 2 0 0 .resetting)).hub 1).run = .running
    ∧ ((third (part 2 0 0 .resetting)).setMem { work.mem with renumber := [(2, 2)] }).rebuildDue 2 = true
    ∧ ((third { part 2 0 0 .building with built := false }).prt 2) = some { part 2 0 0 .building with built := false } := by decide

/-- A key-value page on its way. -/
def aPage (w : PageWhere) : KvPage :=
  { tensor := 0, ring := 0, glob := true, valid := true, loc := w, base := 0, comBase := 0, marks := [], comMarks := [], rows := [], chan := 0, gran := 0,
    idx := 0, held := true, slot := some 0, crc := none, used := 0, want := false }

/-- `striking` with a cold layer in slot 0, a handoff on its way, and a page of sequence 0 on its way. -/
def busy (w : PageWhere) : State :=
  { striking with
    slots := [(0, { striking.slotD 0 with layers := [{ entry := { format := 0, flags := 0, base := 0, rank := 0, offset := 0, lens := [] }, bytes := [], digests := [[]] }] })]
    flights := [{ producer := 0x2000_0000, consumer := 0x1000_0000, items := [] }]
    seqs := [(0, { Seq.new (own 0) 1 0xFF 0xFF 0 false 0 8 [] with pages := [aPage w] })] }

theorem witness_Strokes : (((busy .stack).prt 0).bind Prt.stroke).isSome = true ∧ ((busy .stack).flight 0x2000_0000 0x1000_0000).isSome = true
    ∧ (busy .stack).fetches 0 0 = true ∧ (busy .stack).starveOver 0 = true ∧ (busy .spilling).pageMoves 0 0 0 .spilling = true
    ∧ (busy .spilling).reachable = true ∧ (busy .spilling).mayIssue 0 = true ∧ (busy .prefetching).pageMoves 0 0 0 .prefetching = true := by decide

/-! ### Witnesses: transfers, the host link, the tandem link and formats -/

/-- `work` with the transfer of a CAS_LOAD at a stage. -/
def loading (st : LoadStage) : State := { work with loads := [{ Load.new 0 0x10 0 2 0 0 false 0 0 false with stage := st, staged := true }] }

theorem witness_Images : ((loading .header).load 0).map (fun l => (l.stage, l.cut)) = some (.header, false)
    ∧ ((loading .tables).load 0).map (fun l => (l.stage, l.cut)) = some (.tables, false)
    ∧ ((loading .weights).load 0).map (fun l => (l.stage, l.cut, l.staged)) = some (.weights, false, true) := by decide

/-- A command at a stage. -/
def aCmd (op : Nat) (st : CmdStage) : Cmd :=
  { own := own 0, pos := 0, tick := 0, at_ := 0, desc := desc op 0x1000_0000 [], stage := st, status := 0, result := 0 }

/-- `striking` with an export that is being written, an import that is being read, a dump, a snapshot, records on their way and a cold layer fetched. -/
def carrying : State :=
  { striking with
    link := { striking.link with cmds := [aCmd 0x32 .running] }
    streams := [(0, { Stream.new (graph 0) (own 0) 0 0xFF 0 2 0 with imp := some (.reading 0 64) })]
    prts := [(0, { part 0 0 0 .ready with stroke := some aStroke, panUsed := true })]
    jnl := { striking.jnl with dumping := some 0x1000 }
    trc := { striking.trc with snap := some (some []), fired := [(1, 0, 0, 0)], running := true
                               staged := List.replicate 256 { point := 1, unit := 0, a := 0, tick := 0, sub := 0, b := 0 } } }

set_option maxRecDepth 30000 in
theorem witness_Transfers : carrying.exporting 0 = true ∧ carrying.cmd 0 = some (aCmd 0x32 .running) ∧ (carrying.str 0).map Stream.imp = some (some (.reading 0 64))
    ∧ carrying.jnl.dumping = some 0x1000 ∧ carrying.trc.snap = some (some []) ∧ carrying.trc.fired = (1, 0, 0, 0) :: [] ∧ 256 ≤ carrying.trc.staged.length
    ∧ carrying.requested 0 (.fetch 0) = true ∧ carrying.requested 0 (.coldLayer 0) = true ∧ carrying.requested 0 .trace = true
    ∧ carrying.requested 0 (.command 0) = true ∧ carrying.requested 0 (.stateBlob 0x1000_0000) = true := by decide

theorem witness_LinkResets : live.hostResetOk 0 = true ∧ ({ live with part := { live.part with variant := .fl2U } } : State).hostResetOk 1 = true
    ∧ live.hostResetOk 2 = true ∧ live.hostResetOk 3 = true ∧ State.reset.link.perstLow = true ∧ linkShape 16 5 = true ∧ linkShape 1 1 = true
    ∧ (live.wr Reg.LNK_STATUS 0).linkUp = false ∧ live.linkUp = true ∧ live.fld Reg.LNK_STATUS 1 5 ≠ 16 := by decide

/-- `live` with a released entry in the backlog, a due message of vector 63, and ASPM L1 permitted. -/
def holding : State :=
  let e : CplEntry := { rider := 0, sq := 0, cq := 0, order := 0, tag := 7, seq := 1, epoch := 0, code := 0, kind := .final, status := 0, result := 0,
                        payload := [], obj := 0, region := none, tick := some 1 }
  { live with link := { live.link with
      backlog := [(0, [e])]
      msix := [((0, 63), { addr := 0, data := 0, masked := false })]
      vecs := [((0, 63), { VecState.zero with due := some 0 })]
      pf := { live.link.pf with aspmL1 := true } } }

theorem witness_LinkEvents : holding.holdEnded 0 = true ∧ (holding.waitTo (holding.vecDue 0 63)).vecSendable 0 63 = true
    ∧ (holding.waitTo (holding.vecDue 0 63)).vecBlocked 0 63 = false ∧ holding.l1Due = true ∧ holding.linkUp = true ∧ holding.riderExists 1 = false
    ∧ holding.pwr.st ≠ .aon ∧ (holding.fn 0).d3hot = false := by decide

/-- `linked` in TRAIN with the flit boundary fixed. -/
def trained : State := (linked .train).setTport 0 { (linked .train).tport 0 with aligned := true }

theorem witness_TandemPorts : (linked .detect).part.variant.tandem = true ∧ ((linked .detect).tport 0).st = .detect ∧ ((linked .train).tport 0).aligned = false
    ∧ ((linked .degrading).tport 0).st = .degrading ∧ Nat.land 15 ((linked .degrading).tport 0).lanes = ((linked .degrading).tport 0).lanes
    ∧ (trained.tport 0).aligned = true ∧ (widest (trained.tport 0).locked (min 4 (trained.maxWidth 0))).isSome = true
    ∧ widest ((trained.setTport 0 { trained.tport 0 with locked := 0 }).tport 0).locked 4 = none ∧ Nat.land 1 ((linked .up).tport 0).lanes ≠ 0 := by decide

/-- `linked` with a flit unacknowledged and a pairing that waits, or that is agreed. -/
def waiting (agreed : Bool) : State :=
  let s := (linked .linked).setTport 0 { (linked .linked).tport 0 with unacked := [(0, .pairAck 0)] }
  { s with tan := { s.tan with pairing := [{ port := 0, chip := 1, order := 0, since := 0, agreed := agreed }] } }

theorem witness_Flits : ((waiting false).tport 0).carries = true ∧ ((waiting false).tport 0).unacked ≠ [] ∧ ((waiting false).tport 0).replays < 7
    ∧ ((waiting false).acked 0 5).tport 0 = (waiting false).tport 0 ∧ (((waiting false).acked 0 0).tport 0).unacked = []
    ∧ (waiting false).stalePairing 0 = some { port := 0, chip := 1, order := 0, since := 0, agreed := false } ∧ (linked .linked).stalePairing 0 = none
    ∧ ((waiting true).tan.pairing.any fun x => x.port = 0 && x.agreed) = true := by decide

/-- `paired` as a follower of a group in slot 0 of chips 0 and 1, its neighbour's port 0 before it. -/
def follower : State := paired.wr (Reg.TAN_GROUP 0) 0x31

theorem witness_Groups : (follower.tport 0).st = .up ∧ follower.grouped 0 = true ∧ follower.leads 0 = false ∧ follower.prtOfSlot 0 = some 0
    ∧ (follower.prt 0).map (fun x => (x.st, x.stroke)) = some (.ready, none) ∧ follower.prtOfSlot 5 = none := by decide

theorem witness_Lock : ({ follower.wr Reg.TAN_TICK_CTL 1 with tan := { follower.tan with good := 8 } } : State).lockDue = true
    ∧ ({ live with tan := { live.tan with locked := true, skewNs := 4001 } } : State).unlockDue 0 = true
    ∧ ({ live with tan := { live.tan with locked := true, missing := 2 } } : State).unlockDue 1 = true
    ∧ ({ live with tan := { live.tan with locked := true, leaderLen := 0 } } : State).unlockDue 2 = true := by decide

/-- `paired` with a migration out, its state sent or not, and one in. -/
def migrating (peer : Option Nat) : State :=
  { paired with tan := { paired.tan with
      migOut := [{ port := 0, handle := 0x1000_0000, order := 3, peer := peer, started := true, done := false, code := none }]
      migIn := [{ port := 0, source := 0x1000_0009, handle := 0x1000_0001, part := 0, adapter := 0xFF, mask := 1, bytes := 64, data := [], done := false, tag := 7 }] } }

theorem witness_Migration : ((migrating none).offered 0 false).isSome = true ∧ ((migrating (some 1)).offered 0 true).isSome = true
    ∧ ((migrating none).arriving 0).map MigIn.done = some false ∧ ((migrating none).tport 0).st = .up
    ∧ ({ follower with prts := [(0, { part 0 0 0 .ready with stroke := some aStroke })] } : State).groupWorks = true := by decide

theorem witness_Journal : live.jnl.write < Journal.size
    ∧ (List.range Journal.size).countP (fun p => match Tab.find live.jnl.pos p with | some x => x.pending | none => false) ≤ 1024 :=
  ⟨by decide, by change (List.range Journal.size).countP (fun _ => false) ≤ 1024; simp⟩

theorem witness_OutputBuffer : let b : OutBuf := { addr := 0, len := 256, next := 64, regions := [(0, 0, 64)], nextId := 1 }
    b.len % 64 = 0 ∧ b.next % 64 = 0 ∧ b.next ≤ b.len ∧ (∀ r ∈ b.regions, r.2.1 % 64 = 0 ∧ r.2.1 + r.2.2 ≤ b.len)
      ∧ b.regions.Pairwise (fun x y => x.2.1 + x.2.2 ≤ y.2.1 ∨ y.2.1 + y.2.2 ≤ x.2.1) ∧ (b.place 100).isSome = true ∧ b.place 256 = none := by decide

/-- A journal entry with every field at its greatest value. -/
def fullEntry : JEntry :=
  { seq := 2 ^ 48 - 1, epoch := 65535, tick := 0, type := 255, agent := 255, code := 65535, tag := 65535, op := 255, flags := 255, arg0 := 2 ^ 32 - 1
    arg1 := 65535, check := 0 }

theorem witness_Entries : fullEntry.seq < 2 ^ 48 ∧ fullEntry.type < 2 ^ 8 ∧ fullEntry.arg0 < 2 ^ 32 ∧ fullEntry.arg1 < 2 ^ 16 := by decide

/-! ### Well-formedness: for each check a term that it refuses -/

/-- What cold boot finds, with one number out of range. -/
def bootWith (spoke chan rim : Nat) : BootIn :=
  { refSel := false, testEn := false, refClk := false, presLow := false, failedSpokes := [spoke], failedChannels := [chan], failedRim := [rim] }

/-- An audio batch with the numbers of a source, a sink and a port. -/
def batch (src sink port : Nat) : AudioIn := { captured := [(src, [])], strobes := [(sink, 0)], rings := [(port, [])] }

theorem test_wf_refuses_boot_and_audio : ∀ i ∈ ([.coldReset (bootWith 72 0 0), .deviceReset (bootWith 0 32 0), .coldReset (bootWith 0 0 8), .tickEdge (batch 16 0 0) 0,
    .routerFrameEdge (batch 0 16 0), .tickEdge (batch 0 0 16) 0, .sinkDecisionPoint 16, .sinkUnderrun 16, .sinkOverrun 16, .pcmFrame 2 0 0, .pcmRateMeasure 0 2 0,
    .pcmClockLost 2 0, .pcmClockReturn 0 2, .audioPortFail 0x011 false, .audioPortFail 0x01E false, .thmSample [(16, 0)], .vinSample 65536] : List Instr),
    i.wf = false := by decide

theorem test_wf_refuses_writes : ∀ i ∈ ([.rstCtlDeviceReset 0x14 1, .fwOpWrite 0x1F 1 none false, .fwOpRecoveryRun 0x23 1 none, .hostAccessInAon 0 0x20_0000 15 none,
    .hostAccessInAon 0 0 256 none, .hdrClaimClaim 0 512, .claimExpire 512, .hdrIntSet 0 512 0, .registerWrite 0 0x20_0000 15 0, .registerWrite 0 0 256 0,
    .counterClear 0 0x20_0000 0, .hubRestartRequest 0 4 1, .rdrSqTail 0 16 0 0, .rdrCqHead 0 0 4 0, .rdrCtlReset 0 16 1, .tanPortRetrain 0 2 16, .safCeilClear 0 4 16]
    : List Instr), i.wf = false := by decide

theorem test_wf_refuses_hardware : ∀ i ∈ ([.hubWatchdogExpire 4 false, .hubFault 4 false, .hubRestartDone 4, .hubRestartTimeout 4 false, .retrainDue 32, .spokeRehome 32,
    .retrainWindowDone 32 true, .patrolScrub 32 0 0, .patrolScrub 0 512 0, .eccReadError 0 (2 ^ 30) 0, .eccReadError 0 0 3, .sramError 72 0 true,
    .sramError 0 (2 ^ 20) true, .residueMismatch 72, .rimCheckFail 72 0 false, .rimCheckFail 0 8 false, .partitionResetCleared 8, .partitionRebuild 8 true,
    .pannierDigestCheck 8 0 true, .ceilingExceedance 4, .gateCheckFail 16, .islandStartupTests 1024, .periodicSelfTest 1024] : List Instr), i.wf = false := by decide

theorem test_wf_refuses_link : ∀ i ∈ ([.imageHeaderArrived 0 [], .functionLevelReset 16, .hostLinkReset 4, .linkUp 32 1, .linkUp 1 16, .dmaFailure 16 0 .trace, .dmaFailure 0 4 .trace,
    .jnlDumpDone (some 4), .msixSend 16 0, .msixSend 0 64, .configSpaceWrite 16 .vfEnable, .configSpaceWrite 0 (.maxPayload 64), .configSpaceWrite 0 (.maxRead 100),
    .configSpaceWrite 0 (.numVFs 16), .configSpaceWrite 0 (.l1Substates 3), .msixTableWrite 0 64 0 0 false] : List Instr), i.wf = false := by decide

theorem test_wf_refuses_tandem : ∀ i ∈ ([.tandemSbWake 2, .tanTrainAlign 0 16, .hello 0 0 8 0 4 0 0 0 0, .hello 0 0 0 2 4 0 0 0 0, .tanFlitReceive 0 [], .tanNak 0 65536,
    .pairReq 0 8 0, .pairAck 0 8, .tick 0 0 4 0 0 0 0, .tick 0 0 0 16 0 0 0, .tanLockLost 4, .stroke 0 16 0 0 0 [], .stroke 0 0 4 0 0 [], .commit 0 16 0, .report 0 16 0 0,
    .groupReset 2 0 0, .migOffer 2 0 0 0 0 0 0, .xfer 2 0 0 [], .act 2 0 [] []] : List Instr), i.wf = false := by decide

theorem test_wf_refuses_descriptors : ∀ d ∈ ([{ desc 0 0 [] with opcode := 256 }, { desc 0 0 [] with flags := 256 }, { desc 0 0 [] with tag := 65536 },
    { desc 0 0 [] with target := 2 ^ 32 }, { desc 0 0 [] with dataAddr := 2 ^ 64 }, { desc 0 0 [] with dataLen := 2 ^ 24 }, { desc 0 0 [] with zero13 := 256 },
    { desc 0 0 [] with outLen := 2 ^ 24 }, { desc 0 0 [] with zero17 := 256 }, { desc 0 0 [] with outAddr := 2 ^ 64 }, { desc 0 0 [] with ops := [] },
    { desc 0 0 [] with dataFail := some 4 }] : List Desc), (Instr.nop 0 0 d).wf = false ∧ (Instr.descriptorFetch 0 0 [d]).wf = false := by decide

theorem test_wf_rings : (Instr.nop 15 3 (desc 0 0 [])).wf = true ∧ (Instr.nop 16 0 (desc 0 0 [])).wf = false ∧ (Instr.nop 0 4 (desc 0 0 [])).wf = false := by decide

/-! ### Worked values of the spec -/

/-- R95's example: RDR[3] begins at 0x0004_3000 and SPK[71] at 0x000C_7000. -/
theorem test_page_offsets : hdrOff (0x040 + 3) 0 = 0x0004_3000 ∧ pageOf 0x043 = some (.rdr, 3) ∧ hdrOff (0x080 + 71) 0 = 0x000C_7000
    ∧ pageOf 0x0C7 = some (.spk, 71) := by decide

/-- Chapter 3, a warm pocket on an FL640-2H: at 94.0 °C with warn 92 and hot 100 the target is 3, at 88.5 °C it is 0; the budgets at h 3, 2, 1 and 0. -/
theorem test_warm_pocket : thermalTarget 376 92 100 = 3 ∧ thermalTarget 354 92 100 = 0 ∧ budgetUs 10000 0 3 = 8043 ∧ budgetUs 10000 0 2 = 8662
    ∧ budgetUs 10000 0 1 = 9281 ∧ budgetUs 10000 0 0 = 9900 := by decide

/-- Chapter 14, a two-way conversation: A_p with W 100 at allowance 4, and the budgets with W 80 and 0 at h 6. -/
theorem test_conversation_budgets : budgetUs 10000 100 4 = 7350 ∧ budgetUs 10000 80 6 = 6137 ∧ budgetUs 10000 0 6 = 6187 := by decide

/-- Chapter 7, a refused command behind a slow one: head at slot 62 phase 0, tail 0x0001_0001 in a ring of 64: three descriptors. -/
theorem test_ring_positions : ringDist 64 (ringPos 64 62) (ringPos 64 0x0001_0001) = 3 ∧ ringWord 64 (62 + 3) = 0x0001_0001 := by decide

/-- Chapter 7, same case: a SEQ_SUBMIT with data_len 10 fails check 4 with 0x0303. -/
theorem test_submit_length : work.checks 0 { submit with dataLen := 10 } = some 0x0303 := by decide

/-- R203: an unknown opcode fails check 1 before a form error fails check 3. -/
theorem test_check_order : work.checks 0 { desc 0xFF 0 [] with zero13 := 1 } = some 0x0301 ∧ work.checks 0 { desc 0x00 0 [] with zero13 := 1 } = some 0x0302 := by
  decide

/-- R212, R213: a privileged command without a window is refused, and so is the ninth in one. -/
theorem test_presence : live.checks 0 (desc 0x70 0 []) = some 0x0309
    ∧ ({ live with window := some { since := 0, used := 8 } } : State).checks 0 (desc 0x70 0 []) = some 0x030A := by decide

/-- R90: PWR_LIMIT at reset is the variant's sustained maximum, and R82's window is 100 ms. -/
theorem test_power_limit_reset : State.reset.fld Reg.PWR_LIMIT 0 16 = 9000 ∧ State.reset.fld Reg.PWR_LIMIT 16 12 = 100 := by decide

/-- An idle step passes a microsecond of the model's clock (assumption 1). -/
theorem test_step_idle : step State.reset = .next { State.reset with now := 1 } := rfl

/-- Every register that a clear register names is a counter, and every clear register has nothing else to write (R118). -/
theorem test_clear_registers : ∀ x ∈ ([(0x001, 0x080), (0x003, 0x050), (0x004, 0x050), (0x008, 0x05C), (0x008, 0x148), (0x00C, 0x068), (0x040, 0x05C), (0x006, 0x090),
    (0x007, 0x05C), (0x050, 0x04C), (0x050, 0x180), (0x060, 0x064), (0x030, 0x074), (0x010, 0x090), (0x011, 0x0B0), (0x028, 0x074), (0x00E, 0x054), (0x00F, 0x054),
    (0x020, 0x06C), (0x022, 0x074), (0x012, 0x04C), (0x018, 0x050), (0x016, 0x090), (0x005, 0x070), (0x00D, 0x0DC), (0x080, 0x07C)] : List (Nat × Nat)),
    (specAt (hdrOff x.1 x.2)).map (fun r => (r.rw, r.w1c, r.w1s, r.role)) = some (0, 0, 0, .single) := by decide

/-- Chapter 9, a translator layer entry: its eight words read as the fields that the case names. -/
theorem test_layer_entry : readEntry (([0x0007_0200, 0, 0x02CB_0000, 0, 0x0066_0000, 0x0039_6000, 0x0019_8000, 0x0006_6000] : List Nat).flatMap (leBytes 4)) 0
    = { format := 0, flags := 2, base := 7, rank := 0, offset := 0x02CB_0000, lens := [6684672, 3760128, 1671168, 417792] } := by decide

/-- Chapter 11, one W4B tile: y₀, its bias, its INT8 value, and the saturation of output 1. -/
theorem test_w4b_outputs : fmul 0xBFD4_0000 0x3D80_0000 = 0xBDD4_0000 ∧ fadd 0xBDD4_0000 0x3E80_0000 = 0x3E16_0000
    ∧ fromF32 1 0x3C80_0000 0x3E16_0000 = (9, Cnt.zero) ∧ (fromF32 1 0x3C80_0000 0x4040_0000).1 = 0x7F ∧ (fromF32 1 0x3C80_0000 0x4040_0000).2.sat = 1 := by decide

end Sys2Proof.Tests
end

namespace Sys2Proof.Machine

/-! ### The clock of an answer -/

@[simp] theorem State.waitTo_now (s : State) (t : Nat) : (s.waitTo t).now = max s.now t := rfl
@[simp] theorem State.keepCmd_now (f : State → State) (s : State) : (State.keepCmd f s).now = s.now := rfl
@[simp] theorem State.numbered_now (n : DWord) (s : State) : (State.numbered n s).now = s.now := rfl

/-! ### The tick edge -/

/-- While the tick runs its edge is shown in every state of a live part: the block waits for the edge, acts, and counts it (R18, R19,
R23). -/
theorem exec_tickEdge_running (a : AudioIn) (uJ : Nat) {s : State} (ha : s.alive = true) (hr : s.tick.running = true) :
    exec (.tickEdge a uJ) s
      = .next (State.numbered s.tick.number (State.keepCmd (State.edge a uJ) (s.waitTo s.edgeDue))) := by
  show execTickEdge a uJ s = _
  rw [execTickEdge, if_neg (by simp [ha]), if_pos hr]

/-- Settles O40: the edge is taken, its clock is that of the wait, and `execTickEdge_next` gives the number, the queue and the fuses. -/
theorem tickEdges : Obligations.TickEdges := by
  intro s a uJ ha hr
  have hnext := exec_tickEdge_running a uJ ha hr
  obtain ⟨hnumber, hpending, -, hfuses⟩ := execTickEdge_next ha hnext
  refine ⟨_, hnext, ?_, hnumber, hpending, hfuses⟩
  rw [State.numbered_now, State.keepCmd_now, State.waitTo_now]

end Sys2Proof.Machine

namespace Sys2Proof.Machine

/-! ### The tick number -/

/-- The commands that return the block to cold reset or release it from there, where the tick number is 0 (R43, R131). -/
def comesFromReset (c : Instr) : Prop := c = .vinRise ∨ c = .vinLoss ∨ (∃ n, c = .resetNPulse n) ∨ ∃ b, c = .coldReset b

@[simp] theorem State.coldReset_number (s : State) (cause : Nat) : (s.coldReset cause).tick.number = 0 := rfl
@[simp] theorem State.vinLost_number (s : State) : s.vinLost.tick.number = 0 := rfl
@[simp] theorem State.resetnReset_number (s : State) : s.resetnReset.tick.number = 0 := rfl

/-- VIN_RISE is shown in OFF alone, and the block is in cold reset after it. -/
theorem execVinRise_number {s t : State} (h : execVinRise s = .next t) : t.tick.number = 0 := by
  unfold execVinRise at h
  split at h
  · cases h
    exact s.coldReset_number 1
  · cases h

/-- VIN_LOSS in OFF changes nothing; elsewhere it returns the block to cold reset. -/
theorem execVinLoss_number {s t : State} (h : execVinLoss s = .next t) : t.tick.number = s.tick.number ∨ t.tick.number = 0 := by
  unfold execVinLoss at h
  cases h
  split
  · exact .inl rfl
  · exact .inr s.vinLost_number

/-- A pulse of RESET_N is passed over, or it resets; a free value that it uses is no part of the tick generator. -/
theorem execResetNPulse_number {n : Nat} {s t : State} (h : execResetNPulse n s = .next t) :
    t.tick.number = s.tick.number ∨ t.tick.number = 0 := by
  simp only [execResetNPulse] at h
  split_ifs at h
  · cases h
    exact .inl rfl
  · cases h
    exact .inr s.resetnReset_number
  · cases h
    exact .inr (State.resetnReset_number _)
  · cases h
    exact .inl rfl

/-- The release of a live part begins the tick at edge 0. -/
theorem execColdReset_number {b : BootIn} {s t : State} (h : execColdReset b s = .next t) :
    t.tick.number = s.tick.number ∨ t.tick.number = 0 := by
  unfold execColdReset at h
  split at h
  · cases h
    exact .inl rfl
  · split at h
    · cases h
      exact .inr rfl
    · cases h

/-- A tick edge on a part that is not alive does nothing; on a live part it counts itself (R19). -/
theorem execTickEdge_number {a : AudioIn} {u : Nat} {s t : State} (h : execTickEdge a u s = .next t) :
    t.tick.number = s.tick.number ∨ t.tick.number = s.tick.number + 1 := by
  by_cases ha : s.alive = true
  · exact .inr (execTickEdge_next ha h).1
  · rw [execTickEdge, if_pos (by simpa using ha)] at h
    cases h
    exact .inl rfl

/-- What any command does to the tick number: nothing, one more at a tick edge, or 0 where it resets. -/
theorem exec_number {c : Instr} {s t : State} (h : exec c s = .next t) :
    t.tick.number = s.tick.number ∨ (∃ a u, c = .tickEdge a u ∧ t.tick.number = s.tick.number + 1)
      ∨ (t.tick.number = 0 ∧ comesFromReset c) := by
  by_cases hc : resetsOrTicks c = false
  · exact .inl ((exec_sound c s hc).next t h).number
  · cases c
    case vinRise => exact .inr (.inr ⟨execVinRise_number h, .inl rfl⟩)
    case vinLoss => exact (execVinLoss_number h).imp_right fun h0 => .inr ⟨h0, .inr (.inl rfl)⟩
    case resetNPulse n => exact (execResetNPulse_number h).imp_right fun h0 => .inr ⟨h0, .inr (.inr (.inl ⟨n, rfl⟩))⟩
    case coldReset b => exact (execColdReset_number h).imp_right fun h0 => .inr ⟨h0, .inr (.inr (.inr ⟨b, rfl⟩))⟩
    case tickEdge a u => exact (execTickEdge_number h).imp_right fun h1 => .inl ⟨a, u, rfl, h1⟩
    all_goals exact absurd rfl hc

/-- Settles O9: an idle step keeps the tick number, and a step that runs the command in front does what `exec_number` says of it. -/
theorem tickNumberMovesByOne : Obligations.TickNumberMovesByOne := by
  intro s t h
  unfold step at h
  split at h
  · cases h
    exact .inl rfl
  · next c rest hp =>
    obtain hkept | ⟨a, u, rfl, hone⟩ | ⟨hzero, hc⟩ := exec_number h
    · exact .inl hkept
    · exact .inr (.inl ⟨a, u, rest, hp, hone⟩)
    · exact .inr (.inr ⟨c, rest, hp, hzero, hc⟩)

end Sys2Proof.Machine

namespace Sys2Proof.Machine
open Sys2Proof

/-! ### Words: fields and masks -/

/-- A field is given by its bits. -/
theorem Word.fld_eq_of_bits {v w : Word} {lo n : Nat} (h : ∀ i, i < n → v.getLsbD (lo + i) = w.getLsbD (lo + i)) :
    Word.fld v lo n = Word.fld w lo n := by
  refine Nat.eq_of_testBit_eq fun i => ?_
  simp only [Word.fld, bitsOf, Nat.testBit_mod_two_pow, Nat.testBit_div_two_pow, BitVec.testBit_toNat]
  by_cases hi : i < n
  · rw [Nat.add_comm i lo, h i hi]
  · simp [hi]

/-- Setting a field of one bit to 1 sets that bit. -/
theorem Word.bit_setFld_one (w : Word) {i : Nat} (hi : i < 32) : Word.bit (Word.setFld w i 1 1) i = true := by
  have hquot : (w.toNat - w.toNat / 2 ^ i % 2 * 2 ^ i + 2 ^ i) / 2 ^ i = w.toNat / 2 ^ i - w.toNat / 2 ^ i % 2 + 1 := by
    rw [Nat.add_div_right _ (Nat.two_pow_pos i), Nat.mul_comm, Nat.sub_mul_div]
  have hodd : (w.toNat / 2 ^ i - w.toNat / 2 ^ i % 2 + 1) % 2 = 1 := by omega
  have hbit : (w.toNat - w.toNat / 2 ^ i % 2 * 2 ^ i + 2 ^ i).testBit i = true := by
    rw [Nat.testBit_eq_decide_div_mod_eq, hquot, decide_eq_true hodd]
  rw [Word.bit, Word.setFld, BitVec.toNat_ofNat, Nat.testBit_mod_two_pow]
  simpa [Word.fld, bitsOf, hi] using hbit

/-- The word in which the bits of a mask are replaced. -/
theorem word_replace (old w : Word) (m : Nat) :
    BitVec.ofNat 32 (old.toNat - Nat.land old.toNat m + Nat.land w.toNat m)
      = (old &&& ~~~BitVec.ofNat 32 m) ||| (w &&& BitVec.ofNat 32 m) := by
  have hland (x : Word) : Nat.land x.toNat m = (x &&& BitVec.ofNat 32 m).toNat := by
    have hx := Nat.and_mod_two_pow (a := x.toNat) (b := m) (n := 32)
    rw [Nat.mod_eq_of_lt (lt_of_le_of_lt Nat.and_le_left x.isLt), Nat.mod_eq_of_lt x.isLt] at hx
    simpa using hx
  have hapart (x : Word) : (old &&& ~~~BitVec.ofNat 32 m) &&& (x &&& BitVec.ofNat 32 m) = 0#32 := by
    ext i
    simp only [BitVec.getElem_and, BitVec.getElem_not]
    cases (BitVec.ofNat 32 m)[i] <;> simp
  have hsplit : old = (old &&& ~~~BitVec.ofNat 32 m) + (old &&& BitVec.ofNat 32 m) := by
    rw [BitVec.add_eq_or_of_and_eq_zero _ _ (hapart old)]
    ext i
    simp only [BitVec.getElem_or, BitVec.getElem_and, BitVec.getElem_not]
    cases (BitVec.ofNat 32 m)[i] <;> simp
  have hsub : old.toNat - (old &&& BitVec.ofNat 32 m).toNat = (old &&& ~~~BitVec.ofNat 32 m).toNat := by
    have h := congrArg BitVec.toNat hsplit
    rw [BitVec.toNat_add_of_and_eq_zero (hapart old)] at h
    omega
  rw [hland, hland, hsub, ← BitVec.add_eq_or_of_and_eq_zero _ _ (hapart w), ← BitVec.toNat_add_of_and_eq_zero (hapart w),
    BitVec.ofNat_toNat, BitVec.setWidth_eq]

/-- Under the mask the word is the new one. -/
theorem word_replace_and (old w : Word) (m : Nat) :
    BitVec.ofNat 32 (old.toNat - Nat.land old.toNat m + Nat.land w.toNat m) &&& BitVec.ofNat 32 m = w &&& BitVec.ofNat 32 m := by
  rw [word_replace]
  ext i
  simp only [BitVec.getElem_and, BitVec.getElem_or, BitVec.getElem_not]
  cases (BitVec.ofNat 32 m)[i] <;> simp

/-- The bits of the mask are the new word's. -/
theorem getLsbD_replace (old w : Word) {m i : Nat} (hi : i < 32) (hm : m.testBit i = true) :
    (BitVec.ofNat 32 (old.toNat - Nat.land old.toNat m + Nat.land w.toNat m)).getLsbD i = w.getLsbD i := by
  simp only [word_replace, BitVec.getLsbD_or, BitVec.getLsbD_and, BitVec.getLsbD_not, BitVec.getLsbD_ofNat]
  simp [hm, hi]

/-! ### Fields of stored registers -/

theorem State.rd_setFld_same (s : State) (off lo n v : Nat) : (s.setFld off lo n v).rd off = Word.setFld (s.rd off) lo n v :=
  State.rd_wr_same ..

theorem State.rd_setFld_other (s : State) (off lo n v : Nat) {o : Nat} (h : o ≠ off) : (s.setFld off lo n v).rd o = s.rd o :=
  State.rd_wr_other _ _ _ _ h

/-- A bit set with `State.setFld` is set. -/
theorem State.bit_setFld_one (s : State) (off : Nat) {i : Nat} (hi : i < 32) : (s.setFld off i 1 1).bit off i = true := by
  rw [State.bit, State.rd_setFld_same, Word.bit_setFld_one _ hi]

/-- A cause that is raised is shown in the page's interrupt status (R122). -/
theorem State.bit_raiseBit_same (s : State) (pg : Nat) {i : Nat} (hi : i < 32) : (s.raiseBit pg i).bit (hdrOff pg 0x010) i = true := by
  rw [State.bit, State.rd_raiseBit_same, Word.bit, BitVec.testBit_toNat, BitVec.getLsbD_or, BitVec.getLsbD_ofNat]
  simp [hi]

@[simp] theorem State.setFld_boot (s : State) (off lo n v : Nat) : (s.setFld off lo n v).boot = s.boot := rfl

/-! ### The state as an access finds it -/

/-- From `s` to `t` nothing of the register file but stored words changes: claims, commits and what waits stay. -/
def State.KeepsQueues (s t : State) : Prop := t.regs = { s.regs with vals := t.regs.vals }

theorem State.KeepsQueues.of_regs {s t : State} (h : t.regs = s.regs) : State.KeepsQueues s t := by
  rw [State.KeepsQueues, h]

theorem State.KeepsQueues.trans {s t u : State} (h : State.KeepsQueues s t) (k : State.KeepsQueues t u) : State.KeepsQueues s u := by
  unfold State.KeepsQueues at *
  rw [k, h]

theorem State.wr_keepsQueues (s : State) (off : Nat) (w : Word) : State.KeepsQueues s (s.wr off w) := rfl

theorem State.raiseBit_keepsQueues (s : State) (pg i : Nat) : State.KeepsQueues s (s.raiseBit pg i) := by
  rw [State.KeepsQueues, State.raiseBit, State.raise_regs]
  rfl

theorem State.count_keepsQueues (s : State) (off n : Nat) : State.KeepsQueues s (s.count off n) := by
  simp only [State.count]
  split
  · rfl
  · split
    · exact (State.wr_keepsQueues ..).trans (State.raiseBit_keepsQueues ..)
    · exact State.wr_keepsQueues ..

theorem State.setPm_keepsQueues (s : State) (pm : Nat) : State.KeepsQueues s (s.setPm pm) := by
  unfold State.setPm
  split
  · rfl
  · exact (State.wr_keepsQueues ..).trans (.of_regs (State.trace_regs ..))

theorem State.rd_setPm_other (s : State) (pm : Nat) {o : Nat} (h : o ≠ Reg.LNK_STATUS) : (s.setPm pm).rd o = s.rd o := by
  unfold State.setPm
  split
  · rfl
  · rw [State.rd_congr (State.trace_regs ..) (State.trace_part ..), State.rd_setFld_other _ _ _ _ _ h]

theorem State.wakeLink_keepsQueues (s : State) : State.KeepsQueues s s.wakeLink := by
  simp only [State.wakeLink]
  split
  · rfl
  · refine State.KeepsQueues.trans (.of_regs ?_) ((State.setPm_keepsQueues ..).trans (State.count_keepsQueues ..))
    rfl

theorem woken_keepsQueues (s : State) (agent : Nat) : State.KeepsQueues s (woken s agent) := by
  unfold woken
  split
  · exact s.wakeLink_keepsQueues
  · rfl

/-- The host link's wake from L1 shows in its status, its count of exits, and the sat cause of its page. -/
theorem rd_woken_other (s : State) (agent : Nat) {o : Nat} (h1 : o ≠ Reg.LNK_STATUS) (h2 : o ≠ Reg.LNK_L1_EXITS)
    (h3 : o ≠ hdrOff 0x00C 0x010) : (woken s agent).rd o = s.rd o := by
  unfold woken
  split
  · simp only [State.wakeLink]
    split
    · rfl
    · rw [State.rd_count_other _ _ _ _ h2 h3, State.rd_setPm_other _ _ h1]
      rfl
  · rfl

@[simp] theorem woken_now (s : State) (agent : Nat) : (woken s agent).now = s.now := (woken_same s agent).now
@[simp] theorem woken_tick (s : State) (agent : Nat) : (woken s agent).tick = s.tick := (woken_same s agent).tick
@[simp] theorem woken_pwr (s : State) (agent : Nat) : (woken s agent).pwr = s.pwr := (woken_same s agent).pwr
@[simp] theorem woken_boot (s : State) (agent : Nat) : (woken s agent).boot = s.boot := (woken_same s agent).boot
@[simp] theorem woken_window (s : State) (agent : Nat) : (woken s agent).window = s.window := (woken_same s agent).window
@[simp] theorem woken_hub (s : State) (agent h : Nat) : (woken s agent).hub h = s.hub h := by
  rw [State.hub, (woken_same s agent).hubs, State.hub]
@[simp] theorem woken_restarting (s : State) (agent h : Nat) : (woken s agent).restarting h = s.restarting h := by
  rw [State.restarting, woken_hub, State.restarting]
@[simp] theorem woken_claimOf (s : State) (agent page : Nat) : (woken s agent).claimOf page = s.claimOf page := by
  rw [State.claimOf, show (woken s agent).regs = _ from woken_keepsQueues s agent, State.claimOf]

/-! ### A write of a register that stands alone -/

/-- Where no claim is held, a write that reaches a register outside the header applies there (R114). -/
theorem State.write32_unclaimed {s : State} {agent off : Nat} (h : Reaches s agent off) {b : Block} {inst : Nat} {r : RegSpec}
    (hb : pageOf (off / 0x1000) = some (b, inst)) (hr : specAt off = some r) (ho : 0x40 ≤ off % 0x1000) (hrole : r.role = .single)
    (hc : s.claimOf (off / 0x1000) = none) (v : DWord) :
    s.write32 agent off v = (woken s agent).applyWord agent off r b (BitVec.ofNat 32 v.toNat) none false := by
  have hcommit : Tab.find (woken s agent).regs.commits (off / 0x1000) = none := by
    rw [show (woken s agent).regs = _ from woken_keepsQueues s agent]
    exact h.commit
  have hclaim : (woken s agent).claimOf (off / 0x1000) = none := by rw [woken_claimOf, hc]
  rw [State.write32_reaches h hb hr, State.writeWord]
  simp only [hcommit, hclaim, hrole]
  rw [if_neg (by omega), if_neg (by omega)]

/-- Where the hub of a page does not restart, no write waits for it (R103). -/
theorem State.hubWaits_none {s : State} {b : Block} {inst : Nat} (h : ∀ k, hubOf b inst = some k → s.restarting k = false) :
    s.hubWaits b inst = none := by
  unfold State.hubWaits
  split
  · rfl
  · next k hk => rw [h k hk]; rfl

theorem State.hubWaits_of_hub {s : State} {b : Block} {inst k : Nat} (hk : hubOf b inst = some k) (h : s.restarting k = false) :
    s.hubWaits b inst = none :=
  State.hubWaits_none fun j hj => by
    rw [hk] at hj
    cases hj
    exact h

/-- Written trigger bits are acted on where no hub keeps them waiting. -/
theorem State.actTrigger_now {s : State} {off : Nat} {b : Block} {inst : Nat} (hb : pageOf (off / 0x1000) = some (b, inst))
    (hw : s.hubWaits b inst = none) (agent bits : Nat) (image : Option (List Byte)) (stored : Bool) :
    s.actTrigger agent off bits image stored = s.triggerAct agent b inst (off % 0x1000) bits image stored := by
  simp only [State.actTrigger, hb, hw]

/-- A word that register `off` takes stands there, unless the register's act stores it, and has acted. -/
def State.takeWord (s : State) (agent off : Nat) (b : Block) (inst : Nat) (r : RegSpec) (w : Word) : State :=
  let new := s.merged b r (off % 0x1000) off w
  (if selfStored b (off % 0x1000) then s else s.wr off new).valueAct agent b inst (off % 0x1000) (s.rd off) new

/-- One register's word that is taken, where no hub keeps its act waiting (R103, R114). -/
theorem State.settle_take {s : State} {off : Nat} {b : Block} {inst : Nat} {r : RegSpec} (hb : pageOf (off / 0x1000) = some (b, inst))
    (hr : specAt off = some r) {w : Word} (hv : s.verdict b inst (off % 0x1000) off w = .take) (hw : s.hubWaits b inst = none)
    (agent : Nat) : s.settle [(off, agent, [(off, w)])] = s.takeWord agent off b inst r w := by
  have hact (t : State) (ht : t.hubWaits b inst = none) (old new : Word) :
      t.actValue agent off old new = t.valueAct agent b inst (off % 0x1000) old new := by
    simp only [State.actValue, hb, hr, ht]
  have hjudge : s.judgeWord off w = (.take, s.merged b r (off % 0x1000) off w) := by simp only [State.judgeWord, hb, hr, hv]
  cases hs : selfStored b (off % 0x1000)
  · have hstored := hact (s.wr off (s.merged b r (off % 0x1000) off w)) hw (s.rd off) (s.merged b r (off % 0x1000) off w)
    simp [State.settle, hjudge, hb, hs, State.takeWord, hstored]
  · simp [State.settle, hjudge, hb, hs, State.takeWord, hact s hw]

/-- A write of a register with a value to store: the value is taken, then the triggers in the word are acted on. -/
theorem State.applyWord_take {s : State} {off : Nat} {b : Block} {inst : Nat} {r : RegSpec} (hb : pageOf (off / 0x1000) = some (b, inst))
    (hr : specAt off = some r) (hrw : r.rw ≠ 0) (hl : atFrame b (off % 0x1000) = false) {w : Word}
    (hv : s.verdict b inst (off % 0x1000) off w = .take) (hw : s.hubWaits b inst = none) (agent : Nat) (image : Option (List Byte))
    (stored : Bool) :
    s.applyWord agent off r b w image stored
      = if Nat.land w.toNat (Nat.lor r.w1c (Nat.lor r.w1s r.wo)) = 0 then s.takeWord agent off b inst r w
        else (s.takeWord agent off b inst r w).actTrigger agent off (Nat.land w.toNat (Nat.lor r.w1c (Nat.lor r.w1s r.wo))) image
          stored := by
  simp only [State.applyWord, if_neg hrw, hl, Bool.false_eq_true, if_false, State.settle_take hb hr hv hw]

/-- The trigger bits of a word in which a row sets the bits of `m`. -/
theorem testBit_written (val : Word) {m k i : Nat} (hi : i < 32) (hm : m.testBit i = true) (hk : k.testBit i = true) :
    (Nat.land (BitVec.ofNat 32 (withBits val m).toNat : Word).toNat k).testBit i = true := by
  have h : (BitVec.ofNat 32 (withBits val m).toNat : Word).toNat.testBit i = true := by
    rw [word_of_withBits, BitVec.testBit_toNat, BitVec.getLsbD_or, BitVec.getLsbD_ofNat]
    simp [hi, hm]
  exact (Nat.testBit_and ..).trans (by rw [h, hk]; rfl)

/-- The answer to a write of a whole register by a live part: the effect is the write. -/
theorem runWrite_alive {s : State} {agent off : Nat} (h : Reaches s agent off) (v : DWord) :
    runWrite agent off v s = .next (State.keepCmd (fun _ => s.write32 agent off v) s) := runCmd_alive _ s h.alive

/-- A row whose bit is a trigger of a register with nothing to store sets that trigger off. -/
theorem State.write32_trigger {s : State} {agent off : Nat} (h : Reaches s agent off) {b : Block} {inst : Nat} {r : RegSpec}
    (hb : pageOf (off / 0x1000) = some (b, inst)) (hr : specAt off = some r) (ho : 0x40 ≤ off % 0x1000) (hrole : r.role = .single)
    (hc : s.claimOf (off / 0x1000) = none) (hrw : r.rw = 0) {m i : Nat} (hi : i < 32) (hm : m.testBit i = true)
    (hk : (Nat.lor r.w1c (Nat.lor r.w1s r.wo)).testBit i = true) (val : Word) :
    ∃ bits, bits.testBit i = true
      ∧ s.write32 agent off (withBits val m) = (woken s agent).actTrigger agent off bits none false := by
  have hbit := testBit_written val hi hm hk
  refine ⟨_, hbit, ?_⟩
  rw [State.write32_unclaimed h hb hr ho hrole hc, State.applyWord]
  simp only [hrw, if_true]
  rw [if_neg]
  intro h0
  rw [h0, Nat.zero_testBit] at hbit
  cases hbit

/-! ### RST_CTL (R128, R157) -/

theorem State.wantReset_regs (s : State) (cause : Nat) : (s.wantReset cause).regs = s.regs := by
  unfold State.wantReset
  split <;> rfl

theorem State.wantReset_part (s : State) (cause : Nat) : (s.wantReset cause).part = s.part := by
  unfold State.wantReset
  split <;> rfl

theorem State.wantReset_hubs (s : State) (cause : Nat) : (s.wantReset cause).hubs = s.hubs := by
  unfold State.wantReset
  split <;> rfl

/-- A device reset is asked for unless one runs or is asked for. -/
theorem State.wantReset_resetReq (s : State) (cause : Nat) :
    (s.wantReset cause).boot.resetReq
      = if s.boot.resetting ∨ s.boot.resetReq ≠ none then s.boot.resetReq else some cause := by
  unfold State.wantReset
  by_cases hr : s.boot.resetting = true
  · simp [hr]
  · cases hq : s.boot.resetReq <;> simp [hr, hq]

/-- RST_CTL's bit asks for a device reset, and stands while one that it asked for is due. -/
theorem State.triggerAct_rstCtl (s : State) (agent inst : Nat) {bits : Nat} (hbit : bits.testBit 0 = true)
    (image : Option (List Byte)) (stored : Bool) :
    s.triggerAct agent .rst inst 0x040 bits image stored
      = if s.boot.resetReq.isNone && (s.wantReset 3).boot.resetReq.isSome then (s.wantReset 3).setFld Reg.RST_CTL 0 1 1
        else s.wantReset 3 := by
  simp only [State.triggerAct, State.onBit, hbit, if_true]

/-- The write sets RST_CTL's trigger off, and `State.wantReset` decides. -/
theorem does_rstCtlDeviceReset {s : State} {agent : Nat} (h : Reaches s agent Reg.RST_CTL) (hc : s.claimOf 0x004 = none)
    (hi : s.restarting 0 = false) (val : Word) :
    ∃ u, Does (.rstCtlDeviceReset agent val) s u
      ∧ u.boot.resetReq = (if s.boot.resetting ∨ s.boot.resetReq ≠ none then s.boot.resetReq else some 3)
      ∧ (s.boot.resetReq = none → s.boot.resetting = false → u.bit Reg.RST_CTL 0 = true)
      ∧ ∀ o, o ≠ Reg.RST_CTL → u.rd o = (woken s agent).rd o := by
  refine ⟨_, runWrite_alive h (withBits val 1), ?_⟩
  have hb : pageOf (Reg.RST_CTL / 0x1000) = some (.rst, 0) := by decide
  obtain ⟨bits, hbit, hw⟩ := State.write32_trigger h hb (r := ⟨0x040, 0x0, 1, 0x0, 0x0, 0x1, 0x0, 0x0, .single⟩) (by decide) (by decide)
    rfl hc rfl (i := 0) (m := 1) (by decide) (by decide) (by decide) val
  have hwait : (woken s agent).hubWaits .rst 0 = none := State.hubWaits_of_hub rfl (by rw [woken_restarting, hi])
  rw [hw, State.actTrigger_now hb hwait, show Reg.RST_CTL % 0x1000 = 0x040 from rfl, State.triggerAct_rstCtl _ _ _ hbit]
  have hreq := State.wantReset_resetReq (woken s agent) 3
  rw [woken_boot] at hreq
  refine ⟨?_, fun hq hr => ?_, fun o ho => ?_⟩
  · rw [apply_ite State.boot, State.setFld_boot, ite_self, hreq]
  · rw [if_pos (by simp [hreq, hq, hr]), State.bit_setFld_one _ _ (by decide)]
  · have hsame := State.rd_congr (State.wantReset_regs (woken s agent) 3) (State.wantReset_part _ 3) o
    split
    · rw [State.rd_setFld_other _ _ _ _ _ ho, hsame]
    · exact hsame

/-! ### PRS_CTL (R212) -/

theorem State.closeWindow_window (s : State) : s.closeWindow.window = none := by
  unfold State.closeWindow
  split
  · assumption
  · simp

theorem State.closeWindow_none {s : State} (h : s.window = none) : s.closeWindow = s := by
  simp only [State.closeWindow, h]

/-- The end of a window raises the page's second cause. -/
theorem State.closeWindow_bit {s : State} (h : s.window ≠ none) : s.closeWindow.bit (hdrOff 0x007 0x010) 1 = true := by
  unfold State.closeWindow
  split
  · contradiction
  · exact State.bit_raiseBit_same _ _ (by decide)

/-- PRS is no hub's page, so the window closes at once. -/
theorem does_prsCtlClose {s : State} {agent : Nat} (h : Reaches s agent Reg.PRS_CTL) (hc : s.claimOf 0x007 = none) (val : Word) :
    ∃ u, Does (.prsCtlClose agent val) s u ∧ u.window = none
      ∧ (s.window ≠ none → u.bit (hdrOff 0x007 0x010) 1 = true) ∧ (s.window = none → u = woken s agent) := by
  refine ⟨_, runWrite_alive h (withBits val 1), ?_⟩
  have hb : pageOf (Reg.PRS_CTL / 0x1000) = some (.prs, 0) := by decide
  obtain ⟨bits, hbit, hw⟩ := State.write32_trigger h hb (r := ⟨0x044, 0x0, 1, 0x0, 0x0, 0x1, 0x0, 0x0, .single⟩) (by decide) (by decide)
    rfl hc rfl (i := 0) (m := 1) (by decide) (by decide) (by decide) val
  have hact : s.write32 agent Reg.PRS_CTL (withBits val 1) = (woken s agent).closeWindow := by
    rw [hw, State.actTrigger_now hb (State.hubWaits_none (by simp [hubOf]))]
    exact if_pos hbit
  rw [hact]
  exact ⟨State.closeWindow_window _, fun hn => State.closeWindow_bit (by simpa using hn), fun hn => State.closeWindow_none (by simpa using hn)⟩

/-! ### HUB_CTL (R148) -/

/-- A hub that does not run begins no restart. -/
theorem State.beginRestart_idle {s : State} {h : Nat} (hr : (s.hub h).run ≠ .running) (cause : Nat) (torn : Bool) :
    s.beginRestart h cause torn = s := by
  simp only [State.beginRestart]
  exact if_pos hr

/-- The times of a hub's restarts of the last second, with one that begins now (R148). -/
def State.restartTimes (s : State) (h : Nat) : List Nat := s.now :: (s.hub h).recent.filter fun t => s.now < t + 1_000_000

/-- Hub `h` stands in a restart that begins now, with the times of its latest restarts. -/
def State.enterRestart (s : State) (h cause : Nat) (recent : List Nat) : State :=
  let x : Hub := { run := .restarting, cause := cause, since := s.now, sinceTick := s.tick.number, recent := recent, missed := false }
  { s with hubs := Tab.put s.hubs h x }

/-- What a restart that begins leaves in the registers of its hub's page, and in the trace. -/
def State.showRestart (s : State) (h : Nat) : State :=
  let t := s.count (Reg.HUB_RESTARTS h) 1
  (((t.wr64 (Reg.HUB_LAST_TICK_LO h) t.tick.number.toNat).setFld (Reg.HUB_CTL h) 0 1 0).raiseBit (0x008 + h) 0).trace 15 h 0 0

/-- What a restarting hub lets go: its claims, its held words, and for the BOOT hub retraining windows and the store's operation. -/
def State.dropHubWork (s : State) (h : Nat) : State :=
  let t := s.loseClaims fun a => a = 0x10 + h
  let t := { t with regs := { t.regs with heldLo := t.regs.heldLo.filter fun y => y.1.1 ≠ 0x10 + h } }
  if h = 0 then
    ((List.range t.chanCount).foldl (fun s n =>
      if (s.chan n).window then s.setChan n { s.chan n with window := false, due := true } else s) t).interruptFw
  else t

/-- The restart of a running hub, its escalation to a device reset apart. -/
def State.startRestart (s : State) (h cause : Nat) (torn : Bool) : State :=
  (((if torn then s.tearLog h else s).enterRestart h cause (s.restartTimes h)).showRestart h).dropHubWork h

theorem State.beginRestart_running {s : State} {h : Nat} (hr : (s.hub h).run = .running) (cause : Nat) (torn : Bool) :
    s.beginRestart h cause torn
      = if 3 ≤ (s.restartTimes h).length then (s.startRestart h cause torn).wantReset 5 else s.startRestart h cause torn := by
  rw [State.beginRestart]
  exact if_neg (not_not_intro hr)

theorem State.showRestart_fixed (s : State) (h : Nat) : (s.showRestart h).fixed = s.fixed := by
  simp only [State.showRestart, State.trace_fixed, State.raiseBit_fixed, State.setFld_fixed, State.wr64_fixed, State.count_fixed]

theorem State.dropHubWork_fixed (s : State) (h : Nat) : (s.dropHubWork h).fixed = s.fixed := by
  unfold State.dropHubWork
  simp only [State.fixed_ite]
  split
  · rw [State.interruptFw_fixed, State.fixed_foldl]
    · exact s.loseClaims_fixed _
    · intro t n
      split
      · exact State.setChan_fixed ..
      · rfl
  · exact s.loseClaims_fixed _

theorem State.startRestart_hubs (s : State) (h cause : Nat) (torn : Bool) :
    (s.startRestart h cause torn).hubs = (s.enterRestart h cause (s.restartTimes h)).hubs := by
  have htorn : (if torn then s.tearLog h else s).fixed = s.fixed := by
    split
    · exact s.tearLog_fixed h
    · rfl
  rw [State.startRestart, State.hubs_of_fixed ((State.dropHubWork_fixed _ h).trans (State.showRestart_fixed _ h))]
  simp only [State.enterRestart, State.hubs_of_fixed htorn, State.now_of_fixed htorn, State.tick_of_fixed htorn]

/-- A running hub restarts from now with the cause; no other hub changes. -/
theorem State.hub_beginRestart {s : State} {h : Nat} (hr : (s.hub h).run = .running) (cause : Nat) (torn : Bool) (k : Nat) :
    (s.beginRestart h cause torn).hub k = (s.enterRestart h cause (s.restartTimes h)).hub k := by
  rw [State.hub, State.hub, State.beginRestart_running hr, apply_ite State.hubs, State.wantReset_hubs, ite_self,
    State.startRestart_hubs]

theorem pageOf_HUB_CTL {hub : Nat} (h : hub < 4) : pageOf (Reg.HUB_CTL hub / 0x1000) = some (.hub, hub) := by
  interval_cases hub <;> decide

theorem specAt_HUB_CTL {hub : Nat} (h : hub < 4) :
    specAt (Reg.HUB_CTL hub) = some ⟨0x044, 0x0, 1, 0x0, 0x0, 0x1, 0x0, 0x0, .single⟩ := by
  interval_cases hub <;> decide

/-- HUB_CTL's bit begins a restart with cause 1, which a hub that restarts passes over (R148). -/
theorem State.actTrigger_hubCtl (s : State) {hub : Nat} (h : hub < 4) (agent : Nat) {bits : Nat} (hbit : bits.testBit 0 = true)
    (image : Option (List Byte)) (stored : Bool) :
    s.actTrigger agent (Reg.HUB_CTL hub) bits image stored = s.beginRestart hub 1 false := by
  have ho : Reg.HUB_CTL hub % 0x1000 = 0x044 := by simp only [Reg.HUB_CTL]; omega
  have hact : s.triggerAct agent .hub hub 0x044 bits image stored = s.beginRestart hub 1 false := if_pos hbit
  simp only [State.actTrigger, pageOf_HUB_CTL h, ho, hact]
  split <;> rfl

/-- A row of HUB_CTL is `State.beginRestart` of its hub. -/
theorem does_hubRestartRequest {s : State} {agent hub : Nat} (hlt : hub < 4) (h : Reaches s agent (Reg.HUB_CTL hub))
    (hc : s.claimOf (0x008 + hub) = none) (val : Word) :
    ∃ u, Does (.hubRestartRequest agent hub val) s u
      ∧ (if (s.hub hub).run = .running then (u.hub hub).run = .restarting ∧ (u.hub hub).cause = 1 ∧ (u.hub hub).since = s.now
        else u = woken s agent) ∧ ∀ h, h ≠ hub → u.hub h = s.hub h := by
  have hpage : Reg.HUB_CTL hub / 0x1000 = 0x008 + hub := by simp only [Reg.HUB_CTL]; omega
  have ho : 0x40 ≤ Reg.HUB_CTL hub % 0x1000 := by simp only [Reg.HUB_CTL]; omega
  obtain ⟨bits, hbit, hw⟩ := State.write32_trigger h (pageOf_HUB_CTL hlt) (specAt_HUB_CTL hlt) ho rfl (hpage ▸ hc) rfl (i := 0) (m := 1)
    (by decide) (by decide) (by decide) val
  refine ⟨(woken s agent).beginRestart hub 1 false, ?_, ?_⟩
  · have hrow := runWrite_alive h (withBits val 1)
    rw [hw, State.actTrigger_hubCtl _ hlt _ hbit] at hrow
    rw [Does, ← hrow]
    show runWrite agent (Reg.HUB_CTL (hub % 4)) _ s = _
    rw [Nat.mod_eq_of_lt hlt]
  · by_cases hr : (s.hub hub).run = .running
    · have hhub := State.hub_beginRestart (s := woken s agent) (by rw [woken_hub, hr]) 1 false
      have hself : ((woken s agent).beginRestart hub 1 false).hub hub = _ := (hhub hub).trans (Tab.get_put_same ..)
      rw [if_pos hr, hself]
      refine ⟨⟨rfl, rfl, woken_now s agent⟩, fun k hk => ?_⟩
      exact (hhub k).trans ((Tab.get_put_other _ _ _ _ _ hk).trans (woken_hub s agent k))
    · rw [if_neg hr, State.beginRestart_idle (by rwa [woken_hub])]
      exact ⟨rfl, fun k _ => woken_hub s agent k⟩

/-! ### PWR_STATE_CTL (R67) -/

/-- PWR_STATE_CTL's request bit asks for the state that its target field holds, from now (R67). -/
def State.requestState (s : State) : State :=
  ({ s with pwr := { s.pwr with request := some (s.fld Reg.PWR_STATE_CTL 0 3, s.now) } }.setFld Reg.PWR_STATE_CTL 31 1 1).setFld
    Reg.PWR_STATE 4 3 1

theorem State.requestState_pwr (s : State) :
    s.requestState.pwr = { s.pwr with request := some (s.fld Reg.PWR_STATE_CTL 0 3, s.now) } := rfl

theorem State.requestState_bit (s : State) : s.requestState.bit Reg.PWR_STATE_CTL 31 = true := by
  rw [State.requestState, State.bit, State.rd_setFld_other _ _ _ _ _ (by decide)]
  exact State.bit_setFld_one _ _ (by decide)

theorem State.rd_requestState_other (s : State) {o : Nat} (h1 : o ≠ Reg.PWR_STATE_CTL) (h2 : o ≠ Reg.PWR_STATE) :
    s.requestState.rd o = s.rd o := by
  rw [State.requestState, State.rd_setFld_other _ _ _ _ _ h2, State.rd_setFld_other _ _ _ _ _ h1]
  rfl

/-- The row of PWR_STATE_CTL in its register table. -/
def pwrStateCtl : RegSpec := ⟨0x044, 0x0, 1, 0x3F, 0x0, 0x80000000, 0x0, 0x2B, .single⟩

/-- A request stores the target that it names before it acts. -/
theorem State.write32_pwrStateCtl {s : State} {agent : Nat} (h : Reaches s agent Reg.PWR_STATE_CTL) (hc : s.claimOf 0x001 = none)
    (hi : s.restarting 1 = false) (val : Word) :
    s.write32 agent Reg.PWR_STATE_CTL (withBits val (2 ^ 31))
      = ((woken s agent).wr Reg.PWR_STATE_CTL ((woken s agent).merged .pwr pwrStateCtl 0x044 Reg.PWR_STATE_CTL
          (BitVec.ofNat 32 (withBits val (2 ^ 31)).toNat))).requestState := by
  have hb : pageOf (Reg.PWR_STATE_CTL / 0x1000) = some (.pwr, 0) := by decide
  have hr : specAt Reg.PWR_STATE_CTL = some pwrStateCtl := by decide
  have hwait : (woken s agent).hubWaits .pwr 0 = none := State.hubWaits_of_hub rfl (by rw [woken_restarting, hi])
  have hbit : (Nat.land (BitVec.ofNat 32 (withBits val (2 ^ 31)).toNat : Word).toNat
      (Nat.lor pwrStateCtl.w1c (Nat.lor pwrStateCtl.w1s pwrStateCtl.wo))).testBit 31 = true :=
    testBit_written val (by decide) (by decide) (by decide)
  have htake (w : Word) : (woken s agent).takeWord agent Reg.PWR_STATE_CTL .pwr 0 pwrStateCtl w
      = (woken s agent).wr Reg.PWR_STATE_CTL ((woken s agent).merged .pwr pwrStateCtl 0x044 Reg.PWR_STATE_CTL w) := rfl
  have hthen (w : Word) : ((woken s agent).wr Reg.PWR_STATE_CTL w).hubWaits .pwr 0 = none := hwait
  rw [State.write32_unclaimed h hb hr (by decide) rfl hc, State.applyWord_take hb hr (by decide) rfl rfl hwait, htake, if_neg,
    State.actTrigger_now hb (hthen _)]
  · exact if_pos hbit
  · intro h0
    rw [h0, Nat.zero_testBit] at hbit
    cases hbit

/-- The target that is stored is the one written. -/
theorem State.fld_merged_pwrStateCtl (s : State) (val : Word) :
    Word.fld (s.merged .pwr pwrStateCtl 0x044 Reg.PWR_STATE_CTL (BitVec.ofNat 32 (withBits val (2 ^ 31)).toNat)) 0 3
      = Word.fld val 0 3 := by
  refine Word.fld_eq_of_bits fun i hi => ?_
  simp only [State.merged, lowBits, pow_zero, Nat.div_one, Nat.mul_one, word_of_withBits]
  rw [getLsbD_replace _ _ (by omega)]
  · interval_cases i <;> simp
  · interval_cases i <;> decide

/-- The target is stored first, so that it is what the request names. -/
theorem does_pwrStateRequest {s : State} {agent : Nat} (h : Reaches s agent Reg.PWR_STATE_CTL) (hc : s.claimOf 0x001 = none)
    (hi : s.restarting 1 = false) (val : Word) :
    ∃ u, Does (.pwrStateRequest agent val) s u
      ∧ u.pwr.request = some (Word.fld val 0 3, s.now) ∧ u.bit Reg.PWR_STATE_CTL 31 = true ∧ u.pwr.st = s.pwr.st
      ∧ ∀ o, o ≠ Reg.PWR_STATE_CTL → o ≠ Reg.PWR_STATE → u.rd o = (woken s agent).rd o := by
  refine ⟨_, runWrite_alive h (withBits val (2 ^ 31)), ?_⟩
  rw [State.write32_pwrStateCtl h hc hi]
  refine ⟨?_, State.requestState_bit _, ?_, fun o h1 h2 => ?_⟩
  · rw [State.requestState_pwr, State.fld, State.rd_wr_same, State.fld_merged_pwrStateCtl, State.wr_now, woken_now]
  · rw [State.requestState_pwr, State.wr_pwr, woken_pwr]
  · rw [State.rd_requestState_other _ h1 h2, State.rd_wr_other _ _ _ _ h1]

/-! ### CLK_TICK_CTL (R18) -/

/-- A selection is judged by the registers of the PCM directions, which the tick's own register is not among. -/
theorem State.slavedOk_wr_tickCtl (s : State) (w : Word) (length source : Nat) :
    (s.wr Reg.CLK_TICK_CTL w).slavedOk length source = s.slavedOk length source := by
  have hctl (p d : Nat) : (s.wr Reg.CLK_TICK_CTL w).rd (pcmCtl p d) = s.rd (pcmCtl p d) :=
    State.rd_wr_other _ _ _ _ (by simp only [pcmCtl, Reg.PCM_TX_CTL, Reg.CLK_TICK_CTL]; omega)
  have hrate (p d : Nat) : (s.wr Reg.CLK_TICK_CTL w).rd (pcmRate p d) = s.rd (pcmRate p d) :=
    State.rd_wr_other _ _ _ _ (by simp only [pcmRate, Reg.PCM_TX_RATE, Reg.CLK_TICK_CTL]; omega)
  unfold State.slavedOk State.bit State.fld
  rw [hctl, hrate]

/-- A selection that can stand is registered and stands in the register. -/
theorem State.tickWrite_taken {s : State} {w : Word} (h : s.slavedOk (Word.fld w 0 2) (Word.fld w 4 3) = true) :
    s.tickWrite w = { s.wr Reg.CLK_TICK_CTL (w &&& 0x73) with
      tick := { s.tick with pend := some (Word.fld w 0 2, Word.fld w 4 3, s.now), refused := false } } := by
  have hword : BitVec.ofNat 32 (Nat.land w.toNat 0x73) = w &&& 0x73 := by
    apply BitVec.eq_of_toNat_eq
    exact Nat.mod_eq_of_lt (lt_of_le_of_lt Nat.and_le_left w.isLt)
  rw [State.tickWrite, if_pos h, State.tickCtl, State.slavedOk_wr_tickCtl, if_pos h, hword]
  rfl

theorem State.tickWrite_refused {s : State} {w : Word} (h : s.slavedOk (Word.fld w 0 2) (Word.fld w 4 3) ≠ true) :
    s.tickWrite w = s.tickRefused := by
  rw [State.tickWrite, if_neg h]

/-- The row of CLK_TICK_CTL in its register table. -/
def clkTickCtl : RegSpec := ⟨0x04C, 0x0, 1, 0x73, 0x0, 0x0, 0x0, 0x2, .single⟩

/-- A write of the tick's register is judged as the word that its fields would hold. -/
theorem State.write32_tickCtl {s : State} {agent : Nat} (h : Reaches s agent Reg.CLK_TICK_CTL) (hc : s.claimOf 0x002 = none)
    (hi : s.restarting 1 = false) (val : Word) :
    s.write32 agent Reg.CLK_TICK_CTL (withBits val 0)
      = (woken s agent).tickWrite ((woken s agent).merged .clk clkTickCtl 0x04C Reg.CLK_TICK_CTL val) := by
  have hb : pageOf (Reg.CLK_TICK_CTL / 0x1000) = some (.clk, 0) := by decide
  have hr : specAt Reg.CLK_TICK_CTL = some clkTickCtl := by decide
  have hwait : (woken s agent).hubWaits .clk 0 = none := State.hubWaits_of_hub rfl (by rw [woken_restarting, hi])
  have hval : BitVec.ofNat 32 (withBits val 0).toNat = val := by rw [word_of_withBits]; simp
  rw [State.write32_unclaimed h hb hr (by decide) rfl hc, hval, State.applyWord_take hb hr (by decide) rfl rfl hwait]
  exact if_pos (Nat.and_zero _)

theorem State.merged_tickCtl (s : State) (val : Word) :
    s.merged .clk clkTickCtl 0x04C Reg.CLK_TICK_CTL val
      = BitVec.ofNat 32 ((s.rd Reg.CLK_TICK_CTL).toNat - Nat.land (s.rd Reg.CLK_TICK_CTL).toNat 0x73 + Nat.land val.toNat 0x73) := by
  simp only [State.merged, lowBits, pow_zero, Nat.div_one, Nat.mul_one, clkTickCtl]

/-- The length and the source in the merged word are those written. -/
theorem State.fld_merged_tickCtl (s : State) (val : Word) {lo n : Nat} (h : (lo = 0 ∧ n = 2) ∨ (lo = 4 ∧ n = 3)) :
    Word.fld (s.merged .clk clkTickCtl 0x04C Reg.CLK_TICK_CTL val) lo n = Word.fld val lo n := by
  rw [State.merged_tickCtl]
  refine Word.fld_eq_of_bits fun i hi => getLsbD_replace _ _ (by omega) ?_
  obtain ⟨rfl, rfl⟩ | ⟨rfl, rfl⟩ := h
  · interval_cases i <;> decide
  · interval_cases i <;> decide

theorem State.tickRefused_tick (s : State) : s.tickRefused.tick = { s.tick with refused := true } := by
  rw [State.tickRefused, State.raiseBit_tick]

theorem State.rd_tickRefused_other (s : State) {o : Nat} (h : o ≠ hdrOff 0x002 0x010) : s.tickRefused.rd o = s.rd o := by
  rw [State.tickRefused, State.rd_raiseBit_other _ _ _ _ h]
  rfl

/-- The selection is judged, and the register written, by the tick generator's own rule. -/
theorem does_tickCtlWrite {s : State} {agent : Nat} (h : Reaches s agent Reg.CLK_TICK_CTL) (hc : s.claimOf 0x002 = none)
    (hi : s.restarting 1 = false) (val : Word) :
    ∃ u, Does (.tickCtlWrite agent val) s u
      ∧ (if (woken s agent).slavedOk (Word.fld val 0 2) (Word.fld val 4 3) = true then
          u.tick = { s.tick with pend := some (Word.fld val 0 2, Word.fld val 4 3, s.now), refused := false }
          ∧ u.rd Reg.CLK_TICK_CTL = val &&& 0x73
        else u.tick = { s.tick with refused := true } ∧ u.rd Reg.CLK_TICK_CTL = s.rd Reg.CLK_TICK_CTL
          ∧ u.bit (hdrOff 0x002 0x010) 0 = true) := by
  refine ⟨_, runWrite_alive h (withBits val 0), ?_⟩
  rw [State.write32_tickCtl h hc hi]
  have hlength := State.fld_merged_tickCtl (woken s agent) val (.inl ⟨rfl, rfl⟩)
  have hsource := State.fld_merged_tickCtl (woken s agent) val (.inr ⟨rfl, rfl⟩)
  split
  · next hok =>
    rw [State.tickWrite_taken (by rw [hlength, hsource, hok]), hlength, hsource, woken_tick, woken_now]
    refine ⟨rfl, (State.rd_wr_same _ _ _).trans ?_⟩
    rw [State.merged_tickCtl]
    exact word_replace_and _ _ 0x73
  · next hok =>
    rw [State.tickWrite_refused (by rwa [hlength, hsource])]
    refine ⟨?_, ?_, State.bit_raiseBit_same _ _ (by decide)⟩
    · rw [State.tickRefused_tick, woken_tick]
    · rw [State.rd_tickRefused_other _ (by decide), rd_woken_other _ _ (by decide) (by decide) (by decide)]

/-! ### HUB_IFACE_CTL (R143) -/

theorem State.setFw_fw (s : State) (fw : FwState) : (s.setFw fw).boot.fw = fw := by
  unfold State.setFw
  split
  · assumption
  · rw [State.raiseBit_boot]

theorem State.rd_setFw_other (s : State) (fw : FwState) {o : Nat} (h : o ≠ hdrOff 0x008 0x010) : (s.setFw fw).rd o = s.rd o := by
  unfold State.setFw
  split
  · rfl
  · rw [State.rd_raiseBit_other _ _ _ _ h]
    rfl

theorem State.rd_fwEntry (s : State) (code o : Nat) : (s.fwEntry code).rd o = s.rd o :=
  State.rd_congr (State.journal_regs ..) (State.journal_part ..) o

@[simp] theorem State.fwEntry_boot (s : State) (code : Nat) : (s.fwEntry code).boot = s.boot := State.journal_boot ..
@[simp] theorem State.offerResult_boot (s : State) (result minor : Nat) : (s.offerResult result minor).boot = s.boot := rfl

/-- An offer's result and the minor agreed stand in their fields of HUB_IFACE_CTL. -/
theorem State.offerResult_fields (s : State) {result : Nat} (hr : result < 4) (minor : Nat) :
    (s.offerResult result minor).fld Reg.HUB_IFACE_CTL 4 2 = result
      ∧ (s.offerResult result minor).fld Reg.HUB_IFACE_CTL 16 16 = minor % 65536 := by
  simp only [State.fld, State.offerResult, State.rd_wr_same, Word.fld, bitsOf, BitVec.toNat_ofNat]
  constructor <;> omega

/-- The offer is withdrawn as it is evaluated. -/
def State.takeOffer (s : State) : State := { s with boot := { s.boot with offer := false } }

/-- An offer of the firmware's major has its result, and no refusal waits (R143, R144). -/
def State.acceptOffer (s : State) : State :=
  let t := (s.takeOffer.offerResult 1 (min (s.fld Reg.HUB_IFACE_DRIVER 0 16) (fwMinor s.boot.image))).fwEntry 1
  { t with boot := { t.boot with refuseAt := none } }

/-- An offer of another major has its result. -/
def State.refuseOffer (s : State) : State := (s.takeOffer.offerResult 2 (s.fld Reg.HUB_IFACE_CTL 16 16)).fwEntry 2

/-- What an accepted offer does to the firmware state (Table 5-7). -/
def State.afterAccepted (s : State) : State :=
  match s.boot.fw with
  | .waitDriver => s.setFw .running
  | .refused => ({ s with boot := { s.boot with admitHold := true } }).setFw .running
  | .booting | .recovery | .running => s

/-- What a refused offer does to the firmware state (Table 5-7, R144). -/
def State.afterRefused (s : State) (major : Nat) : State :=
  match s.boot.fw with
  | .waitDriver => s.setFw .refused
  | .running => { s with boot := { s.boot with refuseAt := some major } }
  | .booting | .recovery | .refused => s

theorem State.evaluateOffer_eq (s : State) :
    s.evaluateOffer = if s.fld Reg.HUB_IFACE_DRIVER 16 16 = fwMajor s.boot.image then s.acceptOffer.afterAccepted
      else s.refuseOffer.afterRefused (s.fld Reg.HUB_IFACE_DRIVER 16 16) := rfl

theorem State.acceptOffer_fw (s : State) : s.acceptOffer.boot.fw = s.boot.fw := by
  simp only [State.acceptOffer, State.fwEntry_boot, State.offerResult_boot, State.takeOffer]

theorem State.refuseOffer_fw (s : State) : s.refuseOffer.boot.fw = s.boot.fw := by
  simp only [State.refuseOffer, State.fwEntry_boot, State.offerResult_boot, State.takeOffer]

theorem State.rd_acceptOffer (s : State) (o : Nat) :
    s.acceptOffer.rd o
      = (s.takeOffer.offerResult 1 (min (s.fld Reg.HUB_IFACE_DRIVER 0 16) (fwMinor s.boot.image))).rd o :=
  State.rd_fwEntry (s.takeOffer.offerResult 1 (min (s.fld Reg.HUB_IFACE_DRIVER 0 16) (fwMinor s.boot.image))) 1 o

theorem State.rd_refuseOffer (s : State) (o : Nat) :
    s.refuseOffer.rd o = (s.takeOffer.offerResult 2 (s.fld Reg.HUB_IFACE_CTL 16 16)).rd o := State.rd_fwEntry ..

/-- In WAIT_DRIVER an offer of the firmware's major starts service. -/
theorem State.evaluateOffer_accepted {s : State} (hfw : s.boot.fw = .waitDriver)
    (hm : s.fld Reg.HUB_IFACE_DRIVER 16 16 = fwMajor s.boot.image) : s.evaluateOffer = s.acceptOffer.setFw .running := by
  rw [State.evaluateOffer_eq, if_pos hm, State.afterAccepted, State.acceptOffer_fw, hfw]

/-- In WAIT_DRIVER an offer of another major is refused. -/
theorem State.evaluateOffer_refused {s : State} (hfw : s.boot.fw = .waitDriver)
    (hm : s.fld Reg.HUB_IFACE_DRIVER 16 16 ≠ fwMajor s.boot.image) : s.evaluateOffer = s.refuseOffer.setFw .refused := by
  rw [State.evaluateOffer_eq, if_neg hm, State.afterRefused, State.refuseOffer_fw, hfw]

/-- In BOOTING an offer is held. -/
theorem State.makeOffer_booting {s : State} (hfw : s.boot.fw = .booting) :
    s.makeOffer.boot.offer = true ∧ s.makeOffer.boot.fw = .booting := by
  rw [State.makeOffer, if_pos hfw]
  exact ⟨rfl, hfw⟩

/-- The interface's register is not the one in which a change of the firmware state shows. -/
theorem State.fld_setFw_ifaceCtl (s : State) (fw : FwState) (lo n : Nat) :
    (s.setFw fw).fld Reg.HUB_IFACE_CTL lo n = s.fld Reg.HUB_IFACE_CTL lo n := by
  rw [State.fld, State.rd_setFw_other _ _ (by decide), State.fld]

theorem State.makeOffer_accepted {s : State} (hfw : s.boot.fw = .waitDriver)
    (hm : s.fld Reg.HUB_IFACE_DRIVER 16 16 = fwMajor s.boot.image) :
    s.makeOffer.boot.fw = .running ∧ s.makeOffer.fld Reg.HUB_IFACE_CTL 4 2 = 1
      ∧ s.makeOffer.fld Reg.HUB_IFACE_CTL 16 16 = min (s.fld Reg.HUB_IFACE_DRIVER 0 16) (fwMinor s.boot.image) % 65536 := by
  rw [State.makeOffer, if_neg (by simp [hfw]), State.evaluateOffer_accepted hfw hm, State.fld_setFw_ifaceCtl,
    State.fld_setFw_ifaceCtl, State.fld, State.fld, State.rd_acceptOffer]
  exact ⟨State.setFw_fw _ _, State.offerResult_fields _ (by decide) _⟩

theorem State.makeOffer_refused {s : State} (hfw : s.boot.fw = .waitDriver)
    (hm : s.fld Reg.HUB_IFACE_DRIVER 16 16 ≠ fwMajor s.boot.image) :
    s.makeOffer.boot.fw = .refused ∧ s.makeOffer.fld Reg.HUB_IFACE_CTL 4 2 = 2 := by
  rw [State.makeOffer, if_neg (by simp [hfw]), State.evaluateOffer_refused hfw hm, State.fld_setFw_ifaceCtl, State.fld,
    State.rd_refuseOffer]
  exact ⟨State.setFw_fw _ _, (State.offerResult_fields _ (by decide) _).1⟩

/-- The offer that a write makes is judged by the driver's version, which the host link's wake leaves. -/
theorem does_hubIfaceOffer {s : State} {agent : Nat} (h : Reaches s agent Reg.HUB_IFACE_CTL) (hc : s.claimOf 0x008 = none)
    (hi : s.restarting 0 = false) (val : Word) :
    ∃ u, Does (.hubIfaceOffer agent val) s u
      ∧ (s.boot.fw = .booting → u.boot.offer = true ∧ u.boot.fw = .booting)
      ∧ (s.boot.fw = .waitDriver → s.fld Reg.HUB_IFACE_DRIVER 16 16 = fwMajor s.boot.image →
          u.boot.fw = .running ∧ u.fld Reg.HUB_IFACE_CTL 4 2 = 1
          ∧ u.fld Reg.HUB_IFACE_CTL 16 16 = min (s.fld Reg.HUB_IFACE_DRIVER 0 16) (fwMinor s.boot.image) % 65536)
      ∧ (s.boot.fw = .waitDriver → s.fld Reg.HUB_IFACE_DRIVER 16 16 ≠ fwMajor s.boot.image →
          u.boot.fw = .refused ∧ u.fld Reg.HUB_IFACE_CTL 4 2 = 2) := by
  refine ⟨_, runWrite_alive h (withBits val 1), ?_⟩
  have hb : pageOf (Reg.HUB_IFACE_CTL / 0x1000) = some (.hub, 0) := by decide
  obtain ⟨bits, hbit, hw⟩ := State.write32_trigger h hb (r := ⟨0x110, 0x0, 1, 0x0, 0x0, 0x1, 0x0, 0x0, .single⟩) (by decide) (by decide)
    rfl hc rfl (i := 0) (m := 1) (by decide) (by decide) (by decide) val
  have hact : s.write32 agent Reg.HUB_IFACE_CTL (withBits val 1) = (woken s agent).makeOffer := by
    rw [hw, State.actTrigger_now hb (State.hubWaits_of_hub rfl (by rw [woken_restarting, hi]))]
    exact if_pos hbit
  have hdriver (lo n : Nat) : (woken s agent).fld Reg.HUB_IFACE_DRIVER lo n = s.fld Reg.HUB_IFACE_DRIVER lo n := by
    rw [State.fld, rd_woken_other _ _ (by decide) (by decide) (by decide), State.fld]
  have haccepted := State.makeOffer_accepted (s := woken s agent)
  have hrefused := State.makeOffer_refused (s := woken s agent)
  rw [hdriver, hdriver, woken_boot] at haccepted
  rw [hdriver, woken_boot] at hrefused
  rw [hact]
  exact ⟨fun hfw => State.makeOffer_booting (by rw [woken_boot, hfw]), haccepted, hrefused⟩

/-- Settles O20, register by register. -/
theorem controlsTakeEffect : Obligations.ControlsTakeEffect := fun _ _ val =>
  ⟨fun h hc hi => does_rstCtlDeviceReset h hc hi val, fun h hc hi => does_pwrStateRequest h hc hi val,
    fun h hc hi => does_tickCtlWrite h hc hi val, fun h hc => does_prsCtlClose h hc val,
    fun _ hlt h hc => does_hubRestartRequest hlt h hc val, fun h hc hi => does_hubIfaceOffer h hc hi val⟩

end Sys2Proof.Machine

namespace Sys2Proof
open Sys2Proof.Machine

theorem SameFuses.of_eq {p q : Part} (h : q = p) : SameFuses p q := h ▸ SameFuses.refl p

end Sys2Proof
namespace Sys2Proof.Machine
open Sys2Proof

/-! ### What is fused into a part (R48, R133, R138, R215, R444) -/

@[simp] theorem State.coldReset_part (s : State) (cause : Nat) : (s.coldReset cause).part = s.part := rfl
@[simp] theorem State.vinLost_part (s : State) : s.vinLost.part = s.part := rfl

@[simp] theorem State.closeWindow_part (s : State) : s.closeWindow.part = s.part := by
  unfold State.closeWindow
  split
  · rfl
  · rw [State.raiseBit_part, State.journal_part]

@[simp] theorem State.resetnReset_part (s : State) : s.resetnReset.part = s.part := s.closeWindow_part

/-- A pulse of RESET_N resets the block, not the part (R128). -/
theorem execResetNPulse_part {n : Nat} {s t : State} (h : execResetNPulse n s = .next t) : t.part = s.part := by
  simp only [execResetNPulse] at h
  split_ifs at h
  · cases h
    rfl
  · cases h
    exact s.resetnReset_part
  · cases h
    exact State.resetnReset_part _
  · cases h
    rfl

theorem execVinRise_part {s t : State} (h : execVinRise s = .next t) : t.part = s.part := by
  unfold execVinRise at h
  split at h
  · cases h
    exact s.coldReset_part 1
  · cases h

theorem execVinLoss_part {s t : State} (h : execVinLoss s = .next t) : t.part = s.part := by
  unfold execVinLoss at h
  cases h
  split
  · rfl
  · exact s.vinLost_part

theorem execColdReset_part {b : BootIn} {s t : State} (h : execColdReset b s = .next t) : t.part = s.part := by
  unfold execColdReset at h
  split at h
  · cases h
    rfl
  · split at h
    · cases h
      rfl
    · cases h

theorem execTickEdge_fuses {a : AudioIn} {u : Nat} {s t : State} (h : execTickEdge a u s = .next t) : SameFuses s.part t.part := by
  by_cases ha : s.alive = true
  · obtain ⟨-, -, -, hfuses⟩ := execTickEdge_next ha h
    exact hfuses
  · rw [execTickEdge, if_pos (by simpa using ha)] at h
    cases h
    exact SameFuses.refl _

/-- Every command leaves what is fused into the part: a reset leaves the whole part, any other row its fuses. -/
theorem exec_fuses {c : Instr} {s t : State} (h : exec c s = .next t) : SameFuses s.part t.part := by
  by_cases hc : resetsOrTicks c = false
  · exact ((exec_sound c s hc).next t h).fuses
  · cases c
    case vinRise => exact .of_eq (execVinRise_part h)
    case vinLoss => exact .of_eq (execVinLoss_part h)
    case resetNPulse => exact .of_eq (execResetNPulse_part h)
    case coldReset => exact .of_eq (execColdReset_part h)
    case tickEdge => exact execTickEdge_fuses h
    all_goals exact absurd rfl hc

/-- Settles O8: the part of the state at reset is a fresh part. -/
theorem fusesAtReset : Obligations.FusesAtReset := SameFuses.refl Part.fresh

/-- Settles O7: an idle step keeps the part, and a step that runs the command in front does what `exec_fuses` says of it. -/
theorem fusesStay : Obligations.FusesStay := by
  intro p s t hp h
  unfold step at h
  split at h
  · cases h
    exact hp
  · have hfuses := exec_fuses h
    exact hp.trans hfuses

/-! ### A part in OFF or in factory test (R51, R60) -/

/-- An answer that a live part alone gives, where the part is not alive. -/
theorem guarded_dead {s : State} (h : s.alive = false) (a : Answer) : (if !s.alive then .next s else a) = .next s :=
  if_pos (by rw [h]; rfl)

theorem runCmd_dead {s : State} (h : s.alive = false) (f : State → State) : runCmd f s = .next s := if_neg (by simp [h])

/-- A part that is not alive answers every row but the three of its supply and RESET_N with the state as it is: a row that always has
an effect is a `runCmd`, and every other row asks first whether the part is alive. -/
theorem exec_dead {s : State} (h : s.alive = false) (c : Instr) (hrise : c ≠ .vinRise) (hloss : c ≠ .vinLoss)
    (hpulse : ∀ n, c ≠ .resetNPulse n) : exec c s = .next s := by
  cases c
  case vinRise => exact absurd rfl hrise
  case vinLoss => exact absurd rfl hloss
  case resetNPulse n => exact absurd rfl (hpulse n)
  case rstCtlDeviceReset | pwrStateRequest | tickCtlWrite | prsCtlClose | hdrClaimClaim | hdrClaimCommit | hdrClaimAbandon
    | hdrIntStatusClear | hdrIntEnableWrite | hdrIntSet | hdrErrClear | registerWrite | counterClear | hubRestartRequest
    | hubIfaceOffer | fwOpWrite | fwOpRollback | fwOpConfirm | fwOpRecoveryRun | fwOpReset | fwOpInvalid | rdrSqTail | rdrCqHead
    | jnlReadIdx | jnlDumpGo | strReadIdx | kvcSeqReadIdx | rdrCtlReset | tanPortRetrain | tanPortUnpair | tanPortWakePeer
    | safCtlForce | safCtlRelease | safCtlStore | safCeilClear | safPrivClear | safTestCeiling | safTestTag | safTestLamp
    | trcLogRead | trcObjRead | trcSnapGo | thmSample | lockstepMismatch | islandThermalSample | islandSensorCompare =>
    exact runCmd_dead h _
  all_goals exact guarded_dead h _

/-- Settles O6: `exec_dead`. -/
theorem deadPartKeepsItsState : Obligations.DeadPartKeepsItsState :=
  fun _ c h hrise hloss hpulse => exec_dead h c hrise hloss hpulse

/-! ### Answers that wait for their time and keep the part -/

theorem runIf_alive {p : State → Bool} {s : State} (ha : s.alive = true) (hp : p s = true) (f : State → State) :
    runIf p f s = .next (State.keep f s) := by
  rw [runIf, if_neg (by simp [ha]), if_pos hp]

theorem runAt_alive {t : State → Nat} {p : State → Bool} {s : State} {due : Nat} (ha : s.alive = true) (ht : t s = due)
    (hp : p (s.waitTo due) = true) (f : State → State) : runAt t p f s = .next (State.keep f (s.waitTo due)) := by
  rw [runAt, if_neg (by simp [ha]), ht, runIf_alive (s := s.waitTo due) ha hp]

@[simp] theorem State.keep_now (f : State → State) (s : State) : (State.keep f s).now = s.now := rfl
@[simp] theorem State.keep_boot (f : State → State) (s : State) : (State.keep f s).boot = (f s).boot := rfl

/-- A register of the answer reads as in the effect, where the effect is none on the part. -/
theorem State.rd_keep {f : State → State} {s : State} (h : (f s).part = s.part) (o : Nat) : (State.keep f s).rd o = (f s).rd o :=
  State.rd_congr (s := f s) (t := State.keep f s) rfl h.symm o

theorem State.bit_keep {f : State → State} {s : State} (h : (f s).part = s.part) (o i : Nat) :
    (State.keep f s).bit o i = (f s).bit o i := by
  rw [State.bit, State.rd_keep h, State.bit]

/-! ### A cause that has been raised (R122) -/

/-- A bit of an interrupt status stays when causes are raised on any page. -/
theorem State.bit_raiseBit_of_bit {s : State} {pg i : Nat} (h : s.bit (hdrOff pg 0x010) i = true) (pg' j : Nat) :
    (s.raiseBit pg' j).bit (hdrOff pg 0x010) i = true := by
  by_cases ho : hdrOff pg 0x010 = hdrOff pg' 0x010
  · rw [ho] at h ⊢
    have hi : (s.rd (hdrOff pg' 0x010)).getLsbD i = true := by rwa [State.bit, Word.bit, BitVec.testBit_toNat] at h
    rw [State.bit, State.rd_raiseBit_same, Word.bit, BitVec.testBit_toNat, BitVec.getLsbD_or, hi, Bool.true_or]
  · rw [State.bit, State.rd_raiseBit_other _ _ _ _ ho]
    exact h

theorem State.bit_congr {s t : State} {o : Nat} (h : t.rd o = s.rd o) (i : Nat) : t.bit o i = s.bit o i := by
  rw [State.bit, h, State.bit]

/-- A statistics counter is no interrupt status, and its saturation clears no cause. -/
theorem State.bit_count_of_bit {s : State} {pg i off : Nat} (ho : hdrOff pg 0x010 ≠ off) (h : s.bit (hdrOff pg 0x010) i = true) (n : Nat) :
    (s.count off n).bit (hdrOff pg 0x010) i = true := by
  have hwr (w : Word) : (s.wr off w).bit (hdrOff pg 0x010) i = true := by
    rw [State.bit_congr (State.rd_wr_other _ _ _ _ ho), h]
  unfold State.count
  simp only
  split
  · exact h
  · split
    · exact State.bit_raiseBit_of_bit (hwr _) _ _
    · exact hwr _

theorem State.rd_wr64_other (s : State) {off o : Nat} (v : Nat) (hlo : o ≠ off) (hhi : o ≠ off + 4) : (s.wr64 off v).rd o = s.rd o := by
  rw [State.wr64, State.rd_wr_other _ _ _ _ hhi, State.rd_wr_other _ _ _ _ hlo]

/-- A counter at an offset that is no interrupt status counts as R117 says. -/
theorem Counts.count (s : State) (off n : Nat) (h : off ≠ hdrOff (off / 0x1000) 0x010) : Counts s (s.count off n) off n := by
  rw [Counts, State.rd_count_same s off n h, BitVec.toNat_ofNat]
  omega

theorem Counts.congr {s t s' t' : State} {off n : Nat} (hs : s'.rd off = s.rd off) (ht : t'.rd off = t.rd off) (h : Counts s t off n) :
    Counts s' t' off n := by
  rwa [Counts, hs, ht]

/-! ### Wake causes (R68, R69) -/

/-- `t` differs from `s` at most in the power transition, and in what the shared operations on registers touch. -/
def State.SameButPwr (s t : State) : Prop := State.SameBut3 { s with pwr := t.pwr } t

theorem State.SameBut3.butPwr {s t : State} (h : State.SameBut3 s t) : State.SameButPwr s t := by
  unfold State.SameBut3 at h
  rw [State.SameButPwr, State.SameBut3, h]

theorem State.SameButPwr.trans {s t u : State} (h : State.SameButPwr s t) (k : State.SameButPwr t u) : State.SameButPwr s u := by
  unfold State.SameButPwr State.SameBut3 at *
  rw [k, h]

/-- Acting on a wake cause changes the transition and nothing else. -/
theorem State.wake_eq (s : State) : s.wake = { s with pwr := s.wake.pwr } := by
  simp only [State.wake]
  split
  · split <;> rfl
  · split <;> rfl

theorem State.wake_same (s : State) : State.SameButPwr s s.wake := by
  rw [State.SameButPwr, State.SameBut3, s.wake_eq]

theorem State.wake_rd (s : State) (o : Nat) : s.wake.rd o = s.rd o := by
  rw [s.wake_eq]
  rfl

theorem State.wakeBit_same (s : State) (i : Nat) : State.SameBut3 s (s.wakeBit i) := (State.wr_same ..).trans (State.raiseBit_same ..)

theorem State.rd_wakeBit_other (s : State) (i : Nat) {o : Nat} (h1 : o ≠ Reg.PWR_WAKE_CAUSE) (h2 : o ≠ hdrOff 0x001 0x010) :
    (s.wakeBit i).rd o = s.rd o := by
  rw [State.wakeBit, State.rd_raiseBit_other _ _ _ _ h2, State.rd_wr_other _ _ _ _ h1]

/-- A cause other than listen_event is shown, and starts a transition where it acts. -/
theorem State.wakeCause_cases (s : State) {i : Nat} (h : i ≠ 3) (listen : Bool) :
    s.wakeCause i listen = s.wakeBit i ∨ s.wakeCause i listen = (s.wakeBit i).wake := by
  simp only [State.wakeCause, h, decide_false, Bool.false_and, Bool.false_eq_true, if_false]
  split
  · exact .inr rfl
  · exact .inl rfl

theorem State.wakeCause_same (s : State) {i : Nat} (h : i ≠ 3) (listen : Bool) : State.SameButPwr s (s.wakeCause i listen) := by
  obtain hb | hw := s.wakeCause_cases h listen
  · rw [hb]
    exact (s.wakeBit_same i).butPwr
  · rw [hw]
    exact (s.wakeBit_same i).butPwr.trans (s.wakeBit i).wake_same

theorem State.rd_wakeCause_other (s : State) {i : Nat} (h : i ≠ 3) (listen : Bool) {o : Nat} (h1 : o ≠ Reg.PWR_WAKE_CAUSE)
    (h2 : o ≠ hdrOff 0x001 0x010) : (s.wakeCause i listen).rd o = s.rd o := by
  obtain hb | hw := s.wakeCause_cases h listen
  · rw [hb, s.rd_wakeBit_other i h1 h2]
  · rw [hw, State.wake_rd, s.rd_wakeBit_other i h1 h2]

/-! ### Presses (R33, R212) -/

/-- A press has been counted: the time of the next runs from now. -/
def State.pressSeen (s : State) : State := { s with boot := { s.boot with highSince := some s.now } }

/-- A window with nothing used, in place of any that is open. -/
def State.openWindow (s : State) : State := { s.closeWindow with window := some { since := s.now, used := 0 } }

/-- The PRS page's record of a press that opened a window. -/
def State.recordPress (s : State) : State :=
  (((s.count Reg.PRS_WINDOWS 1).wr64 Reg.PRS_LAST_LO s.tick.number.toNat).journal 0x13 0x21 1 0 0).raiseBit 0x007 0

theorem State.press_early {s : State} (h : s.boot.stage < 2) : s.press = s.pressSeen.journal 0x13 0x21 3 0 0 := if_pos h

theorem State.press_usable {s : State} (h : 2 ≤ s.boot.stage) :
    s.press = s.pressSeen.openWindow.recordPress.wakeCause 1 false := if_neg (by show ¬ s.boot.stage < 2; omega)

@[simp] theorem State.closeWindow_boot (s : State) : s.closeWindow.boot = s.boot := by
  unfold State.closeWindow
  split
  · rfl
  · rw [State.raiseBit_boot, State.journal_boot]

@[simp] theorem State.openWindow_boot (s : State) : s.openWindow.boot = s.boot := s.closeWindow_boot
@[simp] theorem State.openWindow_part (s : State) : s.openWindow.part = s.part := s.closeWindow_part

theorem State.rd_closeWindow_other (s : State) {o : Nat} (h : o ≠ hdrOff 0x007 0x010) : s.closeWindow.rd o = s.rd o := by
  unfold State.closeWindow
  split
  · rfl
  · rw [State.rd_raiseBit_other _ _ _ _ h, State.rd_congr (State.journal_regs ..) (State.journal_part ..)]
    rfl

theorem State.rd_openWindow_other (s : State) {o : Nat} (h : o ≠ hdrOff 0x007 0x010) : s.openWindow.rd o = s.rd o :=
  s.rd_closeWindow_other h

@[simp] theorem State.recordPress_boot (s : State) : s.recordPress.boot = s.boot := by simp [State.recordPress, State.wr64]
@[simp] theorem State.recordPress_part (s : State) : s.recordPress.part = s.part := by simp [State.recordPress, State.wr64]
@[simp] theorem State.recordPress_window (s : State) : s.recordPress.window = s.window := by simp [State.recordPress, State.wr64]

theorem State.recordPress_counts (s : State) : Counts s s.recordPress Reg.PRS_WINDOWS 1 := by
  refine Counts.congr rfl ?_ (Counts.count s Reg.PRS_WINDOWS 1 (by decide))
  rw [State.recordPress, State.rd_raiseBit_other _ _ _ _ (by decide),
    State.rd_congr (State.journal_regs ..) (State.journal_part ..), State.rd_wr64_other _ _ (by decide) (by decide)]

theorem State.recordPress_bit (s : State) : s.recordPress.bit (hdrOff 0x007 0x010) 0 = true :=
  State.bit_raiseBit_same _ _ (by decide)

/-- The record of a press clears no cause that the page has raised. -/
theorem State.recordPress_bit_of_bit {s : State} {i : Nat} (h : s.bit (hdrOff 0x007 0x010) i = true) :
    s.recordPress.bit (hdrOff 0x007 0x010) i = true := by
  refine State.bit_raiseBit_of_bit ?_ _ _
  rw [State.bit_congr (State.rd_congr (State.journal_regs ..) (State.journal_part ..) _),
    State.bit_congr (State.rd_wr64_other _ _ (by decide) (by decide))]
  exact State.bit_count_of_bit (by decide) h 1

/-- What a press that the PRS page can show leaves. -/
structure Pressed (s t : State) : Prop where
  part : t.part = s.part
  boot : t.boot = { s.boot with highSince := some s.now }
  window : t.window = some { since := s.now, used := 0 }
  counted : Counts s t Reg.PRS_WINDOWS 1
  opened : t.bit (hdrOff 0x007 0x010) 0 = true
  closed : s.window ≠ none → t.bit (hdrOff 0x007 0x010) 1 = true

/-- The press's wake touches the PWR page and the power transition, so that what the window and the PRS page show stays. -/
theorem State.press_pressed {s : State} (h : 2 ≤ s.boot.stage) : Pressed s s.press := by
  rw [State.press_usable h]
  have hsame := s.pressSeen.openWindow.recordPress.wakeCause_same (i := 1) (by decide) false
  have hrd {o : Nat} := s.pressSeen.openWindow.recordPress.rd_wakeCause_other (i := 1) (by decide) false (o := o)
  refine ⟨?_, ?_, ?_, ?_, ?_, fun hw => ?_⟩
  · rw [State.SameBut3.part hsame, State.recordPress_part, State.openWindow_part, State.pressSeen]
  · rw [State.SameBut3.boot hsame, State.recordPress_boot, State.openWindow_boot, State.pressSeen]
  · rw [State.SameBut3.window hsame, State.recordPress_window, State.openWindow, State.pressSeen]
  · exact Counts.congr (State.rd_openWindow_other s.pressSeen (by decide)).symm (hrd (by decide) (by decide)) (State.recordPress_counts _)
  · rw [State.bit_congr (hrd (by decide) (by decide)), State.recordPress_bit]
  · rw [State.bit_congr (hrd (by decide) (by decide))]
    exact State.recordPress_bit_of_bit (State.closeWindow_bit hw)

/-- Before the PRS page is usable a press leaves a journal entry alone. -/
theorem State.press_early_boot {s : State} (h : s.boot.stage < 2) : s.press.boot = { s.boot with highSince := some s.now } := by
  rw [State.press_early h, State.journal_boot, State.pressSeen]

theorem State.press_early_window {s : State} (h : s.boot.stage < 2) : s.press.window = s.window := by
  rw [State.press_early h, State.journal_window, State.pressSeen]

theorem State.press_highSince (s : State) : s.press.boot.highSince = some s.now := by
  obtain h | h := Nat.lt_or_ge s.boot.stage 2
  · rw [State.press_early_boot h]
  · rw [(State.press_pressed h).boot]

/-- A press is shown 95 ms after PRES_N was last seen high, or later. -/
theorem exec_presencePress {s : State} (ha : s.alive = true) {h : Nat} (hh : s.boot.highSince = some h) :
    exec .presencePress s = .next (State.keep State.press (s.waitTo (h + 95_000))) := by
  have hp : (s.waitTo (h + 95_000)).pressable = true := by simp [State.pressable, hh]
  show execPresencePress s = _
  rw [execPresencePress, runAt_alive ha (by rw [hh, Option.getD_some]) hp]

/-- The end of a window is shown 30 s after it opened, or later. -/
theorem exec_presenceWindowExpire {s : State} (ha : s.alive = true) {w : Window} (hw : s.window = some w) :
    exec .presenceWindowExpire s = .next (State.keep State.closeWindow (s.waitTo (w.since + 30_000_000))) := by
  show execPresenceWindowExpire s = _
  rw [execPresenceWindowExpire, runAt_alive (due := w.since + 30_000_000) ha (by simp only [hw]) (by simp [hw])]

/-- The release of a terminal that was stuck at the release of cold reset. -/
theorem exec_presNRelease {s : State} (ha : s.alive = true) (hp : s.boot.presStuck = true) :
    exec .presNRelease s = .next { s with boot := { s.boot with presStuck := false, presLow := false, highSince := some s.now } } := by
  show execPresNRelease s = _
  rw [execPresNRelease, runIf_alive ha hp]
  rfl

/-- Settles O36. A press opens a window by `State.press_pressed`, or is too early for one; a window ends by `State.closeWindow`; a terminal
that was stuck is released with no press. -/
theorem presenceWindows : Obligations.PresenceWindows := by
  intro s ha
  refine ⟨fun h hh => ?_, fun w hw => ?_, exec_presNRelease ha⟩
  · refine ⟨_, exec_presencePress ha hh, rfl, ?_, fun husable => ?_, fun hearly => ?_⟩
    · rw [State.keep_boot, State.press_highSince, State.keep_now]
    · have k : Pressed (s.waitTo (h + 95_000)) _ := State.press_pressed husable
      refine ⟨k.window, Counts.congr rfl (State.rd_keep k.part _) k.counted, ?_, fun hw => ?_⟩
      · rw [State.bit_keep k.part, k.opened]
      · rw [State.bit_keep k.part, k.closed hw]
    · exact State.press_early_window (s := s.waitTo (h + 95_000)) hearly
  · refine ⟨_, exec_presenceWindowExpire ha hw, rfl, State.closeWindow_window _, ?_⟩
    rw [State.bit_keep (State.closeWindow_part _)]
    exact State.closeWindow_bit (by simp [hw])

end Sys2Proof.Machine

namespace Sys2Proof.Machine
open Sys2Proof

/-! ### PWR_LIMIT (R90) -/

theorem maxMw_lt (v : Variant) : v.maxMw < 2 ^ 16 := by cases v <;> decide

theorem Tab.find_none_of_keys {A : Type} {t : List (Nat × A)} {k : Nat} (h : ∀ x ∈ t, x.1 ≠ k) : Tab.find t k = none := by
  induction t with
  | nil => rfl
  | cons p t ih =>
    rw [Tab.find, if_neg (h p List.mem_cons_self), ih fun x hx => h x (List.mem_cons_of_mem _ hx)]

/-- At cold reset only the ceilings of the SAF page stand at other values than the register tables give (R509). -/
theorem State.rd_resetOf (p : Part) {o : Nat} (h : o < 0x05080) : (State.resetOf p).rd o = resetWord p.variant o := by
  have hnone : Tab.find (State.resetOf p).regs.vals o = none := by
    refine Tab.find_none_of_keys fun x hx => ?_
    obtain ⟨hx, -⟩ := List.mem_filter.1 hx
    simp only [ceilWords, List.mem_append, List.mem_map] at hx
    obtain ⟨y, -, rfl⟩ | ⟨y, -, rfl⟩ := hx <;> simp only <;> omega
  rw [State.rd, Tab.get, hnone]
  rfl

theorem State.fld_resetOf_limit (p : Part) : (State.resetOf p).fld Reg.PWR_LIMIT 0 16 = p.variant.maxMw := by
  have hmax := maxMw_lt p.variant
  rw [State.fld, State.rd_resetOf p (by decide), resetWord, if_pos rfl, Word.fld, bitsOf, BitVec.toNat_ofNat]
  omega

/-- The row of PWR_LIMIT in its register table. -/
def pwrLimit : RegSpec := ⟨0x064, 0x0, 1, 0xFFFFFFF, 0x0, 0x0, 0x0, 0x640000, .single⟩

theorem fld_low_half {a : Nat} (b : Nat) (h : a < 2 ^ 16) : Word.fld (BitVec.ofNat 32 (a + b * 2 ^ 16)) 0 16 = a := by
  simp only [Word.fld, bitsOf, BitVec.toNat_ofNat]
  omega

/-- The limit that a written word leaves: its field, clamped. -/
theorem State.fld_merged_pwrLimit (s : State) (w : Word) :
    Word.fld (s.merged .pwr pwrLimit 0x064 Reg.PWR_LIMIT w) 0 16 = max 300 (min s.part.variant.maxMw (Word.fld w 0 16)) := by
  have hmax := maxMw_lt s.part.variant
  have hbits := Word.fld_eq_of_bits (lo := 0) (n := 16) fun i hi =>
    getLsbD_replace (s.rd Reg.PWR_LIMIT) w (m := 0xFFFFFFF) (i := 0 + i) (by omega) (by interval_cases i <;> decide)
  have hfield : ((s.rd Reg.PWR_LIMIT).toNat - Nat.land (s.rd Reg.PWR_LIMIT).toNat 0xFFFFFFF + Nat.land w.toNat 0xFFFFFFF) % 65536
      = Word.fld w 0 16 := by
    rw [← hbits, Word.fld, bitsOf, BitVec.toNat_ofNat]
    omega
  simp only [State.merged, lowBits, pow_zero, Nat.div_one, Nat.mul_one, pwrLimit]
  rw [fld_low_half _ (by omega), hfield]

/-- A word that a register takes stands there, whether its hub acts on it now or after a restart, where acting on it stores nothing
else (R103). -/
theorem State.rd_settle_taken {s : State} {off : Nat} {b : Block} {inst : Nat} {r : RegSpec} (hb : pageOf (off / 0x1000) = some (b, inst))
    (hr : specAt off = some r) {w : Word} (hv : s.verdict b inst (off % 0x1000) off w = .take)
    (hs : selfStored b (off % 0x1000) = false) (agent : Nat)
    (hact : ∀ (t : State) old new, t.valueAct agent b inst (off % 0x1000) old new = t) :
    (s.settle [(off, agent, [(off, w)])]).rd off = s.merged b r (off % 0x1000) off w := by
  have hjudge : s.judgeWord off w = (.take, s.merged b r (off % 0x1000) off w) := by simp only [State.judgeWord, hb, hr, hv]
  have hrd (t : State) (old new : Word) : (t.actValue agent off old new).rd off = t.rd off := by
    simp only [State.actValue, hb, hr, hs, hact]
    split <;> rfl
  simp [State.settle, hjudge, hb, hs, hrd]

/-- Settles O18. The write stores the word as `State.merged` clamps it, and acts on nothing else. -/
theorem powerLimitIsClamped : Obligations.PowerLimitIsClamped := by
  refine ⟨State.fld_resetOf_limit, fun s agent val h hc => ⟨_, runCmd_alive _ s h.alive, ?_⟩⟩
  have hb : pageOf (Reg.PWR_LIMIT / 0x1000) = some (.pwr, 0) := by decide
  have hr : specAt Reg.PWR_LIMIT = some pwrLimit := by decide
  have hstored := State.rd_settle_taken (s := woken s agent) hb hr (w := BitVec.ofNat 32 val.toNat) rfl rfl agent fun _ _ _ => rfl
  have hwrite := State.write32_unclaimed h hb hr (by decide) rfl hc val
  rw [State.write32] at hwrite
  have happly (w : Word) : (woken s agent).applyWord agent Reg.PWR_LIMIT pwrLimit .pwr w none false
      = (woken s agent).settle [(Reg.PWR_LIMIT, agent, [(Reg.PWR_LIMIT, w)])] := if_pos (Nat.and_zero _)
  rw [hwrite, happly, State.fld, hstored]
  refine (State.fld_merged_pwrLimit ..).trans ?_
  rw [(woken_same s agent).part, Word.fld, bitsOf, BitVec.toNat_ofNat]
  omega

end Sys2Proof.Machine

namespace Sys2Proof.Machine
open Sys2Proof

/-! ### The governor: what is due (R82, R85) -/

theorem Governor.settlePower_eq (g : Governor) :
    g.settlePower = { g with hPower := g.power, lowEdges := if 8 ≤ g.lowEdges then 0 else g.lowEdges } := by
  unfold Governor.settlePower Governor.power
  split_ifs <;> rfl

theorem Governor.settleThermal_eq (g : Governor) :
    g.settleThermal = { g with hThermal := g.thermal, coolEdges := if 8 ≤ g.coolEdges then 0 else g.coolEdges } := by
  unfold Governor.settleThermal Governor.thermal
  split_ifs <;> rfl

/-- Taking a due change of the cap touches the cap and its two counts. -/
theorem Governor.settleCap_eq (g : Governor) :
    g.settleCap = { g with cap := g.capNow, hotEdges := g.settleCap.hotEdges, easyEdges := g.settleCap.easyEdges } := by
  unfold Governor.settleCap
  split_ifs with h
  · rfl
  · rw [not_not.1 h]

/-- Once a change of the cap is taken, none is due. -/
theorem Governor.settleCap_counts (g : Governor) : g.settleCap.hotEdges < 10 ∧ g.settleCap.easyEdges < 100 := by
  unfold Governor.settleCap
  split_ifs
  · exact ⟨Nat.zero_lt_succ _, Nat.zero_lt_succ _⟩
  · exact ⟨Nat.mod_lt _ (by decide), Nat.mod_lt _ (by decide)⟩

theorem Governor.capNow_settled {g : Governor} (hhot : g.hotEdges < 10) (heasy : g.easyEdges < 100) : g.capNow = g.cap := by
  rw [Governor.capNow, if_neg (by omega), if_neg (by omega)]

/-- Taking a due change leaves the cap in force (R85). -/
theorem Governor.settleCap_capNow (g : Governor) : g.settleCap.capNow = g.capNow := by
  obtain ⟨hhot, heasy⟩ := g.settleCap_counts
  rw [Governor.capNow_settled hhot heasy, g.settleCap_eq]

theorem Governor.capNow_le {g : Governor} (h : g.cap ≤ 3) : g.capNow ≤ 3 := by
  unfold Governor.capNow
  split_ifs <;> omega

theorem Governor.power_le (g : Governor) : g.power ≤ g.hPower := by
  unfold Governor.power
  split_ifs <;> omega

theorem Governor.thermal_le (g : Governor) : g.thermal ≤ g.hThermal := by
  unfold Governor.thermal
  split_ifs <;> omega

/-! ### The governor at a tick edge (R82, R85, R86) -/

theorem thermalTarget_le (tmax : Int) (warn hot : Nat) : thermalTarget tmax warn hot ≤ 12 := by
  unfold thermalTarget
  split <;> omega

/-- A hotter block has no lower thermal target. -/
theorem thermalTarget_mono {p q : Int} (h : p ≤ q) (warn hot : Nat) : thermalTarget p warn hot ≤ thermalTarget q warn hot := by
  unfold thermalTarget
  split
  · exact Nat.zero_le _
  · have hrise : (p - 4 * warn).toNat * 11 / (4 * hot - 4 * warn) ≤ (q - 4 * warn).toNat * 11 / (4 * hot - 4 * warn) :=
      Nat.div_le_div_right (by omega)
    rw [if_neg (by omega)]
    omega

/-- The governor as an edge finds it: what was due has been taken. -/
def Governor.settled (g : Governor) : Governor := g.settlePower.settleThermal.settleCap

theorem Governor.settled_eq (g : Governor) :
    g.settled = { g with hPower := g.power, hThermal := g.thermal, cap := g.capNow,
                         lowEdges := if 8 ≤ g.lowEdges then 0 else g.lowEdges,
                         coolEdges := if 8 ≤ g.coolEdges then 0 else g.coolEdges,
                         hotEdges := g.settled.hotEdges, easyEdges := g.settled.easyEdges } := by
  rw [Governor.settled, Governor.settleCap_eq, Governor.settleThermal_eq, Governor.settlePower_eq]
  rfl

theorem Governor.settled_pAvg (g : Governor) : g.settled.pAvg = g.pAvg := by rw [g.settled_eq]
theorem Governor.settled_hPower (g : Governor) : g.settled.hPower = g.power := by rw [g.settled_eq]
theorem Governor.settled_hThermal (g : Governor) : g.settled.hThermal = g.thermal := by rw [g.settled_eq]
theorem Governor.settled_cap (g : Governor) : g.settled.cap = g.capNow := by rw [g.settled_eq]

/-- No count stands at the edge that would make it due. -/
theorem Governor.settled_counts (g : Governor) :
    g.settled.lowEdges < 8 ∧ g.settled.coolEdges < 8 ∧ g.settled.hotEdges < 10 ∧ g.settled.easyEdges < 100 := by
  refine ⟨?_, ?_, Governor.settleCap_counts _⟩
  · rw [g.settled_eq]
    dsimp only
    split <;> omega
  · rw [g.settled_eq]
    dsimp only
    split <;> omega

section
variable (g : Governor) (pTick len window limit : Nat) (tmax : Int) (warn hot : Nat)

theorem Governor.edge_pAvg : (g.edge pTick len window limit tmax warn hot).pAvg = nextAvg g.pAvg pTick len window := by
  rw [← g.settled_pAvg]
  rfl

theorem Governor.edge_hPower :
    (g.edge pTick len window limit tmax warn hot).hPower
      = if limit < nextAvg g.pAvg pTick len window then min 12 (g.power + 1) else g.power := by
  rw [← g.settled_hPower, ← g.settled_pAvg]
  rfl

theorem Governor.edge_hThermal :
    (g.edge pTick len window limit tmax warn hot).hThermal
      = if 420 ≤ tmax then 12 else max g.thermal (thermalTarget tmax warn hot) := by
  rw [← g.settled_hThermal]
  simp only [Governor.edge, Governor.settled]

theorem Governor.edge_cap : (g.edge pTick len window limit tmax warn hot).cap = if 420 ≤ tmax then 0 else g.capNow := by
  rw [← g.settled_cap]
  simp only [Governor.edge, Governor.settled]

/-- An edge adds one to a count, or starts it anew. -/
theorem Governor.edge_counts :
    (g.edge pTick len window limit tmax warn hot).lowEdges ≤ 8 ∧ (g.edge pTick len window limit tmax warn hot).coolEdges ≤ 8
      ∧ (g.edge pTick len window limit tmax warn hot).hotEdges ≤ 10
      ∧ (g.edge pTick len window limit tmax warn hot).easyEdges ≤ 100 := by
  obtain ⟨hlow, hcool, hhot, heasy⟩ := g.settled_counts
  have hcount (c : Prop) [Decidable c] {n m : Nat} (h : n < m) : (if c then n + 1 else 0) ≤ m := by split <;> omega
  have hsettled : g.settlePower.settleThermal.settleCap = g.settled := rfl
  simp only [Governor.edge, hsettled]
  refine ⟨?_, hcount _ hcool, hcount _ hhot, hcount _ heasy⟩
  split
  · exact Nat.zero_le _
  · exact hcount _ hlow

end

theorem Governor.edge_inRange {g : Governor} (h : Governor.InRange g) (pTick len window limit : Nat) (tmax : Int) (warn hot : Nat) :
    Governor.InRange (g.edge pTick len window limit tmax warn hot) := by
  obtain ⟨hlow, hcool, hhot, heasy⟩ := g.edge_counts pTick len window limit tmax warn hot
  have hpower := g.power_le.trans h.power
  have hthermal := g.thermal_le.trans h.thermal
  have htarget := thermalTarget_le tmax warn hot
  refine ⟨?_, ?_, ?_, hlow, hcool, hhot, heasy⟩
  · rw [Governor.edge_hPower]
    split <;> omega
  · rw [Governor.edge_hThermal]
    split <;> omega
  · rw [Governor.edge_cap]
    split
    · exact Nat.zero_le _
    · exact Governor.capNow_le h.cap

theorem Governor.headwind_le {g : Governor} (h : Governor.InRange g) : g.headwind ≤ 12 :=
  max_le (g.power_le.trans h.power) (g.thermal_le.trans h.thermal)

/-- Settles O37, field by field of the edge. -/
theorem governorStaysInItsRanges : Obligations.GovernorStaysInItsRanges := by
  intro g pTick len window limit tmax warn hot h
  have hrange := Governor.edge_inRange h pTick len window limit tmax warn hot
  refine ⟨hrange, Governor.headwind_le hrange, Governor.capNow_le hrange.cap, g.edge_pAvg .., ?_, fun hhot => ⟨?_, ?_⟩,
    fun hcool => ⟨?_, ?_⟩, fun q hq => thermalTarget_mono hq warn hot⟩
  · rw [Governor.edge_pAvg, Governor.edge_hPower]
  · rw [Governor.edge_hThermal, if_pos hhot]
  · rw [Governor.edge_cap, if_pos hhot]
  · rw [Governor.edge_hThermal, if_neg (by omega)]
  · rw [Governor.edge_cap, if_neg (by omega)]

end Sys2Proof.Machine

namespace Sys2Proof.Machine
open Sys2Proof

/-! ### Rows that act on the governor alone (R82, R85) -/

theorem does_headwindPowerDecay {s : State} (ha : s.alive = true) (h : 8 ≤ s.gov.lowEdges) :
    Does .headwindPowerDecay s { s with gov := s.gov.settlePower } := by
  show execHeadwindPowerDecay s = _
  exact runCmdIf_alive _ _ s ha (Nat.ble_eq_true_of_le h)

theorem does_headwindThermalDecay {s : State} (ha : s.alive = true) (h : 8 ≤ s.gov.coolEdges) :
    Does .headwindThermalDecay s { s with gov := s.gov.settleThermal } := by
  show execHeadwindThermalDecay s = _
  exact runCmdIf_alive _ _ s ha (Nat.ble_eq_true_of_le h)

theorem does_dvfsCapLower {s : State} (ha : s.alive = true) (h : 10 ≤ s.gov.hotEdges) :
    Does .dvfsCapLower s { s with gov := s.gov.settleCap } := by
  show execDvfsCapLower s = _
  exact runCmdIf_alive _ _ s ha (Nat.ble_eq_true_of_le h)

theorem does_dvfsCapRaise {s : State} (ha : s.alive = true) (h : 100 ≤ s.gov.easyEdges) (hhot : s.gov.hotEdges < 10) :
    Does .dvfsCapRaise s { s with gov := s.gov.settleCap } := by
  have hble : Nat.ble 10 s.gov.hotEdges = false := by
    rw [← Bool.not_eq_true, Nat.ble_eq]
    omega
  show execDvfsCapRaise s = _
  exact runCmdIf_alive _ _ s ha (by simp [Nat.ble_eq_true_of_le h, hble])

theorem Governor.settlePower_due {g : Governor} (h : 8 ≤ g.lowEdges) :
    g.settlePower = { g with hPower := g.hPower - 1, lowEdges := 0 } := if_pos h

theorem Governor.settleThermal_due {g : Governor} (h : 8 ≤ g.coolEdges) :
    g.settleThermal = { g with hThermal := g.hThermal - 1, coolEdges := 0 } := if_pos h

/-- A decay that is taken was in force since it was due (R82). -/
theorem Governor.headwind_settlePower (g : Governor) : g.settlePower.headwind = g.headwind := by
  have hpower : g.settlePower.power = g.power := by
    unfold Governor.settlePower
    split_ifs with h
    · simp [Governor.power, h]
    · rfl
  rw [Governor.headwind, hpower, g.settlePower_eq]
  rfl

theorem Governor.headwind_settleThermal (g : Governor) : g.settleThermal.headwind = g.headwind := by
  have hthermal : g.settleThermal.thermal = g.thermal := by
    unfold Governor.settleThermal
    split_ifs with h
    · simp [Governor.thermal, h]
    · rfl
  rw [Governor.headwind, hthermal, g.settleThermal_eq]
  rfl

theorem Governor.capNow_lower {g : Governor} (h : 10 ≤ g.hotEdges) : g.capNow = g.cap - 1 := if_pos h

theorem Governor.capNow_raise {g : Governor} (h : 100 ≤ g.easyEdges) (hhot : g.hotEdges < 10) : g.capNow = min 3 (g.cap + 1) := by
  rw [Governor.capNow, if_neg (by omega), if_pos h]

theorem Governor.settleCap_cap (g : Governor) : g.settleCap.cap = g.capNow := by rw [g.settleCap_eq]

/-! ### Samples of the sensors (R81, R88) -/

/-- A sensor after a sample that reads `q`, or fails its plausibility check. -/
def Sensor.sampled (x : Sensor) : Option Int → Sensor
  | some q => { x with temp := q, valid := true }
  | none => { x with valid := false, flagged := true }

theorem Sensor.sampled_sampled (x : Sensor) (q : Option Int) : (Sensor.sampled (Sensor.sampled x q) q) = Sensor.sampled x q := by
  cases q <;> rfl

/-- Samples of a list of sensors, each taken once or more. -/
theorem State.sensor_foldl {f : State → Nat → State} {reads : Nat → Option Int}
    (hf : ∀ s i, (f s i).sensors = Tab.put s.sensors i (Sensor.sampled (s.sensor i) (reads i))) (l : List Nat) (s : State) (j : Nat) :
    (l.foldl f s).sensor j = if j ∈ l then Sensor.sampled (s.sensor j) (reads j) else s.sensor j := by
  induction l generalizing s with
  | nil => rfl
  | cons i l ih =>
    have hstep : (f s i).sensor j = if j = i then Sensor.sampled (s.sensor i) (reads i) else s.sensor j := by
      rw [State.sensor, hf]
      split
      · next hj => rw [hj, Tab.get_put_same]
      · next hj => exact Tab.get_put_other _ _ _ _ _ hj
    rw [List.foldl_cons, ih, hstep]
    by_cases hj : j = i
    · subst hj
      simp [Sensor.sampled_sampled]
    · simp [hj]

/-- The sample of one sensor: its reading, or that it has none, with the interrupt at the first time (R88). -/
def State.sampleOne (l : List (Nat × Int)) (s : State) (i : Nat) : State :=
  let x := s.sensor i
  match Tab.find l i with
  | some q => { s with sensors := Tab.put s.sensors i { x with temp := q, valid := true } }
  | none =>
    let s := { s with sensors := Tab.put s.sensors i { x with valid := false, flagged := true } }
    if x.flagged then s else s.raiseBit 0x003 3

/-- The hottest value of the tick so far. -/
def State.noteHottest (s : State) : State :=
  match s.hottestValue with
  | none => s
  | some x =>
    if s.gov.seen && x.1 ≤ s.gov.tmax then s
    else { s with gov := { s.gov with tmax := x.1, tmaxIdx := x.2, seen := true } }

theorem State.sampleSensors_eq (s : State) (l : List (Nat × Int)) :
    s.sampleSensors l = (((List.range 16).filter (sensorFitted s.part.variant)).foldl (State.sampleOne l) s).noteHottest := rfl

theorem State.sampleOne_sensors (l : List (Nat × Int)) (s : State) (i : Nat) :
    (s.sampleOne l i).sensors = Tab.put s.sensors i (Sensor.sampled (s.sensor i) (Tab.find l i)) := by
  simp only [State.sampleOne]
  cases Tab.find l i with
  | some q => rfl
  | none =>
    simp only
    split
    · rfl
    · rw [State.raiseBit_sensors]
      rfl

theorem State.noteHottest_sensors (s : State) : s.noteHottest.sensors = s.sensors := by
  unfold State.noteHottest
  split
  · rfl
  · split <;> rfl

/-- A fitted sensor shows its reading after a sample, or that it has none. -/
theorem State.sampleSensors_sensor (s : State) (l : List (Nat × Int)) {i : Nat} (hi : i < 16)
    (hfit : sensorFitted s.part.variant i = true) : (s.sampleSensors l).sensor i = Sensor.sampled (s.sensor i) (Tab.find l i) := by
  have hmem : i ∈ (List.range 16).filter (sensorFitted s.part.variant) := by simp [hi, hfit]
  have hfold := State.sensor_foldl (State.sampleOne_sensors l) ((List.range 16).filter (sensorFitted s.part.variant)) s i
  rw [if_pos hmem] at hfold
  rw [State.sampleSensors_eq, State.sensor, State.noteHottest_sensors]
  exact hfold

/-! ### VIN (R61) -/

theorem Word.fld_setFld_low (w : Word) {v : Nat} (hv : v < 2 ^ 16) : Word.fld (Word.setFld w 0 16 v) 0 16 = v := by
  have hw := w.isLt
  simp only [Word.fld, Word.setFld, bitsOf, BitVec.toNat_ofNat]
  omega

theorem Word.fld_setFld_high (w : Word) (v : Nat) : Word.fld (Word.setFld w 0 16 v) 16 16 = Word.fld w 16 16 := by
  have hw := w.isLt
  simp only [Word.fld, Word.setFld, bitsOf, BitVec.toNat_ofNat]
  omega

/-- A measurement is shown; what follows leaves PWR_VIN. -/
theorem State.rd_measureVin (s : State) (mv : Nat) : (s.measureVin mv).rd Reg.PWR_VIN = Word.setFld (s.rd Reg.PWR_VIN) 0 16 mv := by
  have hset := s.rd_setFld_same Reg.PWR_VIN 0 16 mv
  simp only [State.measureVin]
  split
  · rw [State.rd_congr (State.journal_regs ..) (State.journal_part ..), State.rd_raiseBit_other _ _ _ _ (by decide)]
    exact hset
  · split <;> exact hset

theorem State.fld_setFld_vinWarn (s : State) (mv : Nat) :
    (s.setFld Reg.PWR_VIN 0 16 mv).fld Reg.PWR_VIN 16 16 = s.fld Reg.PWR_VIN 16 16 := by
  rw [State.fld, State.rd_setFld_same, Word.fld_setFld_high, State.fld]

/-- The warning of a low VIN, which is disarmed until VIN has recovered. -/
def State.warnVin (s : State) (mv : Nat) : State :=
  (({ s with pwr := { s.pwr with vinArmed := false } }).raiseBit 0x001 4).journal 0x15 0x21 1 mv 0

theorem State.warnVin_vinArmed (s : State) (mv : Nat) : (s.warnVin mv).pwr.vinArmed = false := by
  rw [State.warnVin, State.journal_pwr, State.raiseBit_pwr]

theorem State.warnVin_bit (s : State) (mv : Nat) : (s.warnVin mv).bit (hdrOff 0x001 0x010) 4 = true := by
  rw [State.warnVin, State.bit_congr (State.rd_congr (State.journal_regs ..) (State.journal_part ..) _),
    State.bit_raiseBit_same _ _ (by decide)]

/-- Below the threshold an armed warning is raised. -/
theorem State.measureVin_low {s : State} {mv : Nat} (hlow : mv < s.fld Reg.PWR_VIN 16 16) (harmed : s.pwr.vinArmed = true) :
    s.measureVin mv = (s.setFld Reg.PWR_VIN 0 16 mv).warnVin mv := by
  refine if_pos ?_
  rw [Bool.and_eq_true, decide_eq_true_iff, State.fld_setFld_vinWarn]
  exact ⟨hlow, harmed⟩

/-- More than 100 mV above the threshold the warning is armed. -/
theorem State.measureVin_high {s : State} {mv : Nat} (hhigh : s.fld Reg.PWR_VIN 16 16 + 100 < mv) :
    (s.measureVin mv).pwr.vinArmed = true := by
  simp only [State.measureVin, State.fld_setFld_vinWarn]
  rw [if_neg (by simp; omega), if_pos hhigh]

theorem does_vinSample {s : State} (ha : s.alive = true) {mv : Nat} (h : mv < 65536) : Does (.vinSample mv) s (s.measureVin mv) := by
  show execVinSample mv s = _
  exact runCmdIf_alive _ _ s ha (Nat.ble_eq_true_of_le h)

/-! ### Causes of the kickstand (R501 to R503) -/

theorem testBit_setBit (m i j : Nat) : (setBit m i).testBit j = (m.testBit j || decide (j = i)) := by
  unfold setBit
  split
  · next h =>
    by_cases hj : j = i
    · simp [hj, h]
    · simp [hj]
  · next h =>
    rw [Bool.not_eq_true] at h
    obtain hj | rfl | hj := lt_trichotomy j i
    · rw [Nat.add_comm, Nat.testBit_two_pow_add_gt hj]
      simp [hj.ne]
    · rw [Nat.add_comm, Nat.testBit_two_pow_add_eq, h]
      simp
    · obtain ⟨k, rfl⟩ := Nat.exists_eq_add_of_lt hj
      have heven : m / 2 ^ i % 2 = 0 := by simpa [Nat.testBit_eq_decide_div_mod_eq] using h
      have hhigh (n : Nat) : n / 2 ^ (i + k + 1) = n / 2 ^ i / 2 / 2 ^ k := by
        rw [Nat.div_div_eq_div_mul, Nat.div_div_eq_div_mul]
        ring_nf
      have hsum : (m + 2 ^ i) / 2 ^ i / 2 = m / 2 ^ i / 2 := by
        rw [Nat.add_div_right _ (Nat.two_pow_pos i)]
        omega
      rw [Nat.testBit_eq_decide_div_mod_eq, Nat.testBit_eq_decide_div_mod_eq, hhigh, hhigh, hsum]
      simp; omega

theorem State.kickCauses_kick {s : State} {c : Nat} (h : s.kickCauses.testBit c = false) :
    (s.kick c).kickCauses = Word.fld (BitVec.ofNat 32 (setBit s.kickCauses c)) 0 10 := by
  rw [State.kick, if_neg (by simp [h]), State.kickCauses, State.fld]
  exact congrArg (Word.fld · 0 10) (State.rd_wr_same ..)

/-- A cause of the kickstand that arises joins those in force. -/
theorem State.kick_kicks {s : State} {c : Nat} (hc : c < 10) (h : s.kickCauses.testBit c = false) : Kicks s (s.kick c) c := by
  intro i
  rw [State.kickCauses_kick h, Word.fld, bitsOf, BitVec.toNat_ofNat, pow_zero, Nat.div_one, Nat.testBit_mod_two_pow,
    Nat.testBit_mod_two_pow, testBit_setBit]
  by_cases hi : i < 10
  · simp [hi, Nat.lt_trans hi (by decide : 10 < 32)]
  · have hold : s.kickCauses.testBit i = false := by
      rw [State.kickCauses, State.fld, Word.fld, bitsOf, Nat.testBit_mod_two_pow]
      simp [hi]
    have hne : i ≠ c := by omega
    simp [hi, hold, hne]

/-! ### REF (R74) -/

theorem State.refLost_kicks {s : State} (h : s.kickCauses.testBit 3 = false) : Kicks s s.refLost 3 := by
  have hrd : (((s.setFld Reg.CLK_REF_STATUS 2 1 1).journal 0x15 0x21 3 0 0).raiseBit 0x002 3).kickCauses = s.kickCauses := by
    rw [State.kickCauses, State.fld, State.rd_raiseBit_other _ _ _ _ (by decide),
      State.rd_congr (State.journal_regs ..) (State.journal_part ..), State.rd_setFld_other _ _ _ _ _ (by decide), State.kickCauses, State.fld]
  have hkick := State.kick_kicks (c := 3) (by decide) (hrd.symm ▸ h)
  intro i
  rw [← hrd]
  exact hkick i

theorem does_refLost {s : State} (ha : s.alive = true) (hlock : s.boot.refLocked = true) (h : s.kickCauses.testBit 3 = false) :
    Does .refLost s s.refLost := by
  show execRefLost s = _
  exact runCmdIf_alive _ _ s ha (by rw [hlock, h]; rfl)

/-- Settles O38, row by row. -/
theorem governorEventsAndMeasures : Obligations.GovernorEventsAndMeasures := by
  intro s ha
  refine ⟨fun h => ?_, fun h => ?_, fun h => ?_, fun h hhot _ => ?_, fun l => ?_, fun mv hmv => ?_, fun hlock href => ?_⟩
  · rw [← Governor.settlePower_due h]
    exact ⟨does_headwindPowerDecay ha h, s.gov.headwind_settlePower⟩
  · rw [← Governor.settleThermal_due h]
    exact ⟨does_headwindThermalDecay ha h, s.gov.headwind_settleThermal⟩
  · exact ⟨_, does_dvfsCapLower ha h, s.gov.settleCap_cap.trans (Governor.capNow_lower h), s.gov.settleCap_capNow, rfl⟩
  · exact ⟨_, does_dvfsCapRaise ha h hhot, s.gov.settleCap_cap.trans (Governor.capNow_raise h hhot), s.gov.settleCap_capNow, rfl⟩
  · refine ⟨_, runCmd_alive _ s ha, fun i hi hfit => ?_⟩
    rw [State.sampleSensors_sensor s l hi hfit]
    cases Tab.find l i <;> rfl
  · refine ⟨_, does_vinSample ha hmv, ?_, fun hlow harmed => ?_, State.measureVin_high⟩
    · rw [State.fld, State.rd_measureVin, Word.fld_setFld_low _ hmv]
    · rw [State.measureVin_low hlow harmed]
      exact ⟨State.warnVin_vinArmed .., State.warnVin_bit ..⟩
  · exact ⟨_, does_refLost ha hlock href, State.refLost_kicks href⟩

end Sys2Proof.Machine

namespace Sys2Proof.Machine
open Sys2Proof

/-! ### The end of a transition (R66, R71) -/

/-- Leaving AON the tick runs again, and the residency is shown (R71). -/
def State.leaveAon (s : State) (t : Transition) : State :=
  if t.dst ≠ .aon && !s.tick.running then
    ({ s with tick := { s.tick with running := true } }).wr64 Reg.PWR_AON_TIME_LO ((s.now - s.pwr.aonSince) * 32768 / 1_000_000)
  else s

/-- What a completed transition leaves, a wake that came meanwhile apart: it is over where its state is in force. -/
def State.completed (s : State) (t : Transition) : State :=
  let s := s.leaveAon t
  let inForce := t.dst = s.pwr.st
  let s := if t.dst = .aon || t.dst = .kick then s else s.powerChannels
  let s := { s with pwr := { s.pwr with trans := if inForce then none else some { t with done := true } } }
  let s := if inForce && t.dst ≠ .kick then s.requestDone else s
  if inForce then s.settleChannels else s

theorem State.leaveAon_pwr (s : State) (t : Transition) : (s.leaveAon t).pwr = s.pwr := by
  unfold State.leaveAon
  split <;> rfl

theorem State.leaveAon_now (s : State) (t : Transition) : (s.leaveAon t).now = s.now := by
  unfold State.leaveAon
  split <;> rfl

theorem State.leaveAon_running (s : State) {t : Transition} (h : t.dst ≠ .aon) : (s.leaveAon t).tick.running = true := by
  unfold State.leaveAon
  split
  · rfl
  · next hif => simpa [h] using hif

theorem State.fixed_withPwr (s : State) (p : Power) : ({ s with pwr := p } : State).fixed = { s.fixed with pwr := p } := rfl

/-- The control side of a completed transition: the tick may run again, and the transition is over or done. -/
theorem State.completed_fixed (s : State) (t : Transition) :
    (s.completed t).fixed = { (s.leaveAon t).fixed with
      pwr := { s.pwr with trans := if t.dst = s.pwr.st then none else some { t with done := true } } } := by
  have hpower : (if t.dst = .aon || t.dst = .kick then s.leaveAon t else (s.leaveAon t).powerChannels).fixed = (s.leaveAon t).fixed := by
    rw [State.fixed_ite, State.powerChannels_fixed, ite_self]
  simp only [State.completed, State.fixed_ite, State.settleChannels_fixed, State.requestDone_fixed, ite_self, State.fixed_withPwr, hpower,
    State.pwr_of_fixed hpower, State.leaveAon_pwr]

theorem State.completed_pwr (s : State) (t : Transition) :
    (s.completed t).pwr = { s.pwr with trans := if t.dst = s.pwr.st then none else some { t with done := true } } :=
  congrArg Fixed.pwr (s.completed_fixed t)

theorem State.completed_tick (s : State) (t : Transition) : (s.completed t).tick = (s.leaveAon t).tick :=
  congrArg Fixed.tick (s.completed_fixed t)

theorem State.completed_now (s : State) (t : Transition) : (s.completed t).now = s.now :=
  (congrArg Fixed.now (s.completed_fixed t)).trans (s.leaveAon_now t)

/-- The end of a transition in terms of `State.completed`: what a wake asked for begins where the state is in force. -/
theorem State.transitionDone_eq (s : State) (t : Transition) :
    s.transitionDone t = if t.dst = s.pwr.st then
        s.pwr.wakeNext.elim (s.completed t) fun g =>
          ({ s.completed t with pwr := { (s.completed t).pwr with wakeNext := none } }).beginTransition (PowerState.ofCode g)
      else s.completed t := by
  have hmodel : s.transitionDone t = match (s.completed t).pwr.wakeNext with
      | some g => if t.dst = (s.leaveAon t).pwr.st then
          ({ s.completed t with pwr := { (s.completed t).pwr with wakeNext := none } }).beginTransition (PowerState.ofCode g)
        else s.completed t
      | none => s.completed t := rfl
  rw [hmodel, s.leaveAon_pwr, s.completed_pwr]
  cases s.pwr.wakeNext with
  | none => exact (ite_self _).symm
  | some g => rfl

/-- What the end of a transition that is not over leaves. -/
theorem does_powerTransitionDone {s : State} (ha : s.alive = true) {t : Transition} (ht : s.pwr.trans = some t) (hd : t.done = false) :
    Does .powerTransitionDone s (s.transitionDone t) := by
  have hrun : s.inTransition = true := by simp only [State.inTransition, ht, hd, Bool.not_false]
  have hend : s.endTransition = s.transitionDone t := by simp only [State.endTransition, ht]
  rw [← hend]
  show execPowerTransitionDone s = _
  exact runCmdIf_alive _ _ s ha hrun

/-! ### Wake causes (R68, R69, R70) -/

theorem State.wakeBit_cause (s : State) {i : Nat} (hi : i < 32) : (s.wakeBit i).bit Reg.PWR_WAKE_CAUSE i = true := by
  rw [State.wakeBit, State.bit_congr (State.rd_raiseBit_other _ _ _ _ (by decide)), State.bit, State.rd_wr_same, Word.bit,
    BitVec.toNat_ofNat, Nat.testBit_mod_two_pow, testBit_setBit]
  simp [hi]

theorem State.wakeBit_interrupt (s : State) (i : Nat) : (s.wakeBit i).bit (hdrOff 0x001 0x010) 2 = true :=
  State.bit_raiseBit_same _ _ (by decide)

/-- A wake cause is shown with the wake interrupt, whether it acts or not. -/
theorem State.wakeCause_shown (s : State) {i : Nat} (h : i < 32) (hne : i ≠ 3) (listen : Bool) :
    (s.wakeCause i listen).bit Reg.PWR_WAKE_CAUSE i = true ∧ (s.wakeCause i listen).bit (hdrOff 0x001 0x010) 2 = true := by
  obtain hb | hw := s.wakeCause_cases hne listen
  · rw [hb]
    exact ⟨s.wakeBit_cause h, s.wakeBit_interrupt i⟩
  · rw [hw, State.bit_congr (State.wake_rd _ _), State.bit_congr (State.wake_rd _ _)]
    exact ⟨s.wakeBit_cause h, s.wakeBit_interrupt i⟩

/-- An enabled cause acts in AON, and where it may in LISTEN. -/
theorem State.wakeCause_enabled {s : State} {i : Nat} (hne : i ≠ 3) {listen : Bool} (hen : i = 0 ∨ s.bit Reg.PWR_WAKE_EN i = true)
    (hst : s.pwr.st = .aon ∨ (listen = true ∧ s.pwr.st = .listen)) : s.wakeCause i listen = (s.wakeBit i).wake := by
  have hbit : (s.wakeBit i).bit Reg.PWR_WAKE_EN i = s.bit Reg.PWR_WAKE_EN i :=
    State.bit_congr (s.rd_wakeBit_other i (by decide) (by decide)) i
  have hpwr : (s.wakeBit i).pwr = s.pwr := (s.wakeBit_same i).pwr
  simp only [State.wakeCause, hne, decide_false, Bool.false_and, Bool.false_eq_true, if_false, hbit, hpwr]
  refine if_pos ?_
  obtain rfl | hen := hen <;> obtain hst | ⟨rfl, hst⟩ := hst <;> simp [*]

theorem State.wake_aon {s : State} (hst : s.pwr.st = .aon) (ht : s.pwr.trans = none) : s.wake = s.beginTransition s.wakeTarget := by
  simp [State.wake, hst, ht]

theorem State.wake_listen {s : State} (hst : s.pwr.st = .listen) (ht : s.pwr.trans = none) : s.wake = s.beginTransition .serve := by
  simp [State.wake, hst, ht]

theorem State.wakeBit_wakeTarget (s : State) (i : Nat) : (s.wakeBit i).wakeTarget = s.wakeTarget := by
  rw [State.wakeTarget, State.fld, s.rd_wakeBit_other i (by decide) (by decide), State.wakeTarget, State.fld]

theorem State.wakeBit_begin (s : State) (i : Nat) (dst : PowerState) :
    ((s.wakeBit i).beginTransition dst).pwr.trans = some { src := s.pwr.st, dst := dst, since := s.now, done := false } := by
  have hsame := s.wakeBit_same i
  rw [State.beginTransition, hsame.pwr, hsame.now]

/-- With no transition running in AON, an enabled cause begins that to the wake target. -/
theorem State.wakeCause_aon {s : State} {i : Nat} (hne : i ≠ 3) (listen : Bool) (hen : i = 0 ∨ s.bit Reg.PWR_WAKE_EN i = true)
    (hst : s.pwr.st = .aon) (ht : s.pwr.trans = none) :
    (s.wakeCause i listen).pwr.trans = some { src := .aon, dst := s.wakeTarget, since := s.now, done := false } := by
  have hpwr : (s.wakeBit i).pwr = s.pwr := (s.wakeBit_same i).pwr
  rw [State.wakeCause_enabled hne hen (.inl hst), State.wake_aon (by rw [hpwr, hst]) (by rw [hpwr, ht]), State.wakeBit_wakeTarget,
    State.wakeBit_begin, hst]

/-- With no transition running in LISTEN, an enabled cause that acts there begins that to SERVE. -/
theorem State.wakeCause_listen {s : State} {i : Nat} (hne : i ≠ 3) (hen : s.bit Reg.PWR_WAKE_EN i = true) (hst : s.pwr.st = .listen)
    (ht : s.pwr.trans = none) :
    (s.wakeCause i true).pwr.trans = some { src := .listen, dst := .serve, since := s.now, done := false } := by
  have hpwr : (s.wakeBit i).pwr = s.pwr := (s.wakeBit_same i).pwr
  rw [State.wakeCause_enabled hne (.inr hen) (.inr ⟨rfl, hst⟩), State.wake_listen (by rw [hpwr, hst]) (by rw [hpwr, ht]),
    State.wakeBit_begin, hst]

theorem State.wake_held (s : State) : s.wake.pwr.held = s.pwr.held := by
  simp only [State.wake]
  split
  · split <;> rfl
  · split <;> rfl

theorem State.wakeCause_held (s : State) {i : Nat} (hne : i ≠ 3) (listen : Bool) : (s.wakeCause i listen).pwr.held = s.pwr.held := by
  obtain hb | hw := s.wakeCause_cases hne listen
  · rw [hb, (s.wakeBit_same i).pwr]
  · rw [hw, State.wake_held, (s.wakeBit_same i).pwr]

/-! ### Accesses in AON (R70, R184) -/

/-- The writes held once an access has arrived: a write stands behind those that wait. -/
def heldAfter (agent off be : Nat) (val : Option DWord) (held : List RegWrite) : List RegWrite :=
  match val with
  | none => held
  | some v => held ++ [{ agent := agent, off := off + be * 2 ^ 21, val := BitVec.ofNat 32 v.toNat,
                         hi := some (BitVec.ofNat 32 (v.toNat / 2 ^ 32)) }]

/-- The state in which an access that arrived is held. -/
def State.holding (s : State) (agent off be : Nat) (val : Option DWord) : State :=
  { s with boot := if val.isSome ∧ off = Reg.HUB_FW_CTL then { s.boot with heldImage := none, heldStored := false } else s.boot,
           pwr := { s.pwr with held := heldAfter agent off be val s.pwr.held } }

/-- A held access is a wake cause. -/
theorem State.holdAccess_eq (s : State) (agent off be : Nat) (val : Option DWord) :
    s.holdAccess agent off be val none false = (s.holding agent off be val).wakeCause 0 false := by
  cases val with
  | none => rfl
  | some v =>
    by_cases hoff : off = Reg.HUB_FW_CTL
    · simp [State.holdAccess, State.holding, heldAfter, hoff]
    · simp [State.holdAccess, State.holding, heldAfter, hoff]

theorem does_hostAccessInAon {s : State} (ha : s.alive = true) {agent : Nat} (hst : s.pwr.st = .aon) (hag : agent < 16)
    (hrider : s.riderExists agent = true) (off be : Nat) (val : Option DWord) :
    Does (.hostAccessInAon agent off be val) s ((s.holding agent off be val).wakeCause 0 false) := by
  have hblt : Nat.blt agent 16 = true := Nat.ble_eq_true_of_le hag
  rw [← State.holdAccess_eq]
  show execHostAccessInAon agent off be val s = _
  exact runCmdIf_alive _ _ s ha (by simp [hst, hblt, hrider])

theorem State.aon_of_aonTimerRuns {s : State} (h : s.aonTimerRuns = true) : s.pwr.st = .aon := by
  rw [State.aonTimerRuns, Bool.and_eq_true] at h
  obtain ⟨hst, -⟩ := h
  simpa using hst

theorem does_aonTimerExpire {s : State} (ha : s.alive = true) (h : s.aonTimerRuns = true) {due : Nat}
    (hdue : s.pwr.aonSince + (s.rd Reg.PWR_AON_TIMER).toNat * 1000000 / 32768 = due) :
    DoesBy .aonTimerExpire s due ((s.waitTo due).wakeCause 2 false) := by
  subst hdue
  show execAonTimerExpire s = _
  exact runCmdAt_alive _ _ _ s ha h

theorem does_tandemSbWake {s : State} (ha : s.alive = true) (ht : s.part.variant.tandem = true) {p : Nat} (hp : p < 2) :
    Does (.tandemSbWake p) s (s.wakeCause 4 true) := by
  have hblt : Nat.blt p 2 = true := Nat.ble_eq_true_of_le hp
  show execTandemSbWake p s = _
  exact runCmdIf_alive _ _ s ha (by rw [ht, hblt]; rfl)

/-- Settles O39. A transition ends as `State.transitionDone_eq` says; each wake is `State.wakeCause`, in the state in which the access is
held or the timer expires. -/
theorem powerTransitionsAndWakes : Obligations.PowerTransitionsAndWakes := by
  intro s ha
  refine ⟨fun t ht hd => ⟨_, does_powerTransitionDone ha ht hd, fun hne => ⟨?_, fun haon => ?_⟩, fun hin hnone => ?_,
      fun hin g hg => ⟨?_, ?_⟩⟩,
    fun agent off be val hst hag hrider => ⟨_, does_hostAccessInAon ha hst hag hrider off be val, ?_, ?_, fun hv => ?_, fun hv => ?_,
      fun ht => ?_⟩,
    fun hrun => ⟨_, does_aonTimerExpire ha hrun rfl, ?_, ?_, fun hen ht => ?_⟩,
    fun p ht hp => ⟨_, does_tandemSbWake ha ht hp, ?_, ?_, fun hen hst htr => ?_, fun hen hst htr => ?_⟩⟩
  · rw [State.transitionDone_eq, if_neg hne, State.completed_pwr, if_neg hne]
  · rw [State.transitionDone_eq, if_neg hne, State.completed_tick, State.leaveAon_running _ haon]
  · rw [State.transitionDone_eq, if_pos hin, hnone, Option.elim_none, State.completed_pwr, if_pos hin]
  · rw [State.transitionDone_eq, if_pos hin, hg]
    rfl
  · rw [State.transitionDone_eq, if_pos hin, hg, Option.elim_some, State.beginTransition, State.completed_pwr, State.completed_now]
  · exact (State.wakeCause_shown _ (by decide) (by decide) _).1
  · exact (State.wakeCause_shown _ (by decide) (by decide) _).2
  · rw [State.wakeCause_held _ (by decide), State.holding, hv, heldAfter]
  · obtain ⟨v, rfl⟩ := Option.ne_none_iff_exists'.1 hv
    rw [State.wakeCause_held _ (by decide)]
    exact ⟨List.length_append, List.prefix_append _ _⟩
  · exact State.wakeCause_aon (s := s.holding agent off be val) (by decide) false (.inl rfl) hst ht
  · exact (State.wakeCause_shown _ (by decide) (by decide) _).1
  · exact (State.wakeCause_shown _ (by decide) (by decide) _).2
  · exact State.wakeCause_aon (s := s.waitTo _) (by decide) false (.inr hen) (State.aon_of_aonTimerRuns hrun) ht
  · exact (State.wakeCause_shown _ (by decide) (by decide) _).1
  · exact (State.wakeCause_shown _ (by decide) (by decide) _).2
  · exact State.wakeCause_aon (by decide) true (.inr hen) hst htr
  · exact State.wakeCause_listen (by decide) hen hst htr

end Sys2Proof.Machine

namespace Sys2Proof.Machine
open Sys2Proof

/-! ### Supply (R60) -/

theorem State.coldReset_inColdReset (s : State) (cause : Nat) : InColdReset s (s.coldReset cause) :=
  ⟨rfl, rfl, rfl, ⟨rfl, rfl⟩, rfl, rfl, rfl, rfl, rfl, rfl, rfl⟩

theorem State.vinLost_inColdReset (s : State) : InColdReset s s.vinLost :=
  ⟨rfl, rfl, rfl, ⟨rfl, rfl⟩, rfl, rfl, rfl, rfl, rfl, rfl, rfl⟩

theorem exec_vinRise {s : State} (h : s.pwr.st = .off) : exec .vinRise s = .next (s.coldReset 1) := if_pos h

theorem exec_vinLoss_off {s : State} (h : s.pwr.st = .off) : exec .vinLoss s = .next s := congrArg Host.Outcome.next (if_pos h)

theorem exec_vinLoss_powered {s : State} (h : s.pwr.st ≠ .off) : exec .vinLoss s = .next s.vinLost :=
  congrArg Host.Outcome.next (if_neg h)

/-! ### The release of cold reset (R48, R51, R74, R131, R133) -/

/-- The release answers with what boot does, on the same part, with the tick at edge 0. -/
theorem exec_coldReset {s : State} (ha : s.alive = true) (hstage : s.boot.stage = 0) (hfw : s.boot.fw = .booting) (b : BootIn) :
    exec (.coldReset b) s = .next { s.coldBoot b with
      pending := s.pending, now := s.now, part := s.part, tick := { (s.coldBoot b).tick with number := 0 } } := by
  show execColdReset b s = _
  rw [execColdReset, if_neg (by simp [ha]), if_pos (by simp [hstage, hfw])]

/-- The straps are sampled and PRES_N is seen for the first time. -/
def State.sampleStraps (s : State) (b : BootIn) : State :=
  { s with boot := { s.boot with refSel := b.refSel, testEn := b.testEn, since := s.now, presStuck := b.presLow,
                                 presLow := b.presLow, highSince := if b.presLow then none else some s.now } }

theorem State.coldBoot_test {b : BootIn} (s : State) (h : b.testEn = true) :
    s.coldBoot b = { s.sampleStraps b with pwr := { s.pwr with factory := true } } := if_pos h

theorem State.coldBoot_noClock {b : BootIn} (s : State) (h : b.testEn = false) (hsel : b.refSel = true) (hclk : b.refClk = false) :
    s.coldBoot b = { s.sampleStraps b with boot := { (s.sampleStraps b).boot with stage := 1 } } :=
  (if_neg (by simp [h])).trans (if_pos (by simp [hsel, hclk]))

/-- The BOOT hub is released in stage 3, after edge 0. -/
def State.releaseBoot (s : State) : State :=
  { s.startTick with boot := { s.startTick.boot with stage := 3 } }.releaseHub 0

/-- The spokes that repair fuses name are mapped out (R133). -/
def State.fuseSpokes (s : State) : State :=
  s.part.repairFuses.foldl (fun s k => s.setSpoke k { s.spoke k with st := .fused, cause := 5 }) s

theorem State.coldBoot_clocked {b : BootIn} (s : State) (h : b.testEn = false) (hclk : b.refSel = false ∨ b.refClk = true) :
    s.coldBoot b = ((s.sampleStraps b).releaseBoot.fuseSpokes.testSpokes b).testChannels b :=
  (if_neg (by simp [h])).trans (if_neg (by obtain h | h := hclk <;> simp [h]))

theorem State.fuseSpokes_fixed (s : State) : s.fuseSpokes.fixed = s.fixed :=
  State.fixed_foldl _ _ _ fun _ _ => State.setSpoke_fixed ..

/-- The tests leave the control side as the release of the BOOT hub has it. -/
theorem State.tested_fixed (s : State) (b : BootIn) : ((s.fuseSpokes.testSpokes b).testChannels b).fixed = s.fixed := by
  rw [State.testChannels_fixed, State.testSpokes_fixed, State.fuseSpokes_fixed]

/-- The stage is no part of a firmware store operation. -/
theorem State.stage_of_fixed {s t : State} (h : t.fixed = s.fixed) : t.boot.stage = s.boot.stage :=
  congrArg (fun f => f.boot.stage) h

theorem State.hub_of_fixed {s t : State} (h : t.fixed = s.fixed) (k : Nat) : t.hub k = s.hub k := by
  rw [State.hub, State.hubs_of_fixed h, State.hub]

theorem State.releaseHub_hub (s : State) (h k : Nat) :
    (s.releaseHub h).hub k = if k = h then { Hub.zero with run := .running } else s.hub k := by
  rw [State.hub, State.releaseHub, State.log_hubs]
  split
  · next hk => rw [hk, Tab.get_put_same]
  · next hk => exact Tab.get_put_other _ _ _ _ _ hk

/-- The release of the BOOT hub begins edge 0 in stage 3. -/
theorem State.releaseBoot_tick (s : State) :
    s.releaseBoot.tick = { s.tick with number := 0, running := true, lastEdge := s.now, lastUs := 0 } := State.log_tick ..

theorem State.releaseBoot_stage (s : State) : s.releaseBoot.boot.stage = 3 := congrArg (·.stage) (State.log_boot ..)

theorem State.releaseBoot_part (s : State) : s.releaseBoot.part = s.part := State.log_part ..

theorem State.releaseBoot_hub (s : State) (k : Nat) :
    s.releaseBoot.hub k = if k = 0 then { Hub.zero with run := .running } else s.hub k := State.releaseHub_hub ..

/-! ### Spokes that are mapped out (R133) -/

/-- Spoke `k` is mapped out, by a fuse or by a failed test. -/
def State.mappedOut (s : State) (k : Nat) : Prop := (s.spoke k).st = .failed ∨ (s.spoke k).st = .fused

theorem State.spoke_setSpoke (s : State) (j : Nat) (x : Spoke) (k : Nat) :
    (s.setSpoke j x).spoke k = if k = j then x else s.spoke k := by
  split
  · next hk => rw [hk]; exact Tab.get_putD_same ..
  · next hk => exact Tab.get_putD_other _ _ _ _ _ _ hk

theorem State.spoke_of_mem {s t : State} (h : t.mem.spokes = s.mem.spokes) (k : Nat) : t.spoke k = s.spoke k := by
  rw [State.spoke, h, State.spoke]

/-- Where each step of a fold marks its own spoke and clears no other's mark, the spokes of the whole list are marked. -/
theorem mappedOut_foldl {f : State → Nat → State} (hkeep : ∀ s j k, s.mappedOut k → (f s j).mappedOut k)
    (hmark : ∀ s j, (f s j).mappedOut j) (l : List Nat) (s : State) {k : Nat} (h : k ∈ l ∨ s.mappedOut k) :
    (l.foldl f s).mappedOut k := by
  induction l generalizing s with
  | nil => exact h.resolve_left (List.not_mem_nil)
  | cons j l ih =>
    refine ih (f s j) ?_
    obtain hmem | hold := h
    · obtain rfl | hmem := List.mem_cons.1 hmem
      · exact .inr (hmark s k)
      · exact .inl hmem
    · exact .inr (hkeep s j k hold)

theorem State.mappedOut_fuseSpokes (s : State) {k : Nat} (h : k ∈ s.part.repairFuses) : s.fuseSpokes.mappedOut k := by
  refine mappedOut_foldl (fun s j k h => ?_) (fun s j => ?_) _ s (.inl h)
  · rw [State.mappedOut, State.spoke_setSpoke]
    split
    · exact .inr rfl
    · exact h
  · rw [State.mappedOut, State.spoke_setSpoke, if_pos rfl]
    exact .inr rfl

theorem State.spoke_spokeFails (s : State) (j k : Nat) :
    (s.spokeFails j).spoke k
      = if k = j ∧ (s.spoke j).st ≠ .fused then { s.spoke j with st := .failed, cause := 4 } else s.spoke k := by
  unfold State.spokeFails
  by_cases hf : (s.spoke j).st = .fused
  · simp [hf]
  · rw [if_neg hf, State.spoke_of_mem (congrArg Stacks.spokes (State.journal_mem ..)), State.spoke_setSpoke]
    simp [hf]

theorem State.mappedOut_spokeFails (s : State) {j k : Nat} (h : k = j ∨ s.mappedOut k) : (s.spokeFails j).mappedOut k := by
  rw [State.mappedOut, State.spoke_spokeFails]
  split
  · exact .inl rfl
  · next hn =>
    obtain rfl | h := h
    · exact .inr (by simpa using hn)
    · exact h

/-- Judging a row renumbers it; no spoke changes. -/
theorem State.judgeRow_spokes (s : State) (rim : List Nat) (r : Nat) : (s.judgeRow rim r).mem.spokes = s.mem.spokes := by
  simp only [State.judgeRow]
  split
  · rfl
  · split
    · rw [State.journal_mem]
      rfl
    · split <;> rfl

theorem spokes_foldl {A : Type} {f : State → A → State} (hf : ∀ s a, (f s a).mem.spokes = s.mem.spokes) (l : List A) (s : State) :
    (l.foldl f s).mem.spokes = s.mem.spokes := by
  induction l generalizing s with
  | nil => rfl
  | cons a l ih => rw [List.foldl_cons, ih, hf]

theorem State.mappedOut_testSpokes (s : State) (b : BootIn) {k : Nat} (h : k ∈ b.failedSpokes ∨ s.mappedOut k) :
    (s.testSpokes b).mappedOut k := by
  have hfails := mappedOut_foldl (fun s j k h => State.mappedOut_spokeFails s (j := j) (k := k) (.inr h))
    (fun s j => State.mappedOut_spokeFails s (.inl rfl)) b.failedSpokes s h
  rw [State.mappedOut, State.testSpokes, State.spoke_of_mem (spokes_foldl (fun s r => s.judgeRow_spokes b.failedRim r) _ _)]
  exact hfails

/-- Where no channel fails its test, training leaves every spoke. -/
theorem State.testChannels_spokes (s : State) {b : BootIn} (h : b.failedChannels = []) : (s.testChannels b).mem.spokes = s.mem.spokes := by
  simp only [State.testChannels, h, List.foldl_nil]
  exact spokes_foldl (f := fun s n => s.trainChannel n) (fun _ _ => rfl) _ _

/-- Settles O33. Supply gives cold reset or OFF; the release is `State.coldBoot`, whose tests leave the control side. -/
theorem supplyAndColdBoot : Obligations.SupplyAndColdBoot := by
  intro s
  refine ⟨fun hoff => ⟨_, exec_vinRise hoff, s.coldReset_inColdReset 1, rfl, rfl, rfl⟩, ?_, fun b ha hstage hfw =>
    ⟨_, exec_coldReset ha hstage hfw b, rfl, fun htest => ?_, fun htest hsel hclk => ?_, fun htest hclk => ?_⟩⟩
  · by_cases hoff : s.pwr.st = .off
    · exact ⟨s, exec_vinLoss_off hoff, hoff, rfl, fun hon => absurd hoff hon⟩
    · exact ⟨_, exec_vinLoss_powered hoff, rfl, rfl, fun _ => s.vinLost_inColdReset⟩
  · rw [State.coldBoot_test s htest]
    exact ⟨rfl, rfl⟩
  · rw [State.coldBoot_noClock s htest hsel hclk]
    exact ⟨rfl, rfl⟩
  · rw [State.coldBoot_clocked s htest hclk]
    have hfix := (s.sampleStraps b).releaseBoot.tested_fixed b
    have htick := (State.tick_of_fixed hfix).trans (State.releaseBoot_tick _)
    have hhub := fun k => (State.hub_of_fixed hfix k).trans (State.releaseBoot_hub _ k)
    refine ⟨(State.stage_of_fixed hfix).trans (State.releaseBoot_stage _), congrArg (·.running) htick, rfl,
      congrArg (·.lastEdge) htick, congrArg Hub.run (hhub 0), fun k hk => (hhub k).trans (if_neg hk), fun hch k hk => ?_⟩
    have hmark := State.mappedOut_testSpokes _ b ((List.mem_append.1 hk).imp_right fun hfuse =>
      State.mappedOut_fuseSpokes _ ((State.releaseBoot_part (s.sampleStraps b)).symm ▸ hfuse))
    rw [State.mappedOut, ← State.spoke_of_mem (State.testChannels_spokes _ hch)] at hmark
    exact hmark

end Sys2Proof.Machine

namespace Sys2Proof.Machine
open Sys2Proof

/-! ### Writes by agents -/

/-- A row that is a write by an agent is an effect that every live part shows. -/
theorem exec_eq_runCmd_of_isWrite {c : Instr} (h : isWrite c = true) (s : State) : ∃ f, exec c s = runCmd f s := by
  cases c
  case counterClear | hubRestartRequest | rstCtlDeviceReset | pwrStateRequest | tickCtlWrite | prsCtlClose | hdrClaimClaim
    | hdrClaimCommit | hdrClaimAbandon | hdrIntStatusClear | hdrIntEnableWrite | hdrIntSet | hdrErrClear | registerWrite
    | hubIfaceOffer | fwOpWrite | fwOpRollback | fwOpConfirm | fwOpRecoveryRun | fwOpReset | fwOpInvalid | rdrSqTail | rdrCqHead
    | jnlReadIdx | jnlDumpGo | strReadIdx | kvcSeqReadIdx | rdrCtlReset | tanPortRetrain | tanPortUnpair | tanPortWakePeer
    | safCtlForce | safCtlRelease | safCtlStore | safCeilClear | safPrivClear | safTestCeiling | safTestTag | safTestLamp
    | trcLogRead | trcObjRead | trcSnapGo =>
    exact ⟨_, rfl⟩
  all_goals exact absurd h Bool.false_ne_true

/-- Such an effect has a next state, on a live part and on one that is not. -/
theorem runCmd_next (f : State → State) (s : State) : ∃ t, runCmd f s = .next t := by
  by_cases h : s.alive = true
  · exact ⟨_, runCmd_alive f s h⟩
  · exact ⟨s, runCmd_dead (by simpa using h) f⟩

/-- Settles O5: each such row is a `runCmd`. -/
theorem writesNeverStop : Obligations.WritesNeverStop := by
  intro s c h
  obtain ⟨f, hf⟩ := exec_eq_runCmd_of_isWrite h s
  rw [hf]
  exact runCmd_next f s

/-! ### The header of a page (R101) -/

theorem hdrOff_div (page : Nat) {o : Nat} (h : o < 0x1000) : hdrOff page o / 0x1000 = page := by
  simp only [hdrOff]
  omega

theorem hdrOff_mod (page : Nat) {o : Nat} (h : o < 0x1000) : hdrOff page o % 0x1000 = o := by
  simp only [hdrOff]
  omega

/-- A write that reaches a header register other than HDR_CLAIM is the header's, whoever holds a claim on the page. -/
theorem State.write32_header {s : State} {agent page o : Nat} {b : Block} {inst : Nat} (h : Reaches s agent (hdrOff page o))
    (hb : pageOf page = some (b, inst)) (ho : o < 0x40) (hclaim : o ≠ 0x024) (v : DWord) :
    s.write32 agent (hdrOff page o) v = (woken s agent).headerWrite page b inst o (BitVec.ofNat 32 v.toNat) := by
  have hdiv : hdrOff page o / 0x1000 = page := hdrOff_div page (by omega)
  have hmod : hdrOff page o % 0x1000 = o := hdrOff_mod page (by omega)
  obtain ⟨r, hr⟩ := Option.isSome_iff_exists.1 h.reg
  have hcommit : Tab.find (woken s agent).regs.commits page = none := by
    have hfree := h.commit
    rw [hdiv] at hfree
    rw [show (woken s agent).regs = _ from woken_keepsQueues s agent]
    exact hfree
  rw [State.write32_reaches h (hdiv ▸ hb) hr, State.writeWord]
  simp only [hdiv, hmod, hcommit]
  rw [if_neg hclaim, if_pos ho]

/-- The word without the bits of another. -/
theorem word_clear (v w : Word) : BitVec.ofNat 32 (v.toNat - Nat.land v.toNat w.toNat) = v &&& ~~~w := by
  have h := word_replace v 0#32 w.toNat
  rwa [show Nat.land (0#32).toNat w.toNat = 0 from Nat.zero_and _, Nat.add_zero, BitVec.ofNat_toNat, BitVec.setWidth_eq,
    BitVec.zero_and, BitVec.or_zero] at h

/-- The word under a mask. -/
theorem word_mask (w : Word) (m : Nat) : BitVec.ofNat 32 (Nat.land w.toNat m) = w &&& BitVec.ofNat 32 m := by
  have h := word_replace 0#32 w m
  rwa [show Nat.land (0#32).toNat m = 0 from Nat.zero_and _, BitVec.toNat_zero, Nat.zero_sub, Nat.zero_add, BitVec.zero_and,
    BitVec.zero_or] at h

theorem word_of_withBits_zero (v : Word) : BitVec.ofNat 32 (withBits v 0).toNat = v := by
  rw [word_of_withBits, BitVec.or_zero]

/-- An operation that stores a word, and beside it sends and signals, changes that register alone. -/
theorem touchesOnly_of_wr {s t : State} {off : Nat} {w : Word} (hsame : State.SameBut3 s t) (hregs : t.regs = (s.wr off w).regs) :
    t.rd off = w ∧ TouchesOnly s t [off] := by
  have hrd (o : Nat) : t.rd o = (s.wr off w).rd o := State.rd_congr hregs hsame.part o
  refine ⟨by rw [hrd, State.rd_wr_same], hsame.four, fun o ho => ?_⟩
  rw [hrd, State.rd_wr_other _ _ _ _ (by simpa using ho)]

theorem State.headerWrite_intStatus (s : State) (page : Nat) (b : Block) (inst : Nat) (w : Word) :
    (s.headerWrite page b inst 0x010 w).rd (hdrOff page 0x010) = s.rd (hdrOff page 0x010) &&& ~~~w
      ∧ TouchesOnly s (s.headerWrite page b inst 0x010 w) [hdrOff page 0x010] := by
  rw [← word_clear]
  exact touchesOnly_of_wr (State.resend_same _ _ _ (State.wr_same ..)) (State.resend_regs ..)

theorem State.headerWrite_intEnable (s : State) (page : Nat) (b : Block) (inst : Nat) (w : Word) :
    (s.headerWrite page b inst 0x014 w).rd (hdrOff page 0x014) = w &&& BitVec.ofNat 32 (intMask b inst)
      ∧ TouchesOnly s (s.headerWrite page b inst 0x014 w) [hdrOff page 0x014] := by
  rw [← word_mask]
  exact touchesOnly_of_wr (State.resend_same _ _ _ (State.wr_same ..)) (State.resend_regs ..)

theorem State.headerWrite_intSet (s : State) (page : Nat) (b : Block) (inst : Nat) (w : Word) :
    (s.headerWrite page b inst 0x018 w).rd (hdrOff page 0x010)
        = s.rd (hdrOff page 0x010) ||| (w &&& BitVec.ofNat 32 (intMask b inst))
      ∧ TouchesOnly s (s.headerWrite page b inst 0x018 w) [hdrOff page 0x010] := by
  rw [← word_mask]
  exact touchesOnly_of_wr (State.raise_same ..) (State.raise_regs ..)

/-- With the record's valid bit in the word, both words of the record are cleared. -/
theorem State.headerWrite_err (s : State) (page : Nat) (b : Block) (inst : Nat) {w : Word} (h : Word.bit w 31 = true) :
    s.headerWrite page b inst 0x01C w = (s.wr (hdrOff page 0x01C) 0).wr (hdrOff page 0x020) 0 := if_pos h

theorem State.clearErr_touchesOnly (s : State) (page : Nat) :
    let u := (s.wr (hdrOff page 0x01C) 0).wr (hdrOff page 0x020) 0
    u.rd (hdrOff page 0x01C) = 0 ∧ u.rd (hdrOff page 0x020) = 0
      ∧ TouchesOnly s u [hdrOff page 0x01C, hdrOff page 0x020] := by
  have hne : hdrOff page 0x01C ≠ hdrOff page 0x020 := by simp [hdrOff]
  refine ⟨?_, State.rd_wr_same .., ((State.wr_same ..).trans (State.wr_same ..)).four, fun o ho => ?_⟩
  · rw [State.rd_wr_other _ _ _ _ hne, State.rd_wr_same]
  · obtain ⟨h1, h2⟩ : o ≠ hdrOff page 0x01C ∧ o ≠ hdrOff page 0x020 := by simpa using ho
    rw [State.rd_wr_other _ _ _ _ h2, State.rd_wr_other _ _ _ _ h1]

theorem bit_withBits_valid (val : Word) : Word.bit (BitVec.ofNat 32 (withBits val (2 ^ 31)).toNat) 31 = true := by
  rw [word_of_withBits, Word.bit, BitVec.testBit_toNat, BitVec.getLsbD_or, BitVec.getLsbD_ofNat]
  exact Bool.or_true _

/-- Settles O12, register by register: the write is `State.headerWrite`. -/
theorem headerWritesTakeEffect : Obligations.HeaderWritesTakeEffect := by
  intro s agent page val b inst hb
  refine ⟨fun h => ⟨_, runWrite_alive h (withBits val 0), ?_⟩, fun h => ⟨_, runWrite_alive h (withBits val 0), ?_⟩,
    fun h => ⟨_, runWrite_alive h (withBits val 0), ?_⟩, fun h => ⟨_, runWrite_alive h (withBits val (2 ^ 31)), ?_⟩⟩
  · rw [State.write32_header h hb (by decide) (by decide), word_of_withBits_zero]
    exact State.headerWrite_intStatus ..
  · rw [State.write32_header h hb (by decide) (by decide), word_of_withBits_zero]
    exact State.headerWrite_intEnable ..
  · rw [State.write32_header h hb (by decide) (by decide), word_of_withBits_zero]
    exact State.headerWrite_intSet ..
  · rw [State.write32_header h hb (by decide) (by decide), State.headerWrite_err _ _ _ _ (bit_withBits_valid val)]
    exact State.clearErr_touchesOnly ..

end Sys2Proof.Machine

namespace Sys2Proof.Machine
open Sys2Proof

/-! ### Pages that do not answer (R100) -/

/-- In REFUSED the pages IDN, PRS, JNL and HUB[0] answer, and no other (R100). -/
theorem State.responds_refused {s : State} (h : s.boot.fw = .refused) (b : Block) (inst : Nat) :
    s.responds b inst = true ↔ b = .idn ∨ b = .prs ∨ b = .jnl ∨ (b = .hub ∧ inst = 0) := by
  simp [State.responds, h, or_assoc]

/-- A page that does not answer reads zero. -/
theorem State.readReg_silent {s : State} {off : Nat} {b : Block} {inst : Nat} (ha : s.alive = true)
    (hb : pageOf (off / 0x1000) = some (b, inst)) (hr : s.responds b inst = false) (agent : Nat) : s.readReg agent off = 0 := by
  obtain ⟨-, hfactory⟩ : s.pwr.st ≠ .off ∧ s.pwr.factory = false := by simpa [State.alive] using ha
  simp [State.readReg, hfactory, hb, hr]

/-- A write to a page that does not answer is recorded nowhere. -/
theorem State.access32_silent {s : State} {off : Nat} {b : Block} {inst : Nat} (hb : pageOf (off / 0x1000) = some (b, inst))
    (hr : s.responds b inst = false) (agent be : Nat) (w : Word) (image : Option (List Byte)) (stored : Bool) :
    s.access32 agent off be w image stored = s := by
  simp only [State.access32, hb, hr, Bool.not_false, if_true]

/-- An access with byte enables of one word alone is none, or an access of that word. -/
theorem State.access_word (s : State) (agent off : Nat) {be : Nat} (hbe : be < 16) (val : DWord) (image : Option (List Byte))
    (stored : Bool) :
    s.access agent off be val image stored
      = if be = 0 then s else s.access32 agent off be (BitVec.ofNat 32 val.toNat) image stored := by
  have hpair : be ≠ 0xFF := by omega
  have hlow : be % 16 = be := Nat.mod_eq_of_lt hbe
  have hhigh : be / 16 = 0 := Nat.div_eq_of_lt hbe
  simp only [State.access, hpair, hlow, hhigh, decide_false, Bool.and_false, Bool.false_and, Bool.false_eq_true, if_false, if_true]
  split
  · rfl
  · exact ite_self _

/-- A write of an agent that exists arrives, in AON apart (R165, R180, R184). -/
theorem State.writeAccess_arrives {s : State} {agent : Nat} (h : agent < 0x10 → s.riderExists agent = true ∧ s.pwr.st ≠ .aon)
    (off be : Nat) (val : DWord) (image : Option (List Byte)) (stored : Bool) :
    s.writeAccess agent off be val image stored = (woken s agent).access agent off be val image stored := by
  by_cases ha : agent < 0x10
  · obtain ⟨hex, hst⟩ := h ha
    simp [State.writeAccess, woken, ha, hex, hst]
  · simp [State.writeAccess, woken, ha]

/-- Settles O15: no other page answers, so that a read gives zero and a write that arrives goes no further. -/
theorem refusedFirmwareAnswersFourPages : Obligations.RefusedFirmwareAnswersFourPages := by
  intro s hfw
  refine ⟨State.responds_refused hfw, fun agent off b inst hb hidn hprs hjnl hhub ha => ?_⟩
  have hsilent : s.responds b inst = false := by
    rw [← Bool.not_eq_true, State.responds_refused hfw]
    simpa [hidn, hprs, hjnl] using hhub
  refine ⟨State.readReg_silent ha hb hsilent agent, fun be val hbe hagent => ?_⟩
  have hwoken : (woken s agent).responds b inst = false := by rwa [State.responds, woken_boot]
  have hwrite : s.writeAccess agent off be val none false = woken s agent := by
    rw [State.writeAccess_arrives hagent, State.access_word _ _ _ hbe, State.access32_silent hb hwoken, ite_self]
  have hrow := runCmd_alive (fun s => s.writeAccess agent off be val none false) s ha
  rwa [hwrite] at hrow
end Sys2Proof.Machine

namespace Sys2Proof.Machine
open Sys2Proof

/-! ### Statistics counters (R117) -/

/-- A counter that reaches its maximum sets its page's sat cause. -/
theorem State.count_saturates {s : State} {off n : Nat} (hlt : (s.rd off).toNat < 2 ^ 32 - 1) (hge : 2 ^ 32 - 1 ≤ (s.rd off).toNat + n) :
    (s.count off n).bit (hdrOff (off / 0x1000) 0x010) 30 = true := by
  simp only [State.count]
  rw [if_neg (by omega), if_pos hge]
  exact State.bit_raiseBit_same _ _ (by decide)

/-- The state with registers at zero. -/
def State.zeroAll (s : State) (offs : List Nat) : State := offs.foldl (fun s o => s.wr o 0) s

theorem State.zeroAll_same (s : State) (offs : List Nat) : State.SameBut3 s (s.zeroAll offs) := by
  induction offs generalizing s with
  | nil => rfl
  | cons o offs ih => exact (State.wr_same s o 0).trans (ih (s.wr o 0))

theorem State.rd_zeroAll (s : State) (offs : List Nat) (o : Nat) : (s.zeroAll offs).rd o = if o ∈ offs then 0 else s.rd o := by
  induction offs generalizing s with
  | nil => rfl
  | cons a offs ih =>
    refine (ih (s.wr a 0)).trans ?_
    by_cases h : o = a
    · subst h
      simp
    · simp [h]

/-- The page at which a unit of a block stands (Table 4-1). -/
def Block.page (b : Block) (inst : Nat) : Nat :=
  match b with
  | .hub => 0x008 + inst | .rdr => 0x040 + inst | .stk => 0x050 + inst | .chn => 0x060 + inst | .cas => 0x030 + inst
  | .prt => 0x028 + inst | .tan => 0x020 + inst | .pdm => 0x018 + inst | .pcm => 0x016 + inst | .spk => 0x080 + inst
  | .idn => 0x000 | .pwr => 0x001 | .clk => 0x002 | .thm => 0x003 | .rst => 0x004 | .saf => 0x005 | .jnl => 0x006
  | .prs => 0x007 | .lnk => 0x00C | .trc => 0x00D | .srv => 0x00E | .drl => 0x00F | .str => 0x010 | .kvc => 0x011
  | .aud => 0x012 | .tanc => 0x022

/-- No page past the spokes' is in use (Table 4-1). -/
theorem pageOf_ge {page : Nat} (h : 0xC8 ≤ page) : pageOf page = none := by
  simp (disch := omega) only [pageOf, if_neg]

theorem Block.page_of_pageOf {page inst : Nat} {b : Block} (h : pageOf page = some (b, inst)) : b.page inst = page := by
  have hlt : page < 0xC8 := by
    by_contra hge
    rw [pageOf_ge (by omega)] at h
    cases h
  have hall : (List.range 0xC8).all (fun pg => (pageOf pg).all fun x => Block.page x.1 x.2 = pg) = true := by decide
  have hpage := List.all_eq_true.1 hall page (List.mem_range.2 hlt)
  simpa [h] using hpage

/-- The registers of a page that the bits of a clear register return to zero. -/
def clearedBy (b : Block) (o bits : Nat) : List Nat := (((clears b o).zipIdx.filter fun x => bits.testBit x.2).map Prod.fst).flatten

theorem mem_clearedBy {b : Block} {o bits i : Nat} {l : List Nat} (hl : (clears b o)[i]? = some l) (hi : bits.testBit i = true)
    {c : Nat} (hc : c ∈ l) : c ∈ clearedBy b o bits := by
  refine List.mem_flatten.2 ⟨l, List.mem_map.2 ⟨(l, i), List.mem_filter.2 ⟨?_, hi⟩, rfl⟩, hc⟩
  exact List.mem_zipIdx_iff_getElem?.2 hl

theorem clearedBy_subset (b : Block) (o bits : Nat) : clearedBy b o bits ⊆ (clears b o).flatten := by
  intro c hc
  obtain ⟨l, hl, hcl⟩ := List.mem_flatten.1 hc
  obtain ⟨x, hx, rfl⟩ := List.mem_map.1 hl
  exact List.mem_flatten.2 ⟨x.1, (List.mem_zipIdx (List.mem_filter.1 hx).1).2.2 ▸ List.getElem_mem _, hcl⟩

theorem State.clearCounters_eq {page inst : Nat} {b : Block} (hb : pageOf page = some (b, inst)) (s : State) (o bits : Nat) :
    s.clearCounters b inst o bits = s.zeroAll ((clearedBy b o bits).map (hdrOff page)) := by
  have hpage (c : Nat) : 0x1000 * b.page inst + c = hdrOff page c := by rw [Block.page_of_pageOf hb, hdrOff, Nat.mul_comm]
  have hfold : s.clearCounters b inst o bits
      = ((clears b o).zipIdx.filter fun x => bits.testBit x.2).foldl
          (fun s x => x.1.foldl (fun s c => s.wr (0x1000 * b.page inst + c) 0) s) s := rfl
  simp only [hfold, hpage, clearedBy, State.zeroAll, List.foldl_map, List.foldl_flatten]

/-- The clear registers (R117). -/
def clearRegs : List (Block × Nat) :=
  [(.pwr, 0x080), (.thm, 0x050), (.rst, 0x050), (.hub, 0x05C), (.hub, 0x148), (.lnk, 0x068), (.rdr, 0x05C), (.jnl, 0x090),
   (.prs, 0x05C), (.stk, 0x04C), (.stk, 0x180), (.chn, 0x064), (.cas, 0x074), (.str, 0x090), (.kvc, 0x0B0), (.prt, 0x074),
   (.srv, 0x054), (.drl, 0x054), (.tan, 0x06C), (.tanc, 0x074), (.aud, 0x04C), (.pdm, 0x050), (.pcm, 0x090), (.saf, 0x070),
   (.trc, 0x0DC), (.spk, 0x07C)]

theorem mem_clearRegs {b : Block} {o : Nat} (h : clears b o ≠ []) : (b, o) ∈ clearRegs := by
  unfold clears at h
  split at h
  case h_27 => exact absurd rfl h
  all_goals decide

/-- Past its first unit a block has the registers of its second. -/
theorem Block.regs_of_ne_zero (b : Block) {inst : Nat} (h : inst ≠ 0) : b.regs inst = b.regs 1 := by
  cases b <;> simp [Block.regs, h]

/-- A clear register stands alone outside the header and stores nothing. -/
theorem clearReg_stores_nothing {b : Block} {inst o : Nat} {r : RegSpec} (h : (b, o) ∈ clearRegs)
    (hr : (b.regs inst).find? (fun r => r.covers o) = some r) : r.rw = 0 ∧ r.role = .single := by
  have hall : clearRegs.all (fun x => [0, 1].all fun k =>
      ((Block.regs x.1 k).find? fun r => r.covers x.2).all fun r => r.rw = 0 && r.role = .single) = true := by decide
  have hreg (k : Nat) (hk : k ∈ [0, 1]) (hf : (b.regs k).find? (fun r => r.covers o) = some r) : r.rw = 0 ∧ r.role = .single := by
    have hboth := List.all_eq_true.1 (List.all_eq_true.1 hall (b, o) h) k hk
    simpa [hf] using hboth
  by_cases hi : inst = 0
  · exact hreg 0 (by decide) (hi ▸ hr)
  · exact hreg 1 (by decide) (Block.regs_of_ne_zero b hi ▸ hr)

/-- A clear register and the counters that it returns to zero lie outside the header. -/
theorem clearReg_past_header {b : Block} {o : Nat} (h : (b, o) ∈ clearRegs) :
    0x40 ≤ o ∧ ∀ l ∈ clears b o, ∀ c ∈ l, 0x40 ≤ c ∧ c < 0x1000 := by
  have hall : clearRegs.all (fun x => 0x40 ≤ x.2 && (clears x.1 x.2).all fun l => l.all fun c => 0x40 ≤ c && c < 0x1000) = true := by decide
  simpa using List.all_eq_true.1 hall (b, o) h

/-- A clear register's bits clear counters; TRC's clear an object's counters too (R117, R555). -/
theorem State.triggerAct_clear (s : State) (agent : Nat) {b : Block} (inst : Nat) {o : Nat} (h : clears b o ≠ []) (bits : Nat)
    (image : Option (List Byte)) (stored : Bool) :
    ∃ trc, s.triggerAct agent b inst o bits image stored = { s.clearCounters b inst o bits with trc := trc } := by
  unfold State.triggerAct
  split
  case h_15 =>
    simp only [State.onBit]
    split
    · split
      · exact ⟨_, rfl⟩
      · exact ⟨_, rfl⟩
    · exact ⟨_, rfl⟩
  case h_16 =>
    have ho : o = 0x070 := by simpa [clearRegs] using mem_clearRegs h
    rw [if_neg (by simp [ho])]
    exact ⟨_, rfl⟩
  case h_17 => exact ⟨_, rfl⟩
  all_goals exact absurd rfl h

/-- What the trace unit holds is no register. -/
theorem touchesOnly_withTrc {s t : State} {offs : List Nat} (h : TouchesOnly s t offs) (trc : Trace) :
    TouchesOnly s { t with trc := trc } offs := by
  obtain ⟨hsame, hrd⟩ := h
  exact ⟨hsame.trans rfl, hrd⟩

theorem State.zeroAll_touchesOnly (s : State) {offs all : List Nat} (h : offs ⊆ all) : TouchesOnly s (s.zeroAll offs) all := by
  refine ⟨(s.zeroAll_same offs).four, fun o ho => ?_⟩
  rw [State.rd_zeroAll, if_neg fun hin => ho (h hin)]

/-- What a write of the clear register at `o` of a page leaves: the counters whose bit is 1 in `bits` at zero, and every other
register. -/
structure Cleared (s t : State) (page : Nat) (b : Block) (o bits : Nat) : Prop where
  zero : ∀ i l, (clears b o)[i]? = some l → bits.testBit i = true → ∀ c ∈ l, t.rd (hdrOff page c) = 0
  others : TouchesOnly s t ((clears b o).flatten.map (hdrOff page))

theorem Cleared.of_clearCounters {page inst : Nat} {b : Block} (hb : pageOf page = some (b, inst)) (s : State) (o bits : Nat) :
    Cleared s (s.clearCounters b inst o bits) page b o bits := by
  rw [State.clearCounters_eq hb]
  refine ⟨fun i l hl hi c hc => ?_, State.zeroAll_touchesOnly s (List.map_subset _ (clearedBy_subset b o bits))⟩
  rw [State.rd_zeroAll, if_pos (List.mem_map_of_mem (mem_clearedBy hl hi hc))]

theorem Cleared.of_triggerAct {page inst : Nat} {b : Block} (hb : pageOf page = some (b, inst)) (s : State) (agent : Nat) {o : Nat}
    (h : clears b o ≠ []) (bits : Nat) (image : Option (List Byte)) (stored : Bool) :
    Cleared s (s.triggerAct agent b inst o bits image stored) page b o bits := by
  obtain ⟨trc, htrc⟩ := s.triggerAct_clear agent inst h bits image stored
  obtain ⟨hzero, hothers⟩ := Cleared.of_clearCounters hb s o bits
  rw [htrc]
  exact ⟨hzero, touchesOnly_withTrc hothers trc⟩

/-- A write of a clear register that stands free acts on the bits written 1 that it implements, where no hub keeps it waiting. -/
theorem State.applyWord_cleared {page inst o : Nat} {b : Block} {r : RegSpec} (hb : pageOf page = some (b, inst)) (ho : o < 0x1000)
    (h : clears b o ≠ []) (hrw : r.rw = 0) {s : State} (hw : s.hubWaits b inst = none) (agent : Nat) (w : Word)
    (image : Option (List Byte)) (stored : Bool) :
    Cleared s (s.applyWord agent (hdrOff page o) r b w image stored) page b o
      (Nat.land w.toNat (Nat.lor r.w1c (Nat.lor r.w1s r.wo))) := by
  have hb' : pageOf (hdrOff page o / 0x1000) = some (b, inst) := by rwa [hdrOff_div page ho]
  simp only [State.applyWord, hrw, if_true]
  split
  · next hnone =>
    rw [hnone]
    exact ⟨fun i _ _ hi => absurd hi (by simp), rfl, fun _ _ => rfl⟩
  · rw [State.actTrigger_now hb' hw, hdrOff_mod page ho]
    exact Cleared.of_triggerAct hb s agent h _ image stored

/-- An event after the clear counts from zero. -/
theorem State.count_of_zero {s : State} {page c : Nat} (hc : 0x40 ≤ c ∧ c < 0x1000) (h : s.rd (hdrOff page c) = 0) :
    ((s.count (hdrOff page c) 1).rd (hdrOff page c)).toNat = 1 := by
  obtain ⟨hlow, hhigh⟩ := hc
  have hcounts := Counts.count s (hdrOff page c) 1 (by rw [hdrOff_div page hhigh]; simp only [hdrOff]; omega)
  rw [Counts, h] at hcounts
  exact hcounts

/-- The bits of a word that a register's WO field takes are among those that it acts on. -/
theorem testBit_acted {w : Word} {i : Nat} {r : RegSpec} (hi : w.toNat.testBit i = true) (hwo : r.wo.testBit i = true) :
    (Nat.land w.toNat (Nat.lor r.w1c (Nat.lor r.w1s r.wo))).testBit i = true := by
  have hor : (r.w1c ||| (r.w1s ||| r.wo)).testBit i = true := by simp [hwo]
  exact (Nat.testBit_and ..).trans (by rw [hi]; exact hor)

theorem specAt_page {page o : Nat} {b : Block} {inst : Nat} (hb : pageOf page = some (b, inst)) (hlow : 0x40 ≤ o) (ho : o < 0x1000) :
    specAt (hdrOff page o) = (b.regs inst).find? fun r => r.covers o := by
  simp only [specAt, hdrOff_div page ho, hdrOff_mod page ho, hb]
  rw [if_neg (by omega)]

/-- A row that clears counters: the write applies at the register, which stores nothing. -/
theorem does_counterClear {s : State} {agent page o : Nat} {b : Block} {inst : Nat} {r : RegSpec} (hb : pageOf page = some (b, inst))
    (ho : o < 0x1000) (hr : specAt (hdrOff page o) = some r) (hcl : clears b o ≠ []) (h : Reaches s agent (hdrOff page o))
    (hc : s.claimOf page = none) (hhub : ∀ k, hubOf b inst = some k → s.restarting k = false) (val : Word) :
    ∃ u, Does (.counterClear agent (hdrOff page o) val) s u
      ∧ Cleared (woken s agent) u page b o (Nat.land val.toNat (Nat.lor r.w1c (Nat.lor r.w1s r.wo))) := by
  obtain ⟨hlow, -⟩ := clearReg_past_header (mem_clearRegs hcl)
  rw [specAt_page hb hlow ho] at hr
  obtain ⟨hrw, hrole⟩ := clearReg_stores_nothing (mem_clearRegs hcl) hr
  rw [← specAt_page hb hlow ho] at hr
  have hdiv := hdrOff_div page ho
  refine ⟨_, runWrite_alive h (withBits val 0), ?_⟩
  rw [State.write32_unclaimed h (hdiv.symm ▸ hb) hr (by rwa [hdrOff_mod page ho]) hrole (hdiv.symm ▸ hc), word_of_withBits_zero]
  exact State.applyWord_cleared hb ho hcl hrw (State.hubWaits_none fun k hk => by rw [woken_restarting, hhub k hk]) agent val none false

/-- Settles O19: the first part is what `State.count` does, the second `does_counterClear`. -/
theorem countersStopAndClear : Obligations.CountersStopAndClear := by
  refine ⟨fun s off n h => ⟨Counts.count s off n h, State.count_saturates, fun a => State.rd_count_other s off n a⟩, ?_⟩
  intro s agent page o val b inst r hb ho hr hcl h hc hhub
  obtain ⟨u, hdoes, hzero, hothers⟩ := does_counterClear hb ho hr hcl h hc hhub val
  obtain ⟨-, hcounter⟩ := clearReg_past_header (mem_clearRegs hcl)
  refine ⟨u, hdoes, fun i l hl hi hwo c hmem => ?_, hothers⟩
  have hz := hzero i l hl (testBit_acted hi hwo) c hmem
  exact ⟨hz, State.count_of_zero (hcounter l (List.mem_of_getElem? hl) c hmem) hz⟩
end Sys2Proof.Machine

namespace Sys2Proof.Machine
open Sys2Proof

/-! ### The backlog drains (R176) -/

/-- Where an entry that has been released can be written, one at least is: the first that can finds the state as it was. -/
theorem State.drainList_shorter {s : State} {l : List CplEntry} (h : (l.any fun e => e.tick.isSome && s.deliverable e) = true) :
    (s.drainList l).2.1.length < l.length := by
  have hle (t : State) (l : List CplEntry) : (t.drainList l).2.1.length ≤ l.length := by
    induction l generalizing t with
    | nil => exact le_rfl
    | cons e l ih =>
      simp only [State.drainList]
      split
      · exact (ih _).trans (Nat.le_succ _)
      · exact Nat.succ_le_succ (ih _)
  induction l with
  | nil => cases h
  | cons e l ih =>
    simp only [State.drainList]
    split
    · exact Nat.lt_succ_of_le (hle _ _)
    · next hstays =>
      rw [List.any_cons, Bool.and_comm, Bool.eq_false_iff.2 hstays, Bool.false_or] at h
      exact Nat.succ_lt_succ (ih h)

theorem State.backlog_congr {s t : State} (h : t.link.backlog = s.link.backlog) (n : Nat) : t.backlog n = s.backlog n := by
  rw [State.backlog, h, State.backlog]

theorem State.log_link (s : State) (h l c x y z : Nat) : (s.log h l c x y z).link = s.link := by
  unfold State.log
  split <;> rfl

theorem State.backlog_logHigh (s : State) (m n : Nat) : (s.logHigh m).backlog n = s.backlog n := by
  refine State.backlog_congr ?_ n
  simp only [State.logHigh]
  split
  · rw [State.log_link]
  · split <;> rfl

theorem State.backlog_setBacklog (s : State) (n : Nat) (l : List CplEntry) : (s.setBacklog n l).backlog n = l :=
  (State.backlog_logHigh _ n n).trans (Tab.get_putD_same ..)

/-- A message of a vector touches the vectors of the link alone. -/
theorem State.passVec_link (s : State) (n v : Nat) : (s.passVec n v).link = { s.link with vecs := (s.passVec n v).link.vecs } := by
  unfold State.passVec
  split <;> rfl

theorem State.dueVec_link (s : State) (n v : Nat) : (s.dueVec n v).link = { s.link with vecs := (s.dueVec n v).link.vecs } := by
  have hpass (u : State) (h : u.link = { s.link with vecs := u.link.vecs }) :
      (if u.vecSendable n v then u.passVec n v else u).link
        = { s.link with vecs := (if u.vecSendable n v then u.passVec n v else u).link.vecs } := by
    split
    · rw [State.passVec_link, h]
    · exact h
  unfold State.dueVec
  refine hpass _ ?_
  split <;> rfl

theorem State.backlog_cqMessages (s : State) (m : Nat) (rings : List Nat) (n : Nat) : (s.cqMessages m rings).backlog n = s.backlog n := by
  refine State.backlog_congr ?_ n
  unfold State.cqMessages
  generalize (List.range 4).filter (fun q => rings.contains q) = qs
  induction qs generalizing s with
  | nil => rfl
  | cons q qs ih =>
    refine (ih _).trans ?_
    dsimp only
    split
    · rw [State.dueVec_link]
    · rfl

theorem State.backlog_drain (s : State) (n : Nat) : (s.drain n).backlog n = (s.drainList (s.backlog n)).2.1 := by
  simp only [State.drain, State.backlog_cqMessages, State.backlog_setBacklog]

theorem works_deliveryHoldEnd {s : State} (ha : s.alive = true) {n : Nat} (h : s.holdEnded n = true) :
    Works (.deliveryHoldEnd n) s (s.drain n) ∧ ((s.drain n).backlog n).length < (s.backlog n).length := by
  refine ⟨⟨?_, State.drain_fixed s n⟩, ?_⟩
  · show execDeliveryHoldEnd n s = _
    exact runCmdIf_alive _ _ s ha h
  · rw [State.backlog_drain]
    exact State.drainList_shorter h

/-! ### A due message passes moderation (R123, R170) -/

theorem State.vec_setVec (s : State) (n v : Nat) (x : VecState) : (s.setVec n v x).vec n v = x := by
  simp only [State.vec, State.setVec, Tab.get]
  split
  · next hx => rw [Tab.find_erase_same, hx, Option.getD_none]
  · rw [Tab.find_set_same, Option.getD_some]

/-- A message that is blocked is held. -/
theorem State.passVec_blocked {s : State} {n v : Nat} (h : s.vecBlocked n v = true) :
    s.passVec n v = s.setVec n v { s.vec n v with due := none, needEdge := false, edge := none, held := true } := if_pos h

/-- A message that is not blocked is sent. -/
theorem State.passVec_sent {s : State} {n v : Nat} (h : s.vecBlocked n v = false) :
    s.passVec n v = (s.setVec n v { s.vec n v with due := none, needEdge := false, edge := none, held := false,
                                                   lastSent := some s.now }).emit (.msix n v) := if_neg (by simp [h])

theorem State.vec_emit (s : State) (e : OutEvent) (n v : Nat) : (s.emit e).vec n v = s.vec n v := rfl

theorem State.passVec_due (s : State) (n v : Nat) : ((s.passVec n v).vec n v).due = none := by
  cases h : s.vecBlocked n v
  · rw [State.passVec_sent h, State.vec_emit, State.vec_setVec]
  · rw [State.passVec_blocked h, State.vec_setVec]

theorem State.passVec_holds {s : State} {n v : Nat} (h : s.vecBlocked n v = true) :
    ((s.passVec n v).vec n v).held = true ∧ (s.passVec n v).out = s.out := by
  rw [State.passVec_blocked h, State.vec_setVec]
  exact ⟨rfl, rfl⟩

theorem State.passVec_sends {s : State} {n v : Nat} (h : s.vecBlocked n v = false) :
    ((s.passVec n v).vec n v).held = false ∧ ((s.passVec n v).vec n v).lastSent = some s.now ∧ .msix n v ∈ (s.passVec n v).out := by
  rw [State.passVec_sent h, State.vec_emit, State.vec_setVec]
  exact ⟨rfl, rfl, List.mem_cons_self⟩

theorem does_msixSend {s : State} (ha : s.alive = true) {n v : Nat} (h : (s.waitTo (s.vecDue n v)).vecSendable n v = true) :
    DoesBy (.msixSend n v) s (s.vecDue n v) ((s.waitTo (s.vecDue n v)).passVec n v) := by
  show execMsixSend n v s = _
  exact runCmdAt_alive _ _ _ s ha h

/-! ### L1 (R180) -/

theorem State.trace_out (s : State) (p u a b : Nat) : (s.trace p u a b).out = s.out := by
  unfold State.trace
  split <;> rfl

theorem State.trace_link (s : State) (p u a b : Nat) : (s.trace p u a b).link = s.link := by
  unfold State.trace
  split <;> rfl

theorem State.setPm_out (s : State) (pm : Nat) : (s.setPm pm).out = s.out := by
  unfold State.setPm
  split
  · rfl
  · exact State.trace_out ..

theorem State.setPm_link (s : State) (pm : Nat) : (s.setPm pm).link = s.link := by
  unfold State.setPm
  split
  · rfl
  · exact State.trace_link ..

theorem Word.fld_setFld_pm (w : Word) {pm : Nat} (h : pm < 4) : Word.fld (Word.setFld w 9 2 pm) 9 2 = pm := by
  have hw := w.isLt
  simp only [Word.fld, Word.setFld, bitsOf, BitVec.toNat_ofNat]
  omega

/-- The link's power state is shown in LNK_STATUS. -/
theorem State.fld_setPm (s : State) {pm : Nat} (h : pm < 4) : (s.setPm pm).fld Reg.LNK_STATUS 9 2 = pm := by
  unfold State.setPm
  split
  · assumption
  · rw [State.fld, State.rd_congr (State.trace_regs ..) (State.trace_part ..), State.rd_setFld_same, Word.fld_setFld_pm _ h]

/-- A link whose idle time has passed asks for L1 and rests. -/
theorem does_l1IdleEntry {s : State} (ha : s.alive = true) (h : s.l1Due = true) :
    DoesBy .l1IdleEntry s (s.link.idleSince + max 1 (s.fld Reg.LNK_CTL 0 8))
      (((s.waitTo (s.link.idleSince + max 1 (s.fld Reg.LNK_CTL 0 8))).emit .l1Request).setPm (1 + min 2 s.link.pf.l1ss)) := by
  show execL1IdleEntry s = _
  exact runCmdAt_alive _ _ _ s ha h

/-! ### The host's configuration (R123, R165) -/

/-- What the host has configured of the functions. -/
structure HostConfig where
  fns : List (Nat × FnCfg)
  pf : PfCfg
  msix : List ((Nat × Nat) × MsixEntry)

def State.hostConfig (s : State) : HostConfig := ⟨s.link.fns, s.link.pf, s.link.msix⟩

theorem State.fn_of_hostConfig {s t : State} (h : t.hostConfig = s.hostConfig) (n : Nat) : t.fn n = s.fn n := by
  rw [State.fn, show t.link.fns = s.link.fns from congrArg HostConfig.fns h, State.fn]

theorem State.pf_of_hostConfig {s t : State} (h : t.hostConfig = s.hostConfig) : t.link.pf = s.link.pf := congrArg HostConfig.pf h

theorem State.msix_of_hostConfig {s t : State} (h : t.hostConfig = s.hostConfig) : t.link.msix = s.link.msix :=
  congrArg HostConfig.msix h

theorem State.hostConfig_of_link {s t : State} (h : t.link = s.link) : t.hostConfig = s.hostConfig := by
  rw [State.hostConfig, h, State.hostConfig]

theorem State.passVec_hostConfig (s : State) (n v : Nat) : (s.passVec n v).hostConfig = s.hostConfig := by
  rw [State.hostConfig, State.passVec_link, State.hostConfig]

theorem State.dueVec_hostConfig (s : State) (n v : Nat) : (s.dueVec n v).hostConfig = s.hostConfig := by
  rw [State.hostConfig, State.dueVec_link, State.hostConfig]

theorem State.wakeHost_hostConfig (s : State) : s.wakeHost.hostConfig = s.hostConfig := by
  unfold State.wakeHost
  split
  · rfl
  · split <;> rfl

theorem State.withLine_hostConfig (s : State) (pg : Nat) {f : State → State} (h : (f s).hostConfig = s.hostConfig) :
    (s.withLine pg f).hostConfig = s.hostConfig := by
  have hwake (c : Bool) (u : State) (hu : u.hostConfig = s.hostConfig) : (if c then u.wakeHost else u).hostConfig = s.hostConfig := by
    split
    · rw [State.wakeHost_hostConfig, hu]
    · exact hu
  unfold State.withLine
  refine hwake _ _ ?_
  split
  · rw [State.dueVec_hostConfig, h]
  · exact h

theorem State.wr_hostConfig (s : State) (off : Nat) (w : Word) : (s.wr off w).hostConfig = s.hostConfig := rfl

theorem State.raiseBit_hostConfig (s : State) (pg i : Nat) : (s.raiseBit pg i).hostConfig = s.hostConfig := by
  rw [State.raiseBit, State.raise]
  exact State.withLine_hostConfig s pg (State.wr_hostConfig ..)

theorem State.count_hostConfig (s : State) (off n : Nat) : (s.count off n).hostConfig = s.hostConfig := by
  simp only [State.count]
  split
  · rfl
  · split
    · exact State.raiseBit_hostConfig ..
    · rfl

theorem State.wakeLink_hostConfig (s : State) : s.wakeLink.hostConfig = s.hostConfig := by
  simp only [State.wakeLink]
  split
  · rfl
  · rw [State.count_hostConfig, State.hostConfig_of_link (State.setPm_link ..)]
    rfl

theorem State.flushHeld_hostConfig (s : State) (n : Nat) : (s.flushHeld n).hostConfig = s.hostConfig := by
  unfold State.flushHeld
  generalize List.range 64 = vs
  induction vs generalizing s with
  | nil => rfl
  | cons v vs ih =>
    refine (ih _).trans ?_
    dsimp only
    split
    · exact State.passVec_hostConfig ..
    · rfl

theorem State.ltrUpdate_hostConfig (s : State) : s.ltrUpdate.hostConfig = s.hostConfig := by
  simp only [State.ltrUpdate]
  split
  · rfl
  · split <;> rfl

/-- A function's configuration changes as told. -/
theorem State.fn_modFn (s : State) (n : Nat) (f : FnCfg → FnCfg) : (s.modFn n f).fn n = f (s.fn n) := by
  rw [State.modFn, State.fn_of_hostConfig (State.flushHeld_hostConfig _ n)]
  exact Tab.get_put_same ..

theorem State.setMsix_msix (s : State) (n v : Nat) (e : MsixEntry) : (s.setMsix n v e).link.msix = Tab.set s.link.msix (n, v) e := by
  rw [State.setMsix, State.msix_of_hostConfig (State.flushHeld_hostConfig _ n)]

/-- What a field of configuration space sets of its function's configuration. -/
def configuredFn (f : CfgField) (x : FnCfg) : FnCfg :=
  match f with
  | .d3hot v => { x with d3hot := v }
  | .busMaster v => { x with bme := v }
  | .msixEnable v => { x with msixEn := v }
  | .msixMask v => { x with msixMask := v }
  | .pmeEnable v => { x with pmeEn := v }
  | .maxPayload v => { x with mps := v }
  | .maxRead v => { x with mrrs := v }
  | .cplTimeout v => { x with cplTimeout := v }
  | .numVFs _ | .vfEnable | .ari _ | .ltrEnable _ | .aspmL1 _ | .l1Substates _ => x

/-- What a field of the PF's configuration space sets of the PF's controls; NumVFs stands while VF Enable is 1. -/
def configuredPf (f : CfgField) (x : PfCfg) : PfCfg :=
  match f with
  | .numVFs v => if x.vfEnable then x else { x with numVFs := min 15 v }
  | .vfEnable => { x with vfEnable := true }
  | .ari v => { x with ari := v }
  | .ltrEnable v => { x with ltrEn := v }
  | .aspmL1 v => { x with aspmL1 := v }
  | .l1Substates v => { x with l1ss := v }
  | .d3hot _ | .busMaster _ | .msixEnable _ | .msixMask _ | .pmeEnable _ | .maxPayload _ | .maxRead _ | .cplTimeout _ => x

theorem State.fn_modPf (s : State) (f : PfCfg → PfCfg) (n : Nat) : (s.modPf f).fn n = s.fn n := rfl

theorem State.fn_configure (s : State) (n : Nat) (f : CfgField) : (s.configure n f).fn n = configuredFn f (s.fn n) := by
  cases f
  case d3hot | busMaster | msixEnable | msixMask | pmeEnable | maxPayload | maxRead | cplTimeout =>
    rw [State.configure, State.fn_modFn, configuredFn]
  case ltrEnable v =>
    rw [State.configure, configuredFn]
    split
    · rw [State.fn_of_hostConfig (State.ltrUpdate_hostConfig _), State.fn_modPf]
    · rfl
  case numVFs | vfEnable | ari | aspmL1 | l1Substates =>
    rw [State.configure, configuredFn]
    split
    · rw [State.fn_modPf]
    · rfl

theorem State.modFn_pf (s : State) (n : Nat) (f : FnCfg → FnCfg) : (s.modFn n f).link.pf = s.link.pf := by
  rw [State.modFn, State.pf_of_hostConfig (State.flushHeld_hostConfig _ n)]

theorem State.pf_configure (s : State) (f : CfgField) : (s.configure 0 f).link.pf = configuredPf f s.link.pf := by
  cases f
  case d3hot | busMaster | msixEnable | msixMask | pmeEnable | maxPayload | maxRead | cplTimeout =>
    rw [State.configure, State.modFn_pf, configuredPf]
  case ltrEnable v =>
    rw [State.configure, if_pos rfl, State.pf_of_hostConfig (State.ltrUpdate_hostConfig _)]
    rfl
  case numVFs v =>
    cases h : s.link.pf.vfEnable <;> simp [State.configure, configuredPf, State.modPf, h]
  case vfEnable | ari | aspmL1 | l1Substates => rfl

/-- Outside AON a host access wakes the link, which leaves the control side of the block and what the host has configured. -/
theorem State.hostTouches_awake {s : State} (h : s.pwr.st ≠ .aon) :
    s.hostTouches.fixed = s.fixed ∧ s.hostTouches.hostConfig = s.hostConfig := by
  rw [State.hostTouches, if_neg h]
  exact ⟨State.wakeLink_fixed s, State.wakeLink_hostConfig s⟩

/-- A write of configuration space (R165). -/
def State.writeConfig (s : State) (n : Nat) (f : CfgField) : State := if s.riderExists n then (s.configure n f).hostTouches else s

theorem does_configSpaceWrite {s : State} (ha : s.alive = true) (hup : s.linkUp = true) (n : Nat) (f : CfgField) :
    Does (.configSpaceWrite n f) s (s.writeConfig n f) := runCmdIf_alive _ _ s ha hup

theorem State.writeConfig_absent {s : State} {n : Nat} (h : s.riderExists n = false) (f : CfgField) : s.writeConfig n f = s :=
  if_neg (by simp [h])

theorem State.configure_awake {s : State} (h : s.pwr.st ≠ .aon) (n : Nat) (f : CfgField) : (s.configure n f).pwr.st ≠ .aon := by
  rwa [State.pwr_of_fixed (s.configure_fixed n f)]

theorem State.writeConfig_fixed {s : State} (h : s.pwr.st ≠ .aon) (n : Nat) (f : CfgField) : (s.writeConfig n f).fixed = s.fixed := by
  obtain ⟨hfixed, -⟩ := State.hostTouches_awake (State.configure_awake h n f)
  unfold State.writeConfig
  split
  · rw [hfixed, State.configure_fixed]
  · rfl

theorem State.writeConfig_hostConfig {s : State} {n : Nat} (hn : s.riderExists n = true) (h : s.pwr.st ≠ .aon) (f : CfgField) :
    (s.writeConfig n f).hostConfig = (s.configure n f).hostConfig := by
  obtain ⟨-, hconfig⟩ := State.hostTouches_awake (State.configure_awake h n f)
  rw [State.writeConfig, if_pos hn, hconfig]

/-- A write of a vector's entry in a function's MSI-X table (R123). -/
def State.writeMsix (s : State) (n v : Nat) (e : MsixEntry) : State :=
  if s.riderExists n && !(s.fn n).d3hot then (s.setMsix n v e).hostTouches else s

theorem does_msixTableWrite {s : State} (ha : s.alive = true) (hup : s.linkUp = true) (n : Nat) {v : Nat} (hv : v < 64) (addr : DWord)
    (data : Word) (masked : Bool) :
    Does (.msixTableWrite n v addr data masked) s (s.writeMsix n v { addr := addr, data := data, masked := masked }) := by
  have hblt : Nat.blt v 64 = true := Nat.ble_eq_true_of_le hv
  show execMsixTableWrite n v addr data masked s = _
  exact runCmdIf_alive _ _ s ha (by rw [hup, hblt]; rfl)

theorem State.writeMsix_shut {s : State} {n : Nat} (h : s.riderExists n = false ∨ (s.fn n).d3hot = true) (v : Nat) (e : MsixEntry) :
    s.writeMsix n v e = s := by
  refine if_neg ?_
  obtain hn | hd := h
  · simp [hn]
  · simp [hd]

/-- A function outside D3hot takes the entry, and its other entries stay. -/
theorem State.writeMsix_open {s : State} {n : Nat} (hn : s.riderExists n = true) (hd : (s.fn n).d3hot = false) (h : s.pwr.st ≠ .aon)
    (v : Nat) (e : MsixEntry) :
    (s.writeMsix n v e).fixed = s.fixed ∧ (s.writeMsix n v e).link.msix = Tab.set s.link.msix (n, v) e := by
  have hawake : (s.setMsix n v e).pwr.st ≠ .aon := by rwa [State.pwr_of_fixed (State.setMsix_fixed ..)]
  obtain ⟨hfixed, hconfig⟩ := State.hostTouches_awake hawake
  rw [State.writeMsix, if_pos (by simp [hn, hd])]
  exact ⟨hfixed.trans (State.setMsix_fixed ..), (State.msix_of_hostConfig hconfig).trans (State.setMsix_msix ..)⟩

/-- Settles O53, row by row. -/
theorem linkEvents : Obligations.LinkEvents := by
  intro s ha
  refine ⟨fun n h => ⟨_, works_deliveryHoldEnd ha h⟩, fun n v => ?_, fun h => ?_, fun n f hup => ?_,
    fun n v addr data masked hup hv => ?_⟩
  · intro w h
    refine ⟨_, does_msixSend ha h, State.passVec_fixed .., State.passVec_due .., State.passVec_regs .., State.passVec_holds,
      fun hb => ?_⟩
    obtain ⟨hheld, hlast, hout⟩ := State.passVec_sends hb
    exact ⟨hheld, hlast, rfl, hout⟩
  · intro due
    refine ⟨_, does_l1IdleEntry ha h, ?_, State.fld_setPm _ (by omega), ?_⟩
    · rw [State.setPm_fixed, State.emit_fixed]
    · rw [State.setPm_out]
      exact List.mem_cons_self
  · refine ⟨_, does_configSpaceWrite ha hup n f, fun hn => State.writeConfig_absent hn f,
      fun hst => State.writeConfig_fixed hst n f, fun hn hst => ?_⟩
    have hconfig := State.writeConfig_hostConfig hn hst f
    rw [State.fn_of_hostConfig hconfig, State.pf_of_hostConfig hconfig, State.fn_configure]
    refine ⟨?_, ?_, ?_, ?_, ?_, ?_, ?_, ?_, ?pf⟩
    case pf =>
      rintro rfl
      rw [State.pf_configure]
      refine ⟨?_, ?_, ?_, ?_, ?_, ?_⟩
      · rintro v rfl hvf
        simp [configuredPf, hvf]
      · rintro rfl
        rfl
      all_goals
        rintro v rfl
        rfl
    all_goals
      rintro v rfl
      rfl
  · refine ⟨_, does_msixTableWrite ha hup n hv addr data masked, fun h => State.writeMsix_shut h v _, fun hn hd hst => ?_⟩
    obtain ⟨hfixed, hmsix⟩ := State.writeMsix_open hn hd hst v { addr := addr, data := data, masked := masked }
    rw [hmsix]
    exact ⟨hfixed, Tab.find_set_same .., fun k hk => Tab.find_set_other _ _ _ _ hk⟩
end Sys2Proof.Machine

namespace Sys2Proof.Machine
open Sys2Proof

/-! ### Firmware banks (R136, R155) -/

@[simp] theorem Part.bank_setBank_same (p : Part) (i : Nat) (b : Bank) : (p.setBank i b).bank i = b := by
  by_cases hi : i = 0 <;> simp [Part.setBank, Part.bank, hi]

/-- Replacing one bank leaves the other. -/
theorem Part.bank_setBank_other (p : Part) {i j : Nat} (hi : i ≤ 1) (hj : j ≤ 1) (h : j ≠ i) (b : Bank) :
    (p.setBank i b).bank j = p.bank j := by
  obtain ⟨rfl, rfl⟩ | ⟨rfl, rfl⟩ : (i = 0 ∧ j = 1) ∨ (i = 1 ∧ j = 0) := by omega
  all_goals rfl

@[simp] theorem State.setBank_part (s : State) (i : Nat) (b : Bank) : (s.setBank i b).part = s.part.setBank i b := rfl

/-- `q` is `p` but for its firmware banks. -/
def Part.SameButBanks (p q : Part) : Prop := q = { p with bank0 := q.bank0, bank1 := q.bank1 }

theorem Part.SameButBanks.of_eq {p q : Part} (h : q = p) : p.SameButBanks q := by
  rw [h]
  rfl

theorem Part.SameButBanks.trans {p q r : Part} (h : p.SameButBanks q) (k : q.SameButBanks r) : p.SameButBanks r := by
  unfold Part.SameButBanks at *
  rw [k, h]

theorem Part.setBank_sameButBanks (p : Part) (i : Nat) (b : Bank) : p.SameButBanks (p.setBank i b) := by
  unfold Part.setBank
  split <;> rfl

/-- Where an effect changes nothing of the part but its banks, the answer has the part as the effect leaves it. -/
theorem State.keepReg_part {f : State → State} {s : State} (h : s.part.SameButBanks (f s).part) :
    (State.keepReg f s).part = (f s).part := by
  rw [State.keepReg, h]

theorem State.rd_keepReg {f : State → State} {s : State} (h : s.part.SameButBanks (f s).part) (o : Nat) :
    (State.keepReg f s).rd o = (f s).rd o := State.rd_congr (s := f s) (t := State.keepReg f s) rfl (State.keepReg_part h) o

/-! ### The effect of a store operation (Table 5-9, R141, R155) -/

/-- The former ACTIVE bank, where there is one, becomes STANDBY (Table 5-9, confirm). -/
def State.standDown (s : State) : State :=
  match s.part.bankIn .active with
  | some i => s.setBank i { s.part.bank i with st := .standby }
  | none => s

theorem State.standDown_boot (s : State) : s.standDown.boot = s.boot := by
  unfold State.standDown
  split <;> rfl

theorem State.standDown_sameButBanks (s : State) : s.part.SameButBanks s.standDown.part := by
  unfold State.standDown
  split
  · exact s.part.setBank_sameButBanks _ _
  · rfl

theorem State.standDown_bank {s : State} {i : Nat} (h : s.part.bankIn .active = some i) :
    s.standDown.part.bank i = { s.part.bank i with st := .standby } := by
  simp only [State.standDown, h, State.setBank_part, Part.bank_setBank_same]

/-- The recovery image is what the hubs that are released run (R141). -/
def State.runRecovery (s : State) (image : List Byte) : State :=
  [1, 2, 3].foldl (fun s h => s.releaseHub h)
    ({ s with boot := { s.boot with stage := 5, image := image, trial := false } }.setFw .booting)

theorem State.setFw_boot (s : State) (fw : FwState) : (s.setFw fw).boot = { s.boot with fw := fw } := by
  unfold State.setFw
  split
  · next h => rw [← h]
  · rw [State.raiseBit_boot]

theorem State.setFw_part (s : State) (fw : FwState) : (s.setFw fw).part = s.part := by
  unfold State.setFw
  split
  · rfl
  · rw [State.raiseBit_part]

theorem State.releaseHub_boot (s : State) (h : Nat) : (s.releaseHub h).boot = s.boot := State.log_boot ..
theorem State.releaseHub_part (s : State) (h : Nat) : (s.releaseHub h).part = s.part := State.log_part ..

theorem State.runRecovery_boot (s : State) (image : List Byte) :
    (s.runRecovery image).boot = { s.boot with fw := .booting, stage := 5, image := image, trial := false } := by
  simp only [State.runRecovery, List.foldl_cons, List.foldl_nil, State.releaseHub_boot, State.setFw_boot]

theorem State.runRecovery_part (s : State) (image : List Byte) : (s.runRecovery image).part = s.part := by
  simp only [State.runRecovery, List.foldl_cons, List.foldl_nil, State.releaseHub_part, State.setFw_part]

section
variable {o : FwOp}

theorem State.fwEffect_write (s : State) (h : o.op = 1) :
    s.fwEffect o = (s.setBank o.target { st := .trial, attempts := 0, image := o.image }).setFld Reg.HUB_FW_STATUS 16 16
      (o.image.length / 1024) := by
  simp only [State.fwEffect, h]

theorem State.fwEffect_rollback (s : State) (h : o.op = 2) :
    s.fwEffect o = s.setBank o.target { s.part.bank o.target with st := .trial, attempts := 0 } := by
  simp only [State.fwEffect, h]

theorem State.fwEffect_confirm (s : State) (h : o.op = 3) :
    s.fwEffect o = { s.standDown.setBank o.target { s.part.bank o.target with st := .active, attempts := 0 } with
      boot := { s.boot with trial := false } } := by
  rw [← s.standDown_boot]
  simp only [State.fwEffect, h]
  rfl

theorem State.fwEffect_recovery (s : State) (h : o.op = 4) : s.fwEffect o = s.runRecovery o.image := by
  simp only [State.fwEffect, h]
  rfl

theorem State.fwEffect_other (s : State) (h : ¬(1 ≤ o.op ∧ o.op ≤ 4)) : s.fwEffect o = s := by
  unfold State.fwEffect
  split
  case h_5 => rfl
  all_goals omega

end

/-- Whatever the operation, its effect starts none, and leaves the part but for its banks. -/
theorem State.fwEffect_frame (s : State) (o : FwOp) :
    (s.fwEffect o).boot.op = s.boot.op ∧ s.part.SameButBanks (s.fwEffect o).part := by
  obtain h | h | h | h | h : o.op = 1 ∨ o.op = 2 ∨ o.op = 3 ∨ o.op = 4 ∨ ¬(1 ≤ o.op ∧ o.op ≤ 4) := by omega
  · rw [s.fwEffect_write h]
    exact ⟨rfl, s.part.setBank_sameButBanks _ _⟩
  · rw [s.fwEffect_rollback h]
    exact ⟨rfl, s.part.setBank_sameButBanks _ _⟩
  · rw [s.fwEffect_confirm h]
    exact ⟨rfl, s.standDown_sameButBanks.trans (Part.setBank_sameButBanks _ _ _)⟩
  · rw [s.fwEffect_recovery h, State.runRecovery_boot]
    exact ⟨rfl, .of_eq (s.runRecovery_part _)⟩
  · rw [s.fwEffect_other h]
    exact ⟨rfl, rfl⟩

/-! ### The end of a store operation (R154, R156) -/

/-- The operation is taken off, and its staged image's scratch is free. -/
def State.dropFwOp (s : State) (o : FwOp) : State :=
  let t := { s with boot := { s.boot with op := none } }
  match o.scratch with
  | some w => t.freeOwner .scratch w
  | none => t

theorem State.dropFwOp_boot (s : State) (o : FwOp) : (s.dropFwOp o).boot = { s.boot with op := none } := by
  unfold State.dropFwOp
  split <;> rfl

theorem State.dropFwOp_part (s : State) (o : FwOp) : (s.dropFwOp o).part = s.part := by
  unfold State.dropFwOp
  split <;> rfl

/-- The operation is taken off, with its effect where it succeeded. -/
def State.settleFwOp (s : State) (o : FwOp) : State := if o.result = 0 then (s.dropFwOp o).fwEffect o else s.dropFwOp o

theorem State.settleFwOp_failed (s : State) {o : FwOp} (h : o.result ≠ 0) : s.settleFwOp o = s.dropFwOp o := if_neg h
theorem State.settleFwOp_done (s : State) {o : FwOp} (h : o.result = 0) : s.settleFwOp o = (s.dropFwOp o).fwEffect o := if_pos h

theorem State.settleFwOp_frame (s : State) (o : FwOp) :
    (s.settleFwOp o).boot.op = none ∧ s.part.SameButBanks (s.settleFwOp o).part := by
  have hdrop : (s.dropFwOp o).boot.op = none := by rw [State.dropFwOp_boot]
  by_cases h : o.result = 0
  · obtain ⟨hop, hpart⟩ := (s.dropFwOp o).fwEffect_frame o
    rw [State.dropFwOp_part] at hpart
    rw [State.settleFwOp_done s h]
    exact ⟨hop.trans hdrop, hpart⟩
  · rw [State.settleFwOp_failed s h]
    exact ⟨hdrop, .of_eq (s.dropFwOp_part o)⟩

theorem State.fwEnd_eq {s : State} {o : FwOp} (h : s.boot.op = some o) :
    s.fwEnd = if o.result = 0 && o.op ≤ 2 && ((s.settleFwOp o).fwReport o.result).bit Reg.HUB_FW_CTL 8
      then ((s.settleFwOp o).fwReport o.result).wantReset 4 else (s.settleFwOp o).fwReport o.result := by
  simp only [State.fwEnd, h]
  rfl

theorem State.wantReset_boot (s : State) (cause : Nat) :
    (s.wantReset cause).boot = { s.boot with resetReq := (s.wantReset cause).boot.resetReq } := by
  unfold State.wantReset
  split <;> rfl

theorem State.fwReport_boot (s : State) (result : Nat) : (s.fwReport result).boot = s.boot := by
  rw [State.fwReport, State.fwEntry_boot, State.raiseBit_boot, State.setFld_boot]

theorem State.fwReport_part (s : State) (result : Nat) : (s.fwReport result).part = s.part :=
  State.part_of_fixed (s.fwReport_fixed result)

/-- A field of a word that is replaced reads as the value, cut to its width. -/
theorem Word.fld_setFld_same (w : Word) {lo n : Nat} (h : lo + n ≤ 32) (v : Nat) : Word.fld (Word.setFld w lo n v) lo n = v % 2 ^ n := by
  have hsplit : 2 ^ 32 = 2 ^ lo * 2 ^ (32 - lo) := by rw [← Nat.pow_add]; congr 1; omega
  have hdvd : 2 ^ n ∣ 2 ^ (32 - lo) := Nat.pow_dvd_pow 2 (by omega)
  have hquot (m : Nat) : (w.toNat - w.toNat / 2 ^ lo % 2 ^ n * 2 ^ lo + m * 2 ^ lo) / 2 ^ lo
      = w.toNat / 2 ^ lo - w.toNat / 2 ^ lo % 2 ^ n + m := by
    rw [Nat.add_mul_div_right _ _ (Nat.two_pow_pos lo), Nat.mul_comm, Nat.sub_mul_div]
  have hhigh : w.toNat / 2 ^ lo - w.toNat / 2 ^ lo % 2 ^ n = 2 ^ n * (w.toNat / 2 ^ lo / 2 ^ n) := by
    have := Nat.div_add_mod (w.toNat / 2 ^ lo) (2 ^ n)
    omega
  rw [Word.fld, Word.setFld, Word.fld, bitsOf, bitsOf, BitVec.toNat_ofNat, hsplit, Nat.mod_mul_right_div_self, Nat.mod_mod_of_dvd _ hdvd,
    hquot, hhigh, Nat.mul_add_mod, Nat.mod_mod]

/-- The result stands in its field of HUB_FW_STATUS. -/
theorem State.fld_fwReport (s : State) (result : Nat) : (s.fwReport result).fld Reg.HUB_FW_STATUS 8 8 = result % 256 := by
  rw [State.fwReport, State.fld, State.rd_fwEntry, State.rd_raiseBit_other _ _ _ _ (by decide), State.rd_setFld_same]
  exact Word.fld_setFld_same _ (by decide) result

/-- What an end leaves: the part as the operation settles it, boot too but for a device reset asked for, and the result in
HUB_FW_STATUS. -/
theorem State.fwEnd_leaves {s : State} {o : FwOp} (h : s.boot.op = some o) :
    s.fwEnd.part = (s.settleFwOp o).part ∧ s.fwEnd.boot = { (s.settleFwOp o).boot with resetReq := s.fwEnd.boot.resetReq }
      ∧ s.fwEnd.fld Reg.HUB_FW_STATUS 8 8 = o.result % 256 := by
  have hpart := (s.settleFwOp o).fwReport_part o.result
  have hboot := (s.settleFwOp o).fwReport_boot o.result
  have hfld := (s.settleFwOp o).fld_fwReport o.result
  rw [State.fwEnd_eq h]
  split
  · refine ⟨(State.wantReset_part ..).trans hpart, ?_, ?_⟩
    · rw [← hboot]
      exact State.wantReset_boot ..
    · rw [← hfld, State.fld, State.rd_congr (State.wantReset_regs ..) (State.wantReset_part ..), State.fld]
  · exact ⟨hpart, by rw [hboot], hfld⟩

theorem exec_fwOpDone {s : State} (ha : s.alive = true) {o : FwOp} (h : s.boot.op = some o) :
    exec .fwOpDone s = .next (State.keepReg State.fwEnd s) := by
  show execFwOpDone s = _
  rw [execFwOpDone, runRegIf, if_neg (by simp [ha]), if_pos (by simp [h])]

/-- Settles O35. The answer has the part, the boot and the status that `State.fwEnd_leaves` gives; what they are is the operation's
effect. -/
theorem firmwareOperationsEnd : Obligations.FirmwareOperationsEnd := by
  intro s o ha hop ht
  obtain ⟨hpart, hboot, hstatus⟩ := State.fwEnd_leaves hop
  obtain ⟨hnone, hbanks⟩ := s.settleFwOp_frame o
  have hkeep : s.part.SameButBanks s.fwEnd.part := by rwa [hpart]
  have hother : 1 - o.target ≤ 1 ∧ 1 - o.target ≠ o.target := by omega
  refine ⟨_, exec_fwOpDone ha hop, ?_, ?_, ?_⟩
  · show s.fwEnd.boot.op = none
    rw [hboot, hnone]
  · rw [State.fld, State.rd_keepReg hkeep]
    exact hstatus
  · rw [State.keepReg_part hkeep, hpart, show (State.keepReg State.fwEnd s).boot = _ from hboot]
    refine ⟨fun hr => ?failed, fun hr h => ?write, fun hr h => ?rollback, fun hr h => ?confirm, fun hr h => ?recovery⟩
    case failed => rw [s.settleFwOp_failed hr, State.dropFwOp_part]
    all_goals rw [s.settleFwOp_done hr]
    case write =>
      rw [State.fwEffect_write _ h, State.setFld, State.wr_part, State.setBank_part, State.dropFwOp_part]
      exact ⟨Part.bank_setBank_same .., Part.bank_setBank_other _ ht hother.1 hother.2 _⟩
    case rollback =>
      rw [State.fwEffect_rollback _ h, State.setBank_part, State.dropFwOp_part, Part.bank_setBank_same]
    case confirm =>
      rw [State.fwEffect_confirm _ h, State.setBank_part, State.dropFwOp_part]
      refine ⟨Part.bank_setBank_same .., rfl, fun hactive => ?_⟩
      rw [← State.dropFwOp_part s o] at hactive
      rw [Part.bank_setBank_other _ ht hother.1 hother.2, State.standDown_bank hactive]
    case recovery =>
      rw [State.fwEffect_recovery _ h, State.runRecovery_boot, State.runRecovery_part, State.dropFwOp_part]
      exact ⟨rfl, rfl, rfl, rfl⟩

end Sys2Proof.Machine

namespace Sys2Proof.Machine
open Sys2Proof

/-! ### Cold reset (R128, R131) -/

/-- The registers of the ceilings, two for each output, in the order of their offsets. -/
def ceilRegs : List Nat := [0x05080, 0x05084, 0x05088, 0x0508C, 0x05090, 0x05094, 0x05098, 0x0509C]

/-- A part that stores a ceiling for each output, in order, gives each ceiling's registers a word. -/
theorem ceilWords_offsets {p : Part} (h : p.ceilMax.map Prod.fst = List.range 4) : (ceilWords p).map Prod.fst = ceilRegs := by
  have hmap (base : Nat) : (p.ceilMax.map fun x => (base + 4 * x.1, x.2)).map Prod.fst = (List.range 4).map fun o => base + 4 * o := by
    rw [← h, List.map_map, List.map_map]
    rfl
  rw [ceilWords, List.map_append, hmap, hmap]
  rfl

/-- The register tables give the ceilings the reset value 0. -/
theorem resetWord_ceil (v : Variant) {o : Nat} (h : o ∈ ceilRegs) : resetWord v o = 0 := by
  have hall : ∀ r ∈ ceilRegs, resetWord v r = 0 := by cases v <;> decide
  exact hall o h

/-- At cold reset the register file lists no register but ceilings, and none of them at 0. -/
theorem State.resetOf_listed {p : Part} (h : p.ceilMax.map Prod.fst = List.range 4) {x : Nat × Word}
    (hx : x ∈ (State.resetOf p).regs.vals) : x.1 ∈ ceilRegs ∧ x.2 ≠ 0 := by
  obtain ⟨hmem, hne⟩ := List.mem_filter.1 hx
  exact ⟨ceilWords_offsets h ▸ List.mem_map_of_mem hmem, of_decide_eq_true hne⟩

theorem State.resetOf_canonical {p : Part} (h : p.ceilMax.map Prod.fst = List.range 4) : RegsCanonical (State.resetOf p) := by
  have hrising : ((ceilWords p).map Prod.fst).Pairwise (· < ·) := by
    rw [ceilWords_offsets h]
    decide
  refine ⟨(List.pairwise_map.1 hrising).filter _, fun x hx => ?_⟩
  obtain ⟨hceil, hne⟩ := State.resetOf_listed h hx
  rwa [show (State.resetOf p).part = p from rfl, resetWord_ceil _ hceil]

/-- The host link is down at cold reset: LNK_STATUS is no ceiling, and its reset value is 0. -/
theorem State.resetOf_linkUp {p : Part} (h : p.ceilMax.map Prod.fst = List.range 4) : (State.resetOf p).linkUp = false := by
  have hother : Reg.LNK_STATUS ∉ ceilRegs := by decide
  have hnone : Tab.find (State.resetOf p).regs.vals Reg.LNK_STATUS = none :=
    Tab.find_none_of_keys fun x hx hk => hother (hk ▸ (State.resetOf_listed h hx).1)
  have hreset : resetWord p.variant Reg.LNK_STATUS = 0 := by
    cases p.variant <;> decide
  rw [State.linkUp, State.bit, State.rd, Tab.get, hnone]
  show Word.bit (resetWord p.variant Reg.LNK_STATUS) 0 = false
  rw [hreset]
  decide

/-- Settles O3: the state of cold reset field by field; its registers are those of a fresh part, which stores a ceiling for each output. -/
theorem resetIsColdReset : Obligations.ResetIsColdReset := by
  have hceil : Part.fresh.ceilMax.map Prod.fst = List.range 4 := by decide
  have hlink := State.resetOf_linkUp hceil
  have hregs := State.resetOf_canonical hceil
  exact ⟨rfl, rfl, rfl, fun _ => rfl, rfl, rfl, hlink, rfl, rfl, rfl, rfl, rfl, rfl, rfl, rfl, rfl, rfl, hregs⟩

end Sys2Proof.Machine

namespace Sys2Proof.Machine
open Sys2Proof

/-! ### Output buffers (R200) -/

/-- A whole number of 64-byte units before the next place, and every region in the buffer at a boundary and apart from the others. -/
structure OutBuf.Apart (b : OutBuf) : Prop where
  boundary : b.next % 64 = 0
  within : b.next ≤ b.len
  inside : ∀ r ∈ b.regions, r.2.1 % 64 = 0 ∧ r.2.1 + r.2.2 ≤ b.len
  disjoint : b.regions.Pairwise fun x y => x.2.1 + x.2.2 ≤ y.2.1 ∨ y.2.1 + y.2.2 ≤ x.2.1

/-- The offset that a payload of `size` bytes is meant for (R200). -/
def OutBuf.target (b : OutBuf) (size : Nat) : Nat := if b.next + size ≤ b.len then b.next else 0

/-- The buffer with `size` bytes at offset `o` in use. -/
def OutBuf.occupy (b : OutBuf) (o size : Nat) : OutBuf :=
  { b with next := o + size, regions := b.regions ++ [(b.nextId, o, size)], nextId := b.nextId + 1 }

theorem OutBuf.free_iff (b : OutBuf) (o n : Nat) :
    b.free o n = true ↔ o + n ≤ b.len ∧ ∀ r ∈ b.regions, o + n ≤ r.2.1 ∨ r.2.1 + r.2.2 ≤ o := by
  simp [OutBuf.free]

theorem OutBuf.place_eq (b : OutBuf) (n : Nat) :
    b.place n = if b.free (b.target (roundUp n 64)) (roundUp n 64) = true
      then some (b.target (roundUp n 64), b.occupy (b.target (roundUp n 64)) (roundUp n 64)) else none := rfl

theorem OutBuf.target_boundary {b : OutBuf} (h : b.next % 64 = 0) (size : Nat) : b.target size % 64 = 0 := by
  unfold OutBuf.target
  split
  · exact h
  · rfl

/-- A free place at a boundary, once in use, lies apart from the regions that were there. -/
theorem OutBuf.Apart.occupy {b : OutBuf} (h : b.Apart) {o size : Nat} (ho : o % 64 = 0) (hsize : size % 64 = 0)
    (hfree : b.free o size = true) : (b.occupy o size).Apart := by
  obtain ⟨hfit, hclear⟩ := (b.free_iff o size).1 hfree
  refine ⟨?_, hfit, ?_, ?_⟩
  · show (o + size) % 64 = 0
    omega
  · intro r hr
    rcases List.mem_append.1 hr with hold | hnew
    · exact h.inside r hold
    · rw [List.mem_singleton.1 hnew]
      exact ⟨ho, hfit⟩
  · refine List.pairwise_append.2 ⟨h.disjoint, List.pairwise_singleton _ _, fun x hx y hy => ?_⟩
    rw [List.mem_singleton.1 hy]
    exact (hclear x hx).symm

/-- Settles O60: a payload goes to its place where that is free, and has none otherwise. -/
theorem outputBuffersDoNotOverlap : Obligations.OutputBuffersDoNotOverlap := by
  intro b n good size o hlen hgood
  obtain ⟨hnext, hwithin, hinside, hdisjoint⟩ := hgood
  have hapart : b.Apart := ⟨hnext, hwithin, hinside, hdisjoint⟩
  have hplace : b.place n = if b.free o size = true then some (o, b.occupy o size) else none := b.place_eq n
  rw [hplace]
  split
  · next hfree =>
    refine ⟨fun a c hac => ?_, fun hnone => (nomatch hnone)⟩
    obtain ⟨rfl, rfl⟩ : o = a ∧ b.occupy o size = c := by simpa using hac
    obtain ⟨h1, h2, h3, h4⟩ := hapart.occupy (OutBuf.target_boundary hnext size) (Nat.mul_mod_left ..) hfree
    exact ⟨rfl, ⟨h1, h2, h3, h4⟩, rfl, rfl, rfl⟩
  · next hfree => exact ⟨fun a c hac => (nomatch hac), fun _ hroom => hfree ((b.free_iff o size).2 hroom)⟩

/-! ### The journal passes over pending entries (R208) -/

/-- Position `p` holds a COMMAND entry whose outcome is not decided. -/
def Journal.pendingAt (j : Journal) (p : Nat) : Bool := match Tab.find j.pos p with | some x => x.pending | none => false

theorem Journal.slot_succ (j : Journal) (n w : Nat) :
    j.slot (n + 1) w = if j.pendingAt w = true then j.slot n ((w + 1) % Journal.size) else w := by
  rw [Journal.slot, Journal.pendingAt]
  cases Tab.find j.pos w <;> rfl

/-- The search passes over `k` pending entries, and unless its bound ends it, what it finds holds none. -/
theorem Journal.slot_passes (j : Journal) (n : Nat) {w : Nat} (hw : w < Journal.size) :
    ∃ k, k ≤ n ∧ j.slot n w = (w + k) % Journal.size ∧ (∀ i, i < k → j.pendingAt ((w + i) % Journal.size) = true)
      ∧ (k < n → j.pendingAt ((w + k) % Journal.size) = false) := by
  induction n generalizing w with
  | zero => exact ⟨0, le_refl 0, (Nat.mod_eq_of_lt hw).symm, fun i hi => absurd hi (Nat.not_lt_zero i), fun h => absurd h (Nat.lt_irrefl 0)⟩
  | succ n ih =>
    rw [Journal.slot_succ]
    by_cases hp : j.pendingAt w = true
    · obtain ⟨k, hk, hslot, hpass, hfree⟩ := ih (w := (w + 1) % Journal.size) (Nat.mod_lt _ (by decide))
      have hshift (i : Nat) : ((w + 1) % Journal.size + i) % Journal.size = (w + (i + 1)) % Journal.size := by
        rw [Nat.mod_add_mod]
        congr 1
        omega
      refine ⟨k + 1, by omega, ?_, fun i hi => ?_, fun hlt => ?_⟩
      · rw [if_pos hp, hslot, hshift]
      · cases i with
        | zero => rwa [Nat.add_zero, Nat.mod_eq_of_lt hw]
        | succ i => exact hshift i ▸ hpass i (by omega)
      · exact hshift k ▸ hfree (by omega)
    · refine ⟨0, by omega, ?_, fun i hi => absurd hi (Nat.not_lt_zero i), fun _ => ?_⟩
      · rw [if_neg hp, Nat.add_zero, Nat.mod_eq_of_lt hw]
      · rw [Nat.add_zero, Nat.mod_eq_of_lt hw]
        simpa using hp

/-- Where not every position is pending, the search ends at one that is not. -/
theorem Journal.slot_free (j : Journal) {w : Nat} (hw : w < Journal.size)
    (hsome : (List.range Journal.size).countP j.pendingAt < Journal.size) :
    ∃ k, k < Journal.size ∧ j.slot Journal.size w = (w + k) % Journal.size ∧ j.pendingAt ((w + k) % Journal.size) = false
      ∧ ∀ i, i < k → j.pendingAt ((w + i) % Journal.size) = true := by
  obtain ⟨k, hk, hslot, hpass, hfree⟩ := j.slot_passes Journal.size hw
  rcases Nat.lt_or_eq_of_le hk with hlt | rfl
  · exact ⟨k, hlt, hslot, hfree hlt, hpass⟩
  · refine absurd hsome (Nat.not_lt.2 (Nat.le_of_eq ?_))
    rw [List.countP_eq_length.2, List.length_range]
    intro p hp
    have hplt : p < 8192 := List.mem_range.1 hp
    have hwlt : w < 8192 := hw
    have hat := hpass ((p + 8192 - w) % 8192) (Nat.mod_lt _ (by decide))
    rwa [show (w + (p + 8192 - w) % 8192) % Journal.size = p by show _ % 8192 = p; omega] at hat

theorem Journal.store_pos (j : Journal) (e : JEntry) :
    (j.store e).pos = Tab.put j.pos (j.slot Journal.size j.write) (JEntry.sealed { e with seq := j.next, epoch := j.epoch }) := by
  rw [Journal.store]
  split <;> rfl

theorem Journal.store_write (j : Journal) (e : JEntry) : (j.store e).write = (j.slot Journal.size j.write + 1) % Journal.size := by
  rw [Journal.store]
  split <;> rfl

/-- Settles O58: the search for a place passes over pending entries, and cannot pass over all. -/
theorem journalPassesOverPending : Obligations.JournalPassesOverPending := by
  intro j e hw pend hcount
  have hsome : (List.range Journal.size).countP j.pendingAt < Journal.size := Nat.lt_of_le_of_lt hcount (by decide)
  obtain ⟨k, hk, hslot, hfree, hpass⟩ := j.slot_free hw hsome
  refine ⟨k, hk, hfree, hpass, ?_, fun p hp => ?_, ?_⟩
  · rw [Journal.store_pos, hslot, Tab.find_put_same]
  · rw [Journal.store_pos, hslot, Tab.find_put_other _ _ _ _ hp]
  · rw [Journal.store_write, hslot, Nat.mod_add_mod]

/-! ### Layouts of entries (R8, R206, R198) -/

@[simp] theorem length_leBytes (n v : Nat) : (leBytes n v).length = n := by
  induction n generalizing v with
  | zero => rfl
  | succ n ih => simp [leBytes, ih]

theorem leNat_leBytes (n v : Nat) : leNat (leBytes n v) = v % 256 ^ n := by
  induction n generalizing v with
  | zero => simp [leBytes, leNat, Nat.mod_one]
  | succ n ih => rw [leBytes, leNat, ih, Nat.pow_succ', Nat.mod_mul, BitVec.toNat_ofNat]

/-- Fields one after the other, each with its size and its value, as an entry of the journal or of a completion ring has them. -/
def fieldBytes (fs : List (Nat × Nat)) : List Byte := fs.flatMap fun f => leBytes f.1 f.2

/-- The field at index `k` reads back at the sum of the sizes before it. -/
theorem leAt_fieldBytes {fs : List (Nat × Nat)} {k o n v : Nat} (hk : fs[k]? = some (n, v)) (ho : ((fs.take k).map Prod.fst).sum = o)
    (rest : List Byte) : leAt (fieldBytes fs ++ rest) o n = v % 256 ^ n := by
  induction fs generalizing k o with
  | nil => simp at hk
  | cons f fs ih =>
    have hcons : fieldBytes (f :: fs) ++ rest = leBytes f.1 f.2 ++ (fieldBytes fs ++ rest) := by simp [fieldBytes]
    cases k with
    | zero =>
      obtain rfl : f = (n, v) := by simpa using hk
      obtain rfl : 0 = o := by simpa using ho
      rw [hcons, leAt, slice, List.drop_zero, List.take_left' (length_leBytes n v), leNat_leBytes]
    | succ k =>
      obtain rfl : f.1 + ((fs.take k).map Prod.fst).sum = o := by simpa using ho
      rw [hcons, leAt, slice]
      nth_rewrite 1 [← length_leBytes f.1 f.2]
      rw [List.drop_length_add_append]
      exact ih (by simpa using hk) rfl

/-- A field whose value lies in its size reads back as it is. -/
theorem leAt_fieldBytes_of_lt {fs : List (Nat × Nat)} {k o n v : Nat} (hk : fs[k]? = some (n, v))
    (ho : ((fs.take k).map Prod.fst).sum = o) (hv : v < 256 ^ n) (rest : List Byte) : leAt (fieldBytes fs ++ rest) o n = v :=
  (leAt_fieldBytes hk ho rest).trans (Nat.mod_eq_of_lt hv)

theorem length_fieldBytes (fs : List (Nat × Nat)) : (fieldBytes fs).length = (fs.map Prod.fst).sum := by
  simp [fieldBytes, List.length_flatMap]

/-- The fields of a journal entry before its check, with their sizes (Table 7-8). -/
def JEntry.fields (e : JEntry) : List (Nat × Nat) :=
  [(6, e.seq), (2, e.epoch), (8, e.tick.toNat), (1, e.type), (1, e.agent), (2, e.code), (2, e.tag), (1, e.op), (1, e.flags), (4, e.arg0),
   (2, e.arg1)]

theorem JEntry.body_eq (e : JEntry) : e.body = fieldBytes e.fields := by
  simp [JEntry.body, fieldBytes, JEntry.fields]

theorem JEntry.length_body (e : JEntry) : e.body.length = 0x1E := by
  rw [JEntry.body_eq, length_fieldBytes]
  rfl

theorem crc16Bits_lt (n : Nat) {c : Nat} (h : c < 65536) : crc16Bits n c < 65536 := by
  induction n generalizing c with
  | zero => exact h
  | succ n ih =>
    refine ih ?_
    split
    · exact Nat.xor_lt_two_pow (n := 16) (Nat.mod_lt _ (by decide)) (by decide)
    · exact Nat.mod_lt _ (by decide)

theorem crc16_lt (bs : List Byte) : crc16 bs < 65536 := by
  have hstep (bs : List Byte) (c : Nat) (h : c < 65536) :
      bs.foldl (fun c b => crc16Bits 8 (Nat.xor c (b.toNat * 256))) c < 65536 := by
    induction bs generalizing c with
    | nil => exact h
    | cons b bs ih =>
      have hb := b.isLt
      exact ih _ (crc16Bits_lt 8 (Nat.xor_lt_two_pow (n := 16) h (by omega)))
  exact hstep bs _ (by decide)

/-- The check of an entry stands after the 30 bytes that it is computed over (Table 7-8). -/
theorem JEntry.check_sealed (e : JEntry) : leAt (JEntry.sealed e).bytes 0x1E 2 = crc16 ((JEntry.sealed e).bytes.take 0x1E) := by
  have hbytes : (JEntry.sealed e).bytes = e.body ++ leBytes 2 (crc16 e.body) := rfl
  have hend : (leBytes 2 (crc16 e.body)).length = 2 := length_leBytes ..
  rw [hbytes, leAt, slice, List.drop_left' e.length_body, List.take_left' e.length_body, List.take_of_length_le hend.le, leNat_leBytes]
  exact Nat.mod_eq_of_lt (crc16_lt _)

theorem JEntry.leAt_sealed (e : JEntry) {k o n v : Nat} (hk : e.fields[k]? = some (n, v)) (ho : ((e.fields.take k).map Prod.fst).sum = o)
    (hv : v < 256 ^ n) : leAt (JEntry.sealed e).bytes o n = v := by
  have hbytes : (JEntry.sealed e).bytes = fieldBytes e.fields ++ leBytes 2 (crc16 e.body) := by rw [← JEntry.body_eq]; rfl
  rw [hbytes, leAt_fieldBytes_of_lt hk ho hv]

theorem JEntry.length_sealed (e : JEntry) : (JEntry.sealed e).bytes.length = 32 := by
  rw [JEntry.bytes, List.length_append, JEntry.length_body, length_leBytes]

/-- The code of a completion entry's kind (Table 7-4). -/
def CplKind.code : CplKind → Nat
  | .final => 0
  | .output => 1
  | .event => 2

theorem CplKind.code_lt (k : CplKind) : k.code < 4 := by cases k <;> decide

/-- The fields of a completion entry with their sizes (Table 7-4). -/
def CplEntry.fields (e : CplEntry) (phase : Nat) : List (Nat × Nat) :=
  [(2, e.tag), (1, e.code), (1, e.kind.code + 4 * e.sq), (2, e.status), (2, e.epoch), (6, e.seq), (2, 0), (8, (e.tick.getD 0).toNat),
   (4, e.result), (3, if e.kind = .output then e.payload.length else 0), (1, phase * 128)]

theorem CplEntry.bytes_eq (e : CplEntry) (phase : Nat) : e.bytes phase = fieldBytes (e.fields phase) := by
  cases hk : e.kind <;> simp [CplEntry.bytes, fieldBytes, CplEntry.fields, hk, CplKind.code]

theorem CplEntry.leAt_bytes (e : CplEntry) (phase : Nat) {k o n v : Nat} (hk : (e.fields phase)[k]? = some (n, v))
    (ho : (((e.fields phase).take k).map Prod.fst).sum = o) (hv : v < 256 ^ n) : leAt (e.bytes phase) o n = v := by
  rw [CplEntry.bytes_eq, ← List.append_nil (fieldBytes _), leAt_fieldBytes_of_lt hk ho hv]

theorem CplEntry.length_bytes (e : CplEntry) (phase : Nat) : (e.bytes phase).length = 32 := by
  rw [CplEntry.bytes_eq, length_fieldBytes]
  rfl

/-- Settles O59: both entries are their fields one after the other, at the offsets that the fields before them give. -/
theorem entriesInTheirLayouts : Obligations.EntriesInTheirLayouts := by
  refine ⟨fun e hseq hepoch htype hagent hcode htag hop hflags h0 h1 => ⟨e.length_sealed, ?_⟩, ?_⟩
  · exact ⟨e.leAt_sealed (k := 0) rfl rfl hseq, e.leAt_sealed (k := 1) rfl rfl hepoch, e.leAt_sealed (k := 2) rfl rfl e.tick.isLt,
      e.leAt_sealed (k := 3) rfl rfl htype, e.leAt_sealed (k := 4) rfl rfl hagent, e.leAt_sealed (k := 5) rfl rfl hcode,
      e.leAt_sealed (k := 6) rfl rfl htag, e.leAt_sealed (k := 7) rfl rfl hop, e.leAt_sealed (k := 8) rfl rfl hflags,
      e.leAt_sealed (k := 9) rfl rfl h0, e.leAt_sealed (k := 10) rfl rfl h1, e.check_sealed⟩
  · intro e tick phase htick hphase htag hcode hsq hstatus hepoch hseq hresult hlen
    have hlt := e.kind.code_lt
    have hbyte : leAt (e.bytes phase) 0x03 1 = e.kind.code + 4 * e.sq := e.leAt_bytes phase (k := 2) rfl rfl (by omega)
    have hpay : (if e.kind = .output then e.payload.length else 0) < 2 ^ 24 := by split <;> omega
    have htickAt : leAt (e.bytes phase) 0x10 8 = (e.tick.getD 0).toNat := e.leAt_bytes phase (k := 7) rfl rfl (e.tick.getD 0).isLt
    have hphaseAt : leAt (e.bytes phase) 0x1F 1 = phase * 128 := e.leAt_bytes phase (k := 10) rfl rfl (by omega)
    refine ⟨e.length_bytes phase, e.leAt_bytes phase (k := 0) rfl rfl htag, e.leAt_bytes phase (k := 1) rfl rfl hcode, ?_, ?_,
      e.leAt_bytes phase (k := 3) rfl rfl hstatus, e.leAt_bytes phase (k := 4) rfl rfl hepoch, e.leAt_bytes phase (k := 5) rfl rfl hseq,
      e.leAt_bytes phase (k := 6) rfl rfl (by decide), ?_, e.leAt_bytes phase (k := 8) rfl rfl hresult,
      e.leAt_bytes phase (k := 9) rfl rfl hpay, ?_⟩
    · rw [hbyte]
      omega
    · rw [hbyte, Nat.add_mul_mod_self_left, Nat.mod_eq_of_lt hlt]
      cases e.kind <;> rfl
    · rw [htickAt, htick]
      rfl
    · rw [hphaseAt, Nat.mul_comm]

/-! ### Where nothing follows (R196, R453, R63) -/

theorem foldl_eq_self {A B : Type} {f : B → A → B} {b : B} {l : List A} (h : ∀ a ∈ l, f b a = b) : l.foldl f b = b := by
  induction l with
  | nil => rfl
  | cons a l ih =>
    rw [List.foldl_cons, h a (List.mem_cons_self ..)]
    exact ih fun x hx => h x (List.mem_cons_of_mem a hx)

/-- Strokes that stood before go to no group anew (R453). -/
theorem State.spreadStrokes_of_old {s u : State}
    (h : ∀ x ∈ u.prts, ∀ a, x.2.stroke = some a →
      ∃ b, (s.prt x.1).bind Prt.stroke = some b ∧ a.start = b.start ∧ a.number = b.number) :
    s.spreadStrokes u = u := by
  refine foldl_eq_self fun x hx => ?_
  cases ha : x.2.stroke with
  | none => rfl
  | some a =>
    obtain ⟨b, hb, hstart, hnumber⟩ := h x hx a ha
    simp [hb, hstart, hnumber]

/-- Without a fenced command none is admitted (R196). -/
theorem State.admitFenced_of_none {u : State} (h : ∀ c ∈ u.link.cmds, c.stage ≠ .fenced) : u.admitFenced = u := by
  have hnone : u.inStage .fenced = [] := by simpa [State.inStage, List.filter_eq_nil_iff] using h
  rw [State.admitFenced, hnone]
  split <;> rfl

/-- Channels that stand as the power state and the partitions require stay as they are (R63). -/
theorem State.settleChannels_of_settled {u : State}
    (h : ∀ n, n < u.chanCount → (u.chan n).survives = true → (u.chan n).st = if u.channelOn n then .active else .selfRefresh) :
    u.settleChannels = u := by
  refine foldl_eq_self fun n hn => if_neg ?_
  by_cases hs : (u.chan n).survives = true
  · simp [h n (List.mem_range.1 hn) hs]
  · simp [hs]

/-- Settles O11: none of the three things that may follow changes anything. -/
theorem nothingFollows : Obligations.NothingFollows := by
  rintro s u ⟨hfence, hstroke, hchan⟩
  have hsettled : State.settled (fun _ => u) s = u := by
    rw [State.settled, State.spreadStrokes_of_old hstroke, State.admitFenced_of_none hfence, State.settleChannels_of_settled hchan]
  rw [State.keepCmd, hsettled]

end Sys2Proof.Machine

namespace Sys2Proof.Machine
open Sys2Proof

/-! ### The host link at rest -/

/-- From `s` to `t` the host link keeps all but its messages, its idle time, its counts of reads and the hub's place in its order. -/
def State.LinkRests (s t : State) : Prop :=
  t.link = { s.link with vecs := t.link.vecs, wakePin := t.link.wakePin, idleSince := t.link.idleSince, reads := t.link.reads,
                         visit := t.link.visit }

section
variable {s t u : State}

theorem State.LinkRests.of_link (h : t.link = s.link) : State.LinkRests s t := by rw [State.LinkRests, h]
theorem State.LinkRests.refl (s : State) : State.LinkRests s s := State.LinkRests.of_link rfl
theorem State.LinkRests.trans (h : State.LinkRests s t) (k : State.LinkRests t u) : State.LinkRests s u := by
  rw [State.LinkRests, k, h]
theorem State.LinkRests.cmds (h : State.LinkRests s t) : t.link.cmds = s.link.cmds := by rw [h]
theorem State.LinkRests.entries (h : State.LinkRests s t) : t.link.entries = s.link.entries := by rw [h]
theorem State.LinkRests.bufs (h : State.LinkRests s t) : t.link.bufs = s.link.bufs := by rw [h]
theorem State.LinkRests.accepted (h : State.LinkRests s t) : t.link.accepted = s.link.accepted := by rw [h]
theorem State.LinkRests.paused (h : State.LinkRests s t) : t.link.paused = s.link.paused := by rw [h]
theorem State.LinkRests.resetting (h : State.LinkRests s t) : t.link.resetting = s.link.resetting := by rw [h]

end

theorem State.wr_linkRests (s : State) (off : Nat) (w : Word) : State.LinkRests s (s.wr off w) := State.LinkRests.of_link rfl

theorem State.setPm_linkRests (s : State) (pm : Nat) : State.LinkRests s (s.setPm pm) := State.LinkRests.of_link (s.setPm_link pm)

theorem State.passVec_linkRests (s : State) (n v : Nat) : State.LinkRests s (s.passVec n v) := by
  rw [State.LinkRests, State.passVec_link]

theorem State.dueVec_linkRests (s : State) (n v : Nat) : State.LinkRests s (s.dueVec n v) := by
  rw [State.LinkRests, State.dueVec_link]

theorem State.wakeHost_linkRests (s : State) : State.LinkRests s s.wakeHost := by
  unfold State.wakeHost
  split
  · rfl
  · split
    · exact State.LinkRests.of_link rfl
    · exact State.LinkRests.refl s

theorem State.withLine_linkRests (s : State) (pg : Nat) {f : State → State} (h : State.LinkRests s (f s)) :
    State.LinkRests s (s.withLine pg f) := by
  have hwake (c : Bool) (t : State) (ht : State.LinkRests s t) : State.LinkRests s (if c then t.wakeHost else t) := by
    split
    · exact ht.trans t.wakeHost_linkRests
    · exact ht
  unfold State.withLine
  refine hwake _ _ ?_
  split
  · exact h.trans (State.dueVec_linkRests ..)
  · exact h

theorem State.raiseBit_linkRests (s : State) (pg i : Nat) : State.LinkRests s (s.raiseBit pg i) := by
  unfold State.raiseBit State.raise
  exact State.withLine_linkRests s pg (State.wr_linkRests ..)

theorem State.count_linkRests (s : State) (off n : Nat) : State.LinkRests s (s.count off n) := by
  unfold State.count
  simp only
  split
  · exact State.LinkRests.refl s
  · split
    · exact (State.wr_linkRests ..).trans (State.raiseBit_linkRests ..)
    · exact State.wr_linkRests ..

theorem State.wakeLink_linkRests (s : State) : State.LinkRests s s.wakeLink := by
  have hleave (u : State) (h : State.LinkRests s u) :
      State.LinkRests s (if u.fld Reg.LNK_STATUS 9 2 = 0 then u else (u.setPm 0).count Reg.LNK_L1_EXITS 1) := by
    split
    · exact h
    · exact h.trans ((State.setPm_linkRests ..).trans (State.count_linkRests ..))
  exact hleave { s with link := { s.link with idleSince := s.now } } rfl

theorem woken_linkRests (s : State) (agent : Nat) : State.LinkRests s (woken s agent) := by
  unfold woken
  split
  · exact s.wakeLink_linkRests
  · exact State.LinkRests.refl s

/-! ### The error record (R102) -/

/-- The first word of an error's record: its code and agent stand in their fields. -/
theorem State.rd_recordErr_code (s : State) (pg code agent off : Nat) (write : Bool) (be : Nat) :
    ∃ more ≤ 127, (s.recordErr pg code agent off write be).rd (hdrOff pg 0x01C)
      = BitVec.ofNat 32 (code % 65536 + agent % 256 * 2 ^ 16 + more * 2 ^ 24 + 2 ^ 31) := by
  have hlog (u : State) (w : Word) (h : u.rd (hdrOff pg 0x01C) = w) : (match pageOf pg with
      | none => u
      | some (b, inst) => match hubOf b inst with
        | none => u
        | some h => if u.restarting h then u else (u.log h 0 code off agent 0).raiseBit 0x00D 3).rd (hdrOff pg 0x01C) = w := by
    split
    · exact h
    · split
      · exact h
      · split
        · exact h
        · rw [State.rd_raiseBit_other _ _ _ _ (by simp only [hdrOff]; omega), State.rd_congr (State.log_regs ..) (by simp), h]
  refine ⟨if Word.bit (s.rd (hdrOff pg 0x01C)) 31 then min 127 (Word.fld (s.rd (hdrOff pg 0x01C)) 24 7 + 1)
      else Word.fld (s.rd (hdrOff pg 0x01C)) 24 7, ?_, hlog _ _ ?_⟩
  · split
    · exact min_le_left ..
    · exact Nat.le_of_lt_succ (Nat.mod_lt _ (by decide))
  · rw [State.rd_raiseBit_other _ _ _ _ (by simp only [hdrOff]; omega), State.rd_wr_other _ _ _ _ (by simp only [hdrOff]; omega),
      State.rd_wr_same]

theorem State.fld_recordErr_code (s : State) (pg code agent off : Nat) (write : Bool) (be : Nat) :
    (s.recordErr pg code agent off write be).fld (hdrOff pg 0x01C) 0 16 = code % 65536
      ∧ (s.recordErr pg code agent off write be).fld (hdrOff pg 0x01C) 16 8 = agent % 256 := by
  obtain ⟨more, hmore, hrd⟩ := s.rd_recordErr_code pg code agent off write be
  simp only [State.fld, hrd, Word.fld, bitsOf, BitVec.toNat_ofNat]
  omega

/-! ### A register with a value and no trigger -/

/-- A row that writes a whole register of its own, with RW fields and no trigger bits, has its word taken (R114). -/
theorem State.write32_take {s : State} {agent off : Nat} (h : Reaches s agent off) {b : Block} {inst : Nat} {r : RegSpec}
    (hb : pageOf (off / 0x1000) = some (b, inst)) (hr : specAt off = some r) (ho : 0x40 ≤ off % 0x1000) (hrole : r.role = .single)
    (hc : s.claimOf (off / 0x1000) = none) (hrw : r.rw ≠ 0) (htrig : Nat.lor r.w1c (Nat.lor r.w1s r.wo) = 0)
    (hl : atFrame b (off % 0x1000) = false) (hw : ∀ k, hubOf b inst = some k → s.restarting k = false) {val : Word}
    (hv : (woken s agent).verdict b inst (off % 0x1000) off val = .take) :
    s.write32 agent off (withBits val 0) = (woken s agent).takeWord agent off b inst r val := by
  have hwaits : (woken s agent).hubWaits b inst = none := State.hubWaits_none fun k hk => by rw [woken_restarting, hw k hk]
  rw [State.write32_unclaimed h hb hr ho hrole hc, word_of_withBits_zero, State.applyWord_take hb hr hrw hl hv hwaits, htrig, if_pos]
  exact Nat.and_zero _

/-- The low bits of a word that a register with those RW bits takes are the written ones. -/
theorem State.fld_merged {s : State} {b : Block} {r : RegSpec} {o : Nat} (hlow : lowBits b o = 0) (hb : b ≠ .pwr) (off : Nat) (w : Word)
    {lo n : Nat} (hn : lo + n ≤ 32) (hrw : ∀ i, i < n → r.rw.testBit (lo + i) = true) :
    Word.fld (s.merged b r o off w) lo n = Word.fld w lo n := by
  have hplain : s.merged b r o off w
      = BitVec.ofNat 32 ((s.rd off).toNat - Nat.land (s.rd off).toNat r.rw + Nat.land w.toNat r.rw) := by
    unfold State.merged
    simp only [hlow, Nat.pow_zero, Nat.div_one, Nat.mul_one]
    split
    · exact absurd rfl hb
    · exact absurd rfl hb
    · rfl
  rw [hplain]
  exact Word.fld_eq_of_bits fun i hi => getLsbD_replace _ _ (by omega) (hrw i hi)

/-! ### Doorbells (R190) -/

theorem pageOf_rider {n : Nat} (h : n < 16) : pageOf (0x040 + n) = some (.rdr, n) := by
  have hall : ∀ n < 16, pageOf (0x040 + n) = some (.rdr, n) := by decide
  exact hall n h


/-- The tail register of a submission ring. -/
def sqTailSpec : RegSpec := ⟨0x10C, 0x20, 4, 0x1FFFF, 0x0, 0x0, 0x0, 0x0, .single⟩

/-- The head register of a completion ring. -/
def cqHeadSpec : RegSpec := ⟨0x20C, 0x20, 4, 0x1FFFF, 0x0, 0x0, 0x0, 0x0, .single⟩

def doorbellSpec (cq : Bool) : RegSpec := if cq then cqHeadSpec else sqTailSpec

/-- The offset within its page of the doorbell of ring `q`: a completion ring's head, or a submission ring's tail. -/
def doorbellAt (cq : Bool) (q : Nat) : Nat := (if cq then 0x20C else 0x10C) + 0x20 * q

/-- The offset of the doorbell of ring `q` of rider `n`. -/
def doorbellOff (cq : Bool) (n q : Nat) : Nat := hdrOff (0x040 + n) (doorbellAt cq q)

/-- How far the position `w` lies ahead of `head`, round a ring with the control word `ctl` (R188). -/
def ringAhead (ctl head w : Word) : Nat := ringDist (ringSize ctl) (ringPos (ringSize ctl) head) (ringPos (ringSize ctl) w)

/-- A tail doorbell is valid: its ring is enabled, and it lies at most a ring size ahead and not behind the previous tail (R190). -/
def tailValid (ctl head tail val : Word) : Bool :=
  Word.bit ctl 8 && Word.fld val 0 16 < ringSize ctl && ringAhead ctl head val ≤ ringSize ctl
    && ringAhead ctl head tail ≤ ringAhead ctl head val

/-- A head doorbell is valid: its ring is enabled, and it lies between the current head and the tail (R190). -/
def headValid (ctl head tail val : Word) : Bool :=
  Word.bit ctl 16 && Word.fld val 0 16 < ringSize ctl && ringAhead ctl head val ≤ ringAhead ctl head tail

theorem tailValid_iff (ctl head tail val : Word) : tailValid ctl head tail val = true ↔ Word.bit ctl 8 = true
    ∧ Word.fld val 0 16 < ringSize ctl ∧ ringAhead ctl head val ≤ ringSize ctl ∧ ringAhead ctl head tail ≤ ringAhead ctl head val := by
  simp [tailValid, and_assoc]

theorem headValid_iff (ctl head tail val : Word) : headValid ctl head tail val = true ↔ Word.bit ctl 16 = true
    ∧ Word.fld val 0 16 < ringSize ctl ∧ ringAhead ctl head val ≤ ringAhead ctl head tail := by
  simp [headValid, and_assoc]

/-- A tail doorbell is taken: position `pos` stands in the register, and a failed fetch stops the ring no longer. -/
def State.takeTail (s : State) (n q pos : Nat) : State :=
  let t := s.wr (Reg.RDR_SQ_TAIL n q) (BitVec.ofNat 32 pos)
  ({ t with link := { t.link with fetchStop := t.link.fetchStop.filter fun p => p ≠ (n, q) } } : State).trace 17 n q pos

/-- A head doorbell is taken: what the `new` slots reported that the head passes is free, and position `pos` stands in the register. -/
def State.takeHead (s : State) (n q new pos : Nat) : State :=
  let size := ringSize (s.rd (Reg.RDR_CQ_CTL n q))
  let head := ringPos size (s.rd (Reg.RDR_CQ_HEAD n q))
  let passed (r : Reported) : Bool := r.rider = n && r.cq = q && ringDist size head r.pos < new
  let t := (s.link.reported.filter passed).foldl (fun s r => s.freeRegion r.obj r.region) s
  let t := { t with link := { t.link with reported := t.link.reported.filter fun r => !passed r } }
  (t.wr (Reg.RDR_CQ_HEAD n q) (BitVec.ofNat 32 pos)).trace 17 n (256 + q) pos

theorem State.sqTail_eq (s : State) (agent n q : Nat) (val : Word) : s.sqTail agent n q val
    = if (Tab.find s.link.resetting n).isSome then s
      else if tailValid (s.rd (Reg.RDR_SQ_CTL n q)) (s.rd (Reg.RDR_SQ_HEAD n q)) (s.rd (Reg.RDR_SQ_TAIL n q)) val then
        s.takeTail n q (Word.fld val 0 17)
      else s.badVal agent (Reg.RDR_SQ_TAIL n q) := rfl

theorem State.cqHead_eq (s : State) (agent n q : Nat) (val : Word) : s.cqHead agent n q val
    = if (Tab.find s.link.resetting n).isSome then s
      else if headValid (s.rd (Reg.RDR_CQ_CTL n q)) (s.rd (Reg.RDR_CQ_HEAD n q)) (s.rd (Reg.RDR_CQ_TAIL n q)) val then
        s.takeHead n q (ringAhead (s.rd (Reg.RDR_CQ_CTL n q)) (s.rd (Reg.RDR_CQ_HEAD n q)) val) (Word.fld val 0 17)
      else s.badVal agent (Reg.RDR_CQ_HEAD n q) := rfl

/-- What the word of a doorbell makes the block do. -/
def State.doorbell (s : State) (cq : Bool) (agent n q : Nat) (val : Word) : State :=
  if cq then s.cqHead agent n q val else s.sqTail agent n q val

/-- A doorbell is valid in a state. -/
def State.doorbellValid (s : State) (cq : Bool) (n q : Nat) (val : Word) : Bool :=
  if cq then headValid (s.rd (Reg.RDR_CQ_CTL n q)) (s.rd (Reg.RDR_CQ_HEAD n q)) (s.rd (Reg.RDR_CQ_TAIL n q)) val
  else tailValid (s.rd (Reg.RDR_SQ_CTL n q)) (s.rd (Reg.RDR_SQ_HEAD n q)) (s.rd (Reg.RDR_SQ_TAIL n q)) val

theorem doorbellAt_range {q : Nat} (hq : q < 4) (cq : Bool) : 0x40 ≤ doorbellAt cq q ∧ doorbellAt cq q < 0x1000 := by
  have hall : ∀ q < 4, ∀ cq, 0x40 ≤ doorbellAt cq q ∧ doorbellAt cq q < 0x1000 := by decide
  exact hall q hq cq

theorem doorbellOff_sqTail (n q : Nat) : Reg.RDR_SQ_TAIL n q = doorbellOff false n q := by
  show 0x4010C + 0x1000 * n + 0x20 * q = (0x040 + n) * 0x1000 + (0x10C + 0x20 * q)
  omega

theorem doorbellOff_cqHead (n q : Nat) : Reg.RDR_CQ_HEAD n q = doorbellOff true n q := by
  show 0x4020C + 0x1000 * n + 0x20 * q = (0x040 + n) * 0x1000 + (0x20C + 0x20 * q)
  omega

theorem specAt_doorbell {n q : Nat} (hn : n < 16) (hq : q < 4) (cq : Bool) : specAt (doorbellOff cq n q) = some (doorbellSpec cq) := by
  have hfind : ∀ q < 4, ∀ cq, rdrRegs.find? (fun r => r.covers (doorbellAt cq q)) = some (doorbellSpec cq) := by decide
  obtain ⟨hlow, hhigh⟩ := doorbellAt_range hq cq
  exact (specAt_page (pageOf_rider hn) hlow hhigh).trans (hfind q hq cq)

theorem doorbellSpec_plain (cq : Bool) : (doorbellSpec cq).role = .single ∧ (doorbellSpec cq).rw = 0x1FFFF
    ∧ Nat.lor (doorbellSpec cq).w1c (Nat.lor (doorbellSpec cq).w1s (doorbellSpec cq).wo) = 0 := by
  cases cq <;> decide

/-- A doorbell's word is taken whatever it is; its act judges and stores it. -/
theorem State.verdict_doorbell (s : State) {q : Nat} (hq : q < 4) (cq : Bool) (n off : Nat) (w : Word) :
    s.verdict .rdr n (doorbellAt cq q) off w = .take := by
  have hat : ∀ q < 4, ∀ cq, doorbellAt cq q % 0x20 = 0x0C := by decide
  unfold State.verdict
  simp [hat q hq cq]

/-- The act of a doorbell's register. -/
theorem State.valueAct_doorbell (s : State) {q : Nat} (hq : q < 4) (cq : Bool) (agent n : Nat) (old new : Word) :
    s.valueAct agent .rdr n (doorbellAt cq q) old new = s.doorbell cq agent n q new := by
  have hat : ∀ q < 4, ∀ cq, (0x100 ≤ doorbellAt cq q && doorbellAt cq q < 0x280) = true ∧ doorbellAt cq q % 0x20 = 0x0C
      ∧ doorbellAt cq q % 0x80 / 0x20 = q ∧ (doorbellAt cq q < 0x200 ↔ cq = false) := by decide
  obtain ⟨hrange, hreg, hring, hside⟩ := hat q hq cq
  have hrider : s.valueAct agent .rdr n (doorbellAt cq q) old new
      = if (0x100 ≤ doorbellAt cq q && doorbellAt cq q < 0x280) = true then
          if doorbellAt cq q % 0x20 = 0x08 then s.ringCtl n (doorbellAt cq q % 0x80 / 0x20) (Nat.ble 0x200 (doorbellAt cq q)) old new
          else if doorbellAt cq q % 0x20 = 0x0C then
            (if doorbellAt cq q < 0x200 then s.sqTail agent n (doorbellAt cq q % 0x80 / 0x20) new
              else s.cqHead agent n (doorbellAt cq q % 0x80 / 0x20) new)
          else s
        else s := rfl
  rw [hrider, if_pos hrange, if_neg (by rw [hreg]; decide), if_pos hreg, hring, State.doorbell]
  cases cq
  · rw [if_pos (hside.2 rfl), if_neg (by decide)]
  · rw [if_neg (fun h => nomatch hside.1 h), if_pos rfl]

/-- A doorbell depends on the slot and the phase written. -/
theorem State.doorbell_congr (s : State) (cq : Bool) (agent n q : Nat) {v w : Word}
    (h : ∀ lo k, lo + k ≤ 17 → Word.fld v lo k = Word.fld w lo k) : s.doorbell cq agent n q v = s.doorbell cq agent n q w := by
  have hslot := h 0 16 (by decide)
  have hpos (size : Nat) : ringPos size v = ringPos size w := by rw [ringPos, hslot, h 16 1 (by decide), ringPos]
  unfold State.doorbell
  rw [State.cqHead_eq, State.cqHead_eq, State.sqTail_eq, State.sqTail_eq]
  unfold headValid tailValid ringAhead
  rw [hpos, hpos, hslot, h 0 17 (by decide)]

theorem State.write32_doorbell {s : State} {agent n q : Nat} (hn : n < 16) (hq : q < 4) (cq : Bool) (h : Reaches s agent (doorbellOff cq n q))
    (hc : s.claimOf (0x040 + n) = none) (val : Word) :
    s.write32 agent (doorbellOff cq n q) (withBits val 0) = (woken s agent).doorbell cq agent n q val := by
  obtain ⟨hlow, hhigh⟩ := doorbellAt_range hq cq
  obtain ⟨hrole, hrw, htrig⟩ := doorbellSpec_plain cq
  have hflags : ∀ q < 4, ∀ cq, atFrame .rdr (doorbellAt cq q) = false ∧ selfStored .rdr (doorbellAt cq q) = true
      ∧ lowBits .rdr (doorbellAt cq q) = 0 := by decide
  obtain ⟨hframe, hself, hlowBits⟩ := hflags q hq cq
  have hpage : doorbellOff cq n q / 0x1000 = 0x040 + n := hdrOff_div _ hhigh
  have hat : doorbellOff cq n q % 0x1000 = doorbellAt cq q := hdrOff_mod _ hhigh
  rw [State.write32_take h (b := .rdr) (inst := n) (by rw [hpage, pageOf_rider hn]) (specAt_doorbell hn hq cq) (by rwa [hat]) hrole
    (by rwa [hpage]) (by rw [hrw]; decide) htrig (by rwa [hat]) (fun k hk => nomatch hk) (by rw [hat]; exact State.verdict_doorbell _ hq ..),
    State.takeWord, hat, if_pos hself, State.valueAct_doorbell _ hq]
  refine State.doorbell_congr _ _ _ _ _ fun lo k hk => State.fld_merged hlowBits (by decide) _ _ (by omega) fun i hi => ?_
  rw [hrw, show 0x1FFFF = 2 ^ 17 - 1 from rfl, Nat.testBit_two_pow_sub_one]
  exact decide_eq_true (by omega)

theorem State.freeRegion_link (s : State) (obj id : Nat) : s.freeRegion obj id = { s with link := (s.freeRegion obj id).link } := by
  unfold State.freeRegion
  split <;> rfl

theorem State.freeRegions_link (s : State) (l : List Reported) :
    ∃ link, l.foldl (fun s r => s.freeRegion r.obj r.region) s = { s with link := link } := by
  induction l generalizing s with
  | nil => exact ⟨s.link, rfl⟩
  | cons r l ih =>
    obtain ⟨link, hlink⟩ := ih (s.freeRegion r.obj r.region)
    exact ⟨link, by rw [List.foldl_cons, hlink, State.freeRegion_link]⟩

/-- A doorbell that is taken changes its register, the link, and the trace unit. -/
def State.published (s : State) (off pos : Nat) (link : Link) (n unit : Nat) : State :=
  ({ s.wr off (BitVec.ofNat 32 pos) with link := link } : State).trace 17 n unit pos

/-- A valid doorbell of a rider of which no reset runs is taken. -/
theorem State.doorbell_valid {s : State} {n : Nat} (hr : Tab.find s.link.resetting n = none) {cq : Bool} {q : Nat} {val : Word}
    (hv : s.doorbellValid cq n q val = true) (agent : Nat) :
    ∃ link unit, s.doorbell cq agent n q val = s.published (doorbellOff cq n q) (Word.fld val 0 17) link n unit := by
  have hrun : ¬ (Tab.find s.link.resetting n).isSome = true := by simp [hr]
  cases cq
  · rw [State.doorbell, if_neg (by decide), State.sqTail_eq, if_neg hrun, if_pos (by exact hv), ← doorbellOff_sqTail]
    exact ⟨_, _, rfl⟩
  · rw [State.doorbell, if_pos rfl, State.cqHead_eq, if_neg hrun, if_pos (by exact hv), ← doorbellOff_cqHead, State.takeHead]
    obtain ⟨link, hlink⟩ := State.freeRegions_link s _
    rw [hlink]
    exact ⟨_, _, rfl⟩

/-- Any other is refused as out of range. -/
theorem State.doorbell_invalid {s : State} {n : Nat} (hr : Tab.find s.link.resetting n = none) {cq : Bool} {q : Nat} {val : Word}
    (hv : ¬ s.doorbellValid cq n q val = true) (agent : Nat) :
    s.doorbell cq agent n q val = s.badVal agent (doorbellOff cq n q) := by
  have hrun : ¬ (Tab.find s.link.resetting n).isSome = true := by simp [hr]
  cases cq
  · rw [State.doorbell, if_neg (by decide), State.sqTail_eq, if_neg hrun, if_neg (by exact hv), ← doorbellOff_sqTail]
  · rw [State.doorbell, if_pos rfl, State.cqHead_eq, if_neg hrun, if_neg (by exact hv), ← doorbellOff_cqHead]

theorem word_low17 (val : Word) : BitVec.ofNat 32 (Word.fld val 0 17) = val &&& 0x1FFFF := by
  have hmask : Nat.land val.toNat 0x1FFFF = Word.fld val 0 17 := by
    rw [Word.fld, bitsOf, Nat.pow_zero, Nat.div_one]
    exact Nat.and_two_pow_sub_one_eq_mod val.toNat 17
  rw [← hmask]
  exact word_mask val 0x1FFFF

theorem State.published_touchesOnly (s : State) (off : Nat) (val : Word) (link : Link) (n unit : Nat) :
    let u := s.published off (Word.fld val 0 17) link n unit
    u.rd off = val &&& 0x1FFFF ∧ TouchesOnly s u [off] := by
  have hrd (o : Nat) : (s.published off (Word.fld val 0 17) link n unit).rd o = (s.wr off (BitVec.ofNat 32 (Word.fld val 0 17))).rd o :=
    State.rd_congr (State.trace_regs ..) (State.trace_part ..) o
  have hstored : State.SameBut4 s { s.wr off (BitVec.ofNat 32 (Word.fld val 0 17)) with link := link } := rfl
  refine ⟨by rw [hrd, State.rd_wr_same, word_low17], hstored.trans (State.trace_same ..), fun o ho => ?_⟩
  rw [hrd, State.rd_wr_other _ _ _ _ (by simpa using ho)]

/-- A doorbell that is refused keeps its register, and the rider's page records BADVAL with the agent. -/
theorem State.badVal_doorbell (s : State) {q : Nat} (hq : q < 4) (cq : Bool) (agent n : Nat) :
    (s.badVal agent (doorbellOff cq n q)).rd (doorbellOff cq n q) = s.rd (doorbellOff cq n q)
      ∧ (s.badVal agent (doorbellOff cq n q)).fld (hdrOff (0x040 + n) 0x01C) 0 16 = 0x0107
      ∧ (s.badVal agent (doorbellOff cq n q)).fld (hdrOff (0x040 + n) 0x01C) 16 8 = agent % 256 := by
  obtain ⟨hlow, hhigh⟩ := doorbellAt_range hq cq
  obtain ⟨hcode, hagent⟩ := s.fld_recordErr_code (0x040 + n) 0x0107 agent (doorbellOff cq n q) true 0xF
  rw [State.badVal, show doorbellOff cq n q / 0x1000 = 0x040 + n from hdrOff_div _ hhigh]
  refine ⟨State.rd_recordErr_other _ _ _ _ _ _ _ _ ?_ ?_ ?_ ?_, hcode, hagent⟩ <;> simp only [doorbellOff, hdrOff] <;> omega

/-- An access that wakes the link leaves the registers of the pages from the riders' on. -/
theorem rd_woken_rider (s : State) (agent : Nat) {o : Nat} (h : 0x40000 ≤ o) : (woken s agent).rd o = s.rd o := by
  have hne (k : Nat) (hk : k < 0x40000) : o ≠ k := fun he => by omega
  exact rd_woken_other s agent (hne _ (by decide)) (hne _ (by decide)) (hne _ (by decide))

theorem woken_doorbellValid (s : State) (agent : Nat) (cq : Bool) (n q : Nat) (val : Word) :
    (woken s agent).doorbellValid cq n q val = s.doorbellValid cq n q val := by
  have hat (k : Nat) (hk : 0x40000 ≤ k) : (woken s agent).rd k = s.rd k := rd_woken_rider s agent hk
  simp only [State.doorbellValid, hat (Reg.RDR_CQ_CTL n q) (by show _ ≤ 0x40208 + 0x1000 * n + 0x20 * q; omega),
    hat (Reg.RDR_CQ_HEAD n q) (by show _ ≤ 0x4020C + 0x1000 * n + 0x20 * q; omega),
    hat (Reg.RDR_CQ_TAIL n q) (by show _ ≤ 0x40210 + 0x1000 * n + 0x20 * q; omega),
    hat (Reg.RDR_SQ_CTL n q) (by show _ ≤ 0x40108 + 0x1000 * n + 0x20 * q; omega),
    hat (Reg.RDR_SQ_HEAD n q) (by show _ ≤ 0x40110 + 0x1000 * n + 0x20 * q; omega),
    hat (Reg.RDR_SQ_TAIL n q) (by show _ ≤ 0x4010C + 0x1000 * n + 0x20 * q; omega)]

/-- What a doorbell at offset `off` leaves, valid or not (R190). -/
def Judged (s u : State) (valid : Bool) (agent n off : Nat) (val : Word) : Prop :=
  if valid = true then u.rd off = val &&& 0x1FFFF ∧ TouchesOnly (woken s agent) u [off]
  else u.rd off = s.rd off ∧ u.fld (hdrOff (0x040 + n) 0x01C) 0 16 = 0x0107 ∧ u.fld (hdrOff (0x040 + n) 0x01C) 16 8 = agent % 256

/-- A doorbell that arrives with no claim on its page, at a rider of which no reset runs, is judged (R190). -/
theorem judged_doorbell {s : State} {agent n q : Nat} (hn : n < 16) (hq : q < 4) (cq : Bool) (h : Reaches s agent (doorbellOff cq n q))
    (hc : s.claimOf (0x040 + n) = none) (hr : Tab.find s.link.resetting n = none) (val : Word) :
    Judged s (s.write32 agent (doorbellOff cq n q) (withBits val 0)) (s.doorbellValid cq n q val) agent n (doorbellOff cq n q) val := by
  have hr' : Tab.find (woken s agent).link.resetting n = none := by rw [(woken_linkRests s agent).resetting, hr]
  have hold : (woken s agent).rd (doorbellOff cq n q) = s.rd (doorbellOff cq n q) :=
    rd_woken_rider s agent (by simp only [doorbellOff, hdrOff]; omega)
  rw [State.write32_doorbell hn hq cq h hc, Judged]
  split
  · next hv =>
    obtain ⟨link, unit, heq⟩ := State.doorbell_valid hr' ((woken_doorbellValid s agent cq n q val).trans hv) agent
    rw [heq]
    exact State.published_touchesOnly ..
  · next hv =>
    rw [State.doorbell_invalid hr' (fun hw => hv ((woken_doorbellValid s agent cq n q val).symm.trans hw)) agent]
    obtain ⟨hrd, hcode, hagent⟩ := (woken s agent).badVal_doorbell hq cq agent n
    exact ⟨hrd.trans hold, hcode, hagent⟩

theorem does_rdrSqTail {s : State} {agent n q : Nat} (hn : n < 16) (hq : q < 4) (h : Reaches s agent (Reg.RDR_SQ_TAIL n q)) (val : Word) :
    Does (.rdrSqTail agent n q val) s (s.write32 agent (Reg.RDR_SQ_TAIL n q) (withBits val 0)) := by
  have hrow : exec (.rdrSqTail agent n q val) s = runWrite agent (Reg.RDR_SQ_TAIL (n % 16) (q % 4)) (withBits val 0) s := rfl
  rw [Does, hrow, Nat.mod_eq_of_lt hn, Nat.mod_eq_of_lt hq, runWrite_alive h]

theorem does_rdrCqHead {s : State} {agent n q : Nat} (hn : n < 16) (hq : q < 4) (h : Reaches s agent (Reg.RDR_CQ_HEAD n q)) (val : Word) :
    Does (.rdrCqHead agent n q val) s (s.write32 agent (Reg.RDR_CQ_HEAD n q) (withBits val 0)) := by
  have hrow : exec (.rdrCqHead agent n q val) s = runWrite agent (Reg.RDR_CQ_HEAD (n % 16) (q % 4)) (withBits val 0) s := rfl
  rw [Does, hrow, Nat.mod_eq_of_lt hn, Nat.mod_eq_of_lt hq, runWrite_alive h]

/-- Settles O22: a doorbell that is valid by R190 is taken, and any other recorded. -/
theorem doorbellsAreJudged : Obligations.DoorbellsAreJudged := by
  intro s agent n q val hn hq hc hr
  refine ⟨fun h => ⟨_, does_rdrSqTail hn hq h val, ?_⟩, fun h => ⟨_, does_rdrCqHead hn hq h val, ?_⟩⟩
  · have hjudged := judged_doorbell hn hq false (doorbellOff_sqTail n q ▸ h) hc hr val
    rw [← doorbellOff_sqTail, Judged] at hjudged
    exact (if_congr (tailValid_iff ..) rfl rfl).mp hjudged
  · have hjudged := judged_doorbell hn hq true (doorbellOff_cqHead n q ▸ h) hc hr val
    rw [← doorbellOff_cqHead, Judged] at hjudged
    exact (if_congr (headValid_iff ..) rfl rfl).mp hjudged

end Sys2Proof.Machine

namespace Sys2Proof.Machine
open Sys2Proof

/-! ### Index registers -/

/-- An index register: a field of some low bits, which a write stores. -/
def indexSpec (o bits : Nat) : RegSpec := ⟨o, 0x0, 1, 2 ^ bits - 1, 0x0, 0x0, 0x0, 0x0, .single⟩

/-- A row that writes an index register that stands free: its field is stored, and acted on (R114). -/
theorem State.write32_index {s : State} {agent off bits : Nat} (h : Reaches s agent off) {b : Block} {inst : Nat}
    (hb : pageOf (off / 0x1000) = some (b, inst)) (hr : specAt off = some (indexSpec (off % 0x1000) bits)) (ho : 0x40 ≤ off % 0x1000)
    (hc : s.claimOf (off / 0x1000) = none) (hw : ∀ k, hubOf b inst = some k → s.restarting k = false) (hpos : 0 < bits) (hlt : bits ≤ 32)
    (hv : ∀ (t : State) w, t.verdict b inst (off % 0x1000) off w = .take)
    (hplain : atFrame b (off % 0x1000) = false ∧ selfStored b (off % 0x1000) = false ∧ lowBits b (off % 0x1000) = 0 ∧ b ≠ .pwr)
    (val : Word) :
    ∃ new : Word, (∀ lo n, lo + n ≤ bits → Word.fld new lo n = Word.fld val lo n)
      ∧ s.write32 agent off (withBits val 0)
        = ((woken s agent).wr off new).valueAct agent b inst (off % 0x1000) ((woken s agent).rd off) new := by
  obtain ⟨hframe, hself, hlow, hpwr⟩ := hplain
  have hrw : (indexSpec (off % 0x1000) bits).rw ≠ 0 := by
    have hpow := Nat.pow_le_pow_right (n := 2) (by decide) hpos
    show 2 ^ bits - 1 ≠ 0
    omega
  refine ⟨(woken s agent).merged b (indexSpec (off % 0x1000) bits) (off % 0x1000) off val, fun lo n hn => ?_, ?_⟩
  · refine State.fld_merged hlow hpwr _ _ (by omega) fun i hi => ?_
    show (2 ^ bits - 1).testBit (lo + i) = true
    rw [Nat.testBit_two_pow_sub_one]
    exact decide_eq_true (by omega)
  · rw [State.write32_take h hb hr ho rfl hc hrw (show Nat.lor 0 (Nat.lor 0 0) = 0 by decide) hframe hw (hv _ _), State.takeWord, hself,
      if_neg (by decide)]

/-! ### Words put one after the other -/

/-- The state with `n` registers from `at_` on replaced. -/
def State.putWords (s : State) (at_ n : Nat) (f : Nat → Word) : State := (List.range n).foldl (fun s k => s.wr (at_ + 4 * k) (f k)) s

theorem State.putWords_succ (s : State) (at_ n : Nat) (f : Nat → Word) :
    s.putWords at_ (n + 1) f = (s.putWords at_ n f).wr (at_ + 4 * n) (f n) := by
  rw [State.putWords, List.range_succ, List.foldl_append]
  rfl

theorem State.putWords_same (s : State) (at_ n : Nat) (f : Nat → Word) : State.SameBut3 s (s.putWords at_ n f) := by
  induction n with
  | zero => rfl
  | succ n ih =>
    rw [State.putWords_succ]
    exact ih.trans (State.wr_same ..)

theorem State.rd_putWords (s : State) (at_ n : Nat) (f : Nat → Word) {k : Nat} (h : k < n) : (s.putWords at_ n f).rd (at_ + 4 * k) = f k := by
  induction n with
  | zero => exact absurd h (Nat.not_lt_zero k)
  | succ n ih =>
    rw [State.putWords_succ]
    rcases Nat.lt_succ_iff_lt_or_eq.1 h with hlt | rfl
    · rw [State.rd_wr_other _ _ _ _ (by omega), ih hlt]
    · rw [State.rd_wr_same]

theorem State.rd_putWords_other (s : State) (at_ n : Nat) (f : Nat → Word) {o : Nat} (h : ∀ k, k < n → o ≠ at_ + 4 * k) :
    (s.putWords at_ n f).rd o = s.rd o := by
  induction n with
  | zero => rfl
  | succ n ih => rw [State.putWords_succ, State.rd_wr_other _ _ _ _ (h n (Nat.lt_succ_self n)), ih fun k hk => h k (Nat.lt_succ_of_lt hk)]

theorem State.latchWords_eq (s : State) (at_ : Nat) (bs : List Byte) :
    s.latchWords at_ bs = s.putWords at_ 8 fun k => BitVec.ofNat 32 (wordOf bs k) := rfl

/-- An index, and the words that it shows: those registers alone. -/
theorem State.latchWords_touchesOnly (w : State) (off at_ : Nat) (new : Word) (bs : List Byte) :
    TouchesOnly w ((w.wr off new).latchWords at_ bs) (off :: (List.range 8).map fun k => at_ + 4 * k) := by
  rw [State.latchWords_eq]
  refine ⟨((State.wr_same w off new).trans (State.putWords_same ..)).four, fun o ho => ?_⟩
  have hentry (k : Nat) (hk : k < 8) : o ≠ at_ + 4 * k := fun he =>
    ho (List.mem_cons_of_mem _ (List.mem_map.2 ⟨k, List.mem_range.2 hk, he.symm⟩))
  rw [State.rd_putWords_other _ _ _ _ hentry, State.rd_wr_other _ _ _ _ fun (he : o = off) => ho (by rw [he]; exact List.mem_cons_self ..)]

/-! ### The journal's read window and dump (R210) -/

theorem State.jnlLatch_jnl (s : State) (i : Nat) : (s.jnlLatch i).jnl = { s.jnl with latched := Tab.find s.jnl.pos i } := by
  simp only [State.jnlLatch]
  split
  · next h => rw [h]
  · next h =>
    rw [h]
    split
    · rw [State.raiseBit_jnl, State.count_jnl]
    · rfl

theorem State.rd_jnlLatch_other (s : State) (i : Nat) {o : Nat} (h1 : o ≠ Reg.JNL_CHECK_ERRS) (h2 : o ≠ hdrOff 0x006 0x010) :
    (s.jnlLatch i).rd o = s.rd o := by
  simp only [State.jnlLatch]
  split
  · rfl
  · split
    · rw [State.rd_raiseBit_other _ _ _ _ h2, State.rd_count_other _ _ _ _ h1 h2]
      rfl
    · rfl

theorem does_jnlReadIdx {s : State} {agent : Nat} (h : Reaches s agent Reg.JNL_READ_IDX) (hc : s.claimOf 0x006 = none) (val : Word) :
    ∃ u, Does (.jnlReadIdx agent val) s u ∧ u.jnl = { s.jnl with latched := Tab.find s.jnl.pos (Word.fld val 0 13) }
      ∧ u.fld Reg.JNL_READ_IDX 0 13 = Word.fld val 0 13 := by
  obtain ⟨new, hnew, heq⟩ := State.write32_index (bits := 13) h (b := .jnl) (inst := 0) rfl (by decide) (by decide) hc
    (fun k hk => nomatch hk) (by decide) (by decide) (fun _ _ => rfl) (by decide) val
  refine ⟨_, runWrite_alive h _, ?_, ?_⟩
  · rw [heq]
    show (((woken s agent).wr Reg.JNL_READ_IDX new).jnlLatch (Word.fld new 0 13)).jnl = _
    rw [State.jnlLatch_jnl, hnew 0 13 (by decide), State.wr_jnl, (woken_same s agent).jnl]
  · rw [heq]
    show Word.fld ((((woken s agent).wr Reg.JNL_READ_IDX new).jnlLatch (Word.fld new 0 13)).rd Reg.JNL_READ_IDX) 0 13 = _
    rw [State.rd_jnlLatch_other _ _ (by decide) (by decide), State.rd_wr_same, hnew 0 13 (by decide)]

theorem State.dumpGo_jnl (s : State) :
    s.dumpGo = { s with jnl := { s.jnl with dumping := some (s.jnl.dumping.getD (s.rd64 Reg.JNL_DUMP_ADDR_LO)) } } := by
  unfold State.dumpGo
  cases h : s.jnl.dumping with
  | none => rfl
  | some a =>
    have hsame : { s.jnl with dumping := some a } = s.jnl := by rw [← h]
    simp only [Option.isSome_some, if_true, Option.getD_some, hsame]

theorem does_jnlDumpGo {s : State} {agent : Nat} (h : Reaches s agent Reg.JNL_DUMP_CTL) (hc : s.claimOf 0x006 = none) (val : Word) :
    ∃ u, Does (.jnlDumpGo agent val) s u
      ∧ u.jnl = { s.jnl with dumping := some (s.jnl.dumping.getD (s.rd64 Reg.JNL_DUMP_ADDR_LO)) }
      ∧ TouchesOnly { woken s agent with jnl := u.jnl } u [] := by
  obtain ⟨bits, hbit, heq⟩ := State.write32_trigger h (b := .jnl) (inst := 0) (r := ⟨0x088, 0x0, 1, 0x0, 0x0, 0x1, 0x0, 0x0, .single⟩)
    rfl (by decide) (by decide) rfl hc rfl (m := 1) (i := 0) (by decide) (by decide) (by decide) val
  have hact : (woken s agent).actTrigger agent Reg.JNL_DUMP_CTL bits none false = (woken s agent).dumpGo := by
    rw [State.actTrigger_now (b := .jnl) (inst := 0) rfl rfl]
    exact if_pos hbit
  have haddr : (woken s agent).rd64 Reg.JNL_DUMP_ADDR_LO = s.rd64 Reg.JNL_DUMP_ADDR_LO := by
    simp only [State.rd64, rd_woken_other s agent (o := Reg.JNL_DUMP_ADDR_LO) (by decide) (by decide) (by decide),
      rd_woken_other s agent (o := Reg.JNL_DUMP_ADDR_LO + 4) (by decide) (by decide) (by decide)]
  refine ⟨_, runWrite_alive h _, ?_⟩
  rw [heq, hact, State.dumpGo_jnl, haddr, (woken_same s agent).jnl]
  exact ⟨rfl, rfl, fun _ _ => rfl⟩

/-! ### The stream and sequence tables' read windows (R341, R371) -/

theorem State.strEntry_congr {s t : State} (hstreams : t.streams = s.streams) (hprts : t.prts = s.prts) (k : Nat) :
    t.strEntry k = s.strEntry k := by
  simp only [State.strEntry, State.str, State.slotOf, State.prt, hstreams, hprts]

theorem State.seqEntry_congr {s t : State} (hseqs : t.seqs = s.seqs) (hprts : t.prts = s.prts) (k : Nat) :
    t.seqEntry k = s.seqEntry k := by
  simp only [State.seqEntry, State.seq, State.slotOf, State.prt, hseqs, hprts]

theorem does_strReadIdx {s : State} {agent : Nat} (h : Reaches s agent Reg.STR_READ_IDX) (hc : s.claimOf 0x010 = none)
    (hi : s.restarting 1 = false) (val : Word) :
    ∃ u, Does (.strReadIdx agent val) s u
      ∧ (∀ k, k < 8 → u.rd (Reg.STR_ENTRY k) = BitVec.ofNat 32 (wordOf (s.strEntry (Word.fld val 0 10)) k))
      ∧ TouchesOnly (woken s agent) u (Reg.STR_READ_IDX :: (List.range 8).map fun k => Reg.STR_ENTRY k) := by
  obtain ⟨new, hnew, heq⟩ := State.write32_index (bits := 10) h (b := .str) (inst := 0) rfl (by decide) (by decide) hc
    (fun k hk => by cases hk; exact hi) (by decide) (by decide) (fun _ _ => rfl) (by decide) val
  have hentry : ((woken s agent).wr Reg.STR_READ_IDX new).strEntry (Word.fld new 0 10) = s.strEntry (Word.fld val 0 10) := by
    rw [hnew 0 10 (by decide)]
    exact State.strEntry_congr (woken_same s agent).streams (woken_same s agent).prts _
  have hlatch : s.write32 agent Reg.STR_READ_IDX (withBits val 0)
      = ((woken s agent).wr Reg.STR_READ_IDX new).latchWords (Reg.STR_ENTRY 0) (s.strEntry (Word.fld val 0 10)) := by
    rw [heq, ← hentry]
    rfl
  refine ⟨_, runWrite_alive h _, ?_⟩
  rw [hlatch]
  exact ⟨fun k hk => State.rd_putWords _ _ _ _ hk, State.latchWords_touchesOnly ..⟩

theorem does_kvcSeqReadIdx {s : State} {agent : Nat} (h : Reaches s agent Reg.KVC_SEQ_READ_IDX) (hc : s.claimOf 0x011 = none)
    (hi : s.restarting 2 = false) (val : Word) :
    ∃ u, Does (.kvcSeqReadIdx agent val) s u
      ∧ (∀ k, k < 8 → u.rd (Reg.KVC_SEQ_ENTRY k) = BitVec.ofNat 32 (wordOf (s.seqEntry (Word.fld val 0 10)) k))
      ∧ TouchesOnly (woken s agent) u (Reg.KVC_SEQ_READ_IDX :: (List.range 8).map fun k => Reg.KVC_SEQ_ENTRY k) := by
  obtain ⟨new, hnew, heq⟩ := State.write32_index (bits := 10) h (b := .kvc) (inst := 0) rfl (by decide) (by decide) hc
    (fun k hk => by cases hk; exact hi) (by decide) (by decide) (fun _ _ => rfl) (by decide) val
  have hentry : ((woken s agent).wr Reg.KVC_SEQ_READ_IDX new).seqEntry (Word.fld new 0 10) = s.seqEntry (Word.fld val 0 10) := by
    rw [hnew 0 10 (by decide)]
    exact State.seqEntry_congr (woken_same s agent).seqs (woken_same s agent).prts _
  have hlatch : s.write32 agent Reg.KVC_SEQ_READ_IDX (withBits val 0)
      = ((woken s agent).wr Reg.KVC_SEQ_READ_IDX new).latchWords (Reg.KVC_SEQ_ENTRY 0) (s.seqEntry (Word.fld val 0 10)) := by
    rw [heq, ← hentry]
    rfl
  refine ⟨_, runWrite_alive h _, ?_⟩
  rw [hlatch]
  exact ⟨fun k hk => State.rd_putWords _ _ _ _ hk, State.latchWords_touchesOnly ..⟩

/-! ### The trace unit's windows and snapshot (R546, R555, R556) -/

theorem State.logLatch_latched (s : State) (w : Word) :
    (s.logLatch w).trc.latched = Tab.find (Tab.get LogRing.zero s.trc.logs (Word.fld w 0 2)).pos (Word.fld w 2 11) := by
  simp only [State.logLatch]
  split
  · rfl
  · split
    · rfl
    · rw [State.count_trc]

theorem does_trcLogRead {s : State} {agent : Nat} (h : Reaches s agent Reg.TRC_LOG_READ) (hc : s.claimOf 0x00D = none) (val : Word) :
    ∃ u, Does (.trcLogRead agent val) s u ∧ u.trc.latched
      = Tab.find (Tab.get LogRing.zero (woken s agent).trc.logs (Word.fld val 0 2)).pos (Word.fld val 2 11) := by
  obtain ⟨new, hnew, heq⟩ := State.write32_index (bits := 13) h (b := .trc) (inst := 0) rfl (by decide) (by decide) hc
    (fun k hk => nomatch hk) (by decide) (by decide) (fun _ _ => rfl) (by decide) val
  refine ⟨_, runWrite_alive h _, ?_⟩
  rw [heq]
  show (((woken s agent).wr Reg.TRC_LOG_READ new).logLatch new).trc.latched = _
  rw [State.logLatch_latched, hnew 0 2 (by decide), hnew 2 11 (by decide), State.wr_trc]

/-- The object that a word of TRC_OBJ_READ names (R555). -/
def objOf (w : Word) : Nat := Word.fld w 0 10 + (if Word.bit w 10 then 1024 else 0)

theorem State.objLatch_eq (s : State) (w : Word) : s.objLatch w
    = ({ s with trc := { s.trc with objLast := some (objOf w) } } : State).putWords (Reg.TRC_OBJ_DATA 0) 8
        fun i => BitVec.ofNat 32 ((Tab.get (List.replicate 8 0) s.trc.objs (objOf w)).getD i 0) := rfl

theorem objOf_congr {v w : Word} (h : ∀ lo n, lo + n ≤ 11 → Word.fld v lo n = Word.fld w lo n) : objOf v = objOf w := by
  have hbit (w : Word) : Word.bit w 10 = decide (Word.fld w 10 1 = 1) := by
    rw [Word.bit, Word.fld, bitsOf, Nat.testBit_eq_decide_div_mod_eq, Nat.pow_one]
  rw [objOf, objOf, h 0 10 (by decide), hbit, hbit, h 10 1 (by decide)]

theorem does_trcObjRead {s : State} {agent : Nat} (h : Reaches s agent Reg.TRC_OBJ_READ) (hc : s.claimOf 0x00D = none) (val : Word) :
    ∃ u, Does (.trcObjRead agent val) s u ∧ u.trc.objLast = some (objOf val)
      ∧ ∀ i, i < 8 → u.rd (Reg.TRC_OBJ_DATA i)
        = BitVec.ofNat 32 ((Tab.get (List.replicate 8 0) (woken s agent).trc.objs (objOf val)).getD i 0) := by
  obtain ⟨new, hnew, heq⟩ := State.write32_index (bits := 11) h (b := .trc) (inst := 0) rfl (by decide) (by decide) hc
    (fun k hk => nomatch hk) (by decide) (by decide) (fun _ _ => rfl) (by decide) val
  have hlatch : s.write32 agent Reg.TRC_OBJ_READ (withBits val 0) = ((woken s agent).wr Reg.TRC_OBJ_READ new).objLatch new := heq
  refine ⟨_, runWrite_alive h _, ?_⟩
  rw [hlatch, State.objLatch_eq, objOf_congr hnew]
  exact ⟨congrArg Trace.objLast (State.putWords_same ..).trc, fun i hi => State.rd_putWords _ _ _ _ hi⟩

theorem State.snapGo_trc (s : State) : s.snapGo = { s with trc := { s.trc with snap := some (s.trc.snap.getD none) } } := by
  unfold State.snapGo
  cases h : s.trc.snap with
  | none => rfl
  | some a =>
    have hsame : { s.trc with snap := some a } = s.trc := by rw [← h]
    simp only [Option.isSome_some, if_true, Option.getD_some, hsame]

theorem does_trcSnapGo {s : State} {agent : Nat} (h : Reaches s agent Reg.TRC_SNAP_CTL) (hc : s.claimOf 0x00D = none) (val : Word) :
    ∃ u, Does (.trcSnapGo agent val) s u ∧ u.trc.snap = some ((woken s agent).trc.snap.getD none)
      ∧ TouchesOnly (woken s agent) u [] := by
  obtain ⟨bits, hbit, heq⟩ := State.write32_trigger h (b := .trc) (inst := 0) (r := ⟨0x0D8, 0x0, 1, 0x0, 0x0, 0x1, 0x0, 0x0, .single⟩)
    rfl (by decide) (by decide) rfl hc rfl (m := 1) (i := 0) (by decide) (by decide) (by decide) val
  have hact : (woken s agent).actTrigger agent Reg.TRC_SNAP_CTL bits none false = (woken s agent).snapGo := by
    rw [State.actTrigger_now (b := .trc) (inst := 0) rfl rfl]
    exact if_pos hbit
  refine ⟨_, runWrite_alive h _, ?_⟩
  rw [heq, hact, State.snapGo_trc]
  exact ⟨rfl, rfl, fun _ _ => rfl⟩

/-- Settles O23, row by row. -/
theorem readWindowsLatch : Obligations.ReadWindowsLatch := fun _ _ val =>
  ⟨fun h hc => does_jnlReadIdx h hc val, fun h hc hi => does_strReadIdx h hc hi val, fun h hc hi => does_kvcSeqReadIdx h hc hi val,
    fun h hc => does_trcLogRead h hc val, fun h hc => does_trcObjRead h hc val, fun h hc => does_jnlDumpGo h hc val,
    fun h hc => does_trcSnapGo h hc val⟩

end Sys2Proof.Machine

namespace Sys2Proof.Machine
open Sys2Proof

/-! ### What sending, tracing and settling leave standing

The tables that commands act on. Registers, interrupts, what is sent, the trace unit, the flits of the tandem ports and the activity of
channels are not among them: they are all that follows once a command's own effect has run. -/

structure Ledger where
  cmds : List Cmd
  entries : List CplEntry
  bufs : List (Nat × OutBuf)
  jnl : Journal
  prts : List (Nat × Prt)
  streams : List (Nat × Stream)
  seqs : List (Nat × Seq)
  aud : Audio
  pairing : List Pairing
  migOut : List MigOut

def State.ledger (s : State) : Ledger :=
  ⟨s.link.cmds, s.link.entries, s.link.bufs, s.jnl, s.prts, s.streams, s.seqs, s.aud, s.tan.pairing, s.tan.migOut⟩

section
variable {s t : State} (h : t.ledger = s.ledger)
include h

theorem State.cmds_of_ledger : t.link.cmds = s.link.cmds := congrArg Ledger.cmds h
theorem State.entries_of_ledger : t.link.entries = s.link.entries := congrArg Ledger.entries h
theorem State.bufs_of_ledger : t.link.bufs = s.link.bufs := congrArg Ledger.bufs h
theorem State.jnl_of_ledger : t.jnl = s.jnl := congrArg Ledger.jnl h
theorem State.prts_of_ledger : t.prts = s.prts := congrArg Ledger.prts h
theorem State.streams_of_ledger : t.streams = s.streams := congrArg Ledger.streams h
theorem State.seqs_of_ledger : t.seqs = s.seqs := congrArg Ledger.seqs h
theorem State.aud_of_ledger : t.aud = s.aud := congrArg Ledger.aud h
theorem State.pairing_of_ledger : t.tan.pairing = s.tan.pairing := congrArg Ledger.pairing h
theorem State.migOut_of_ledger : t.tan.migOut = s.tan.migOut := congrArg Ledger.migOut h

end

theorem State.SameBut4.ledger {s t : State} (h : State.SameBut4 s t) (l : State.LinkRests s t) : t.ledger = s.ledger := by
  simp only [State.ledger, l.cmds, l.entries, l.bufs, h.jnl, h.prts, h.streams, h.seqs, h.aud, h.tan]

theorem State.ledger_foldl {A : Type} (f : State → A → State) (l : List A) (s : State) (h : ∀ t x, (f t x).ledger = t.ledger) :
    (l.foldl f s).ledger = s.ledger := by
  induction l generalizing s with
  | nil => rfl
  | cons x l ih => exact (ih _).trans (h s x)

theorem State.trace_linkRests (s : State) (p unit a b : Nat) : State.LinkRests s (s.trace p unit a b) :=
  State.LinkRests.of_link (s.trace_link ..)

theorem State.trace_ledger (s : State) (p unit a b : Nat) : (s.trace p unit a b).ledger = s.ledger :=
  (s.trace_same ..).ledger (s.trace_linkRests ..)

theorem State.raiseBit_ledger (s : State) (pg i : Nat) : (s.raiseBit pg i).ledger = s.ledger :=
  (s.raiseBit_same ..).four.ledger (s.raiseBit_linkRests ..)

theorem State.count_ledger (s : State) (off n : Nat) : (s.count off n).ledger = s.ledger :=
  (s.count_same ..).four.ledger (s.count_linkRests ..)

theorem State.count48_ledger (s : State) (off n : Nat) : (s.count48 off n).ledger = s.ledger := by
  simp only [State.count48]
  split
  · rfl
  · split
    · exact State.raiseBit_ledger ..
    · rfl

theorem State.setTport_ledger (s : State) (p : Nat) (x : TanPort) : (s.setTport p x).ledger = s.ledger := rfl

theorem State.emit_ledger (s : State) (e : OutEvent) : (s.emit e).ledger = s.ledger := rfl

theorem State.pumpOne_ledger (s : State) (p : Nat) : (s.pumpOne p).ledger = s.ledger := by
  unfold State.pumpOne
  dsimp only
  split
  · rfl
  · split
    · split
      · rfl
      · split <;> rfl
    · split
      · rfl
      · split
        · rfl
        · exact State.count48_ledger ..

theorem State.pump_ledger (s : State) (p : Nat) : (s.pump p).ledger = s.ledger :=
  State.ledger_foldl _ _ _ fun t _ => t.pumpOne_ledger p

theorem State.tanSend_ledger (s : State) (p : Nat) (m : TanMsg) : (s.tanSend p m).ledger = s.ledger := by
  unfold State.tanSend
  split
  · split <;> rfl
  · exact State.pump_ledger ..

theorem State.leaderStroke_ledger (s : State) (p : Nat) : (s.leaderStroke p).ledger = s.ledger := by
  unfold State.leaderStroke
  split
  · rfl
  · split
    · rfl
    · split
      · exact State.ledger_foldl _ _ _ fun t q => t.tanSend_ledger ..
      · rfl

theorem State.spreadStrokes_ledger (s u : State) : (s.spreadStrokes u).ledger = u.ledger := by
  unfold State.spreadStrokes
  refine State.ledger_foldl _ _ _ fun t x => ?_
  split
  · rfl
  · split
    · split
      · rfl
      · exact State.leaderStroke_ledger ..
    · exact State.leaderStroke_ledger ..

theorem State.settleChannels_ledger (s : State) : s.settleChannels.ledger = s.ledger := by
  unfold State.settleChannels
  have hset (t : State) (n : Nat) (c : Prop) [Decidable c] (x : Channel) : (if c then t.setChan n x else t).ledger = t.ledger := by
    split <;> rfl
  exact State.ledger_foldl _ _ _ fun t n => hset t n _ _

theorem State.visited_ledger (s : State) : s.visited.ledger = s.ledger := by
  unfold State.visited
  split <;> rfl

theorem State.useWindow_ledger (s : State) : s.useWindow.ledger = s.ledger := by
  unfold State.useWindow
  split
  · rfl
  · exact (State.raiseBit_ledger ..).trans (State.count_ledger ..)

/-! ### The fetch and the entry of one descriptor (R191) -/

theorem State.dmaRead_same (s : State) (n f addr len : Nat) : State.SameBut4 s (s.dmaRead n f addr len) := by
  unfold State.dmaRead
  split
  · exact State.SameBut4.trans (t := s.wakeLink) s.wakeLink_same rfl
  · rfl

theorem State.dmaRead_linkRests (s : State) (n f addr len : Nat) : State.LinkRests s (s.dmaRead n f addr len) := by
  unfold State.dmaRead
  split
  · exact State.LinkRests.trans (t := s.wakeLink) s.wakeLink_linkRests rfl
  · exact State.LinkRests.refl s

theorem State.fetchFrom_same (s : State) (n q k : Nat) : State.SameBut4 s (s.fetchFrom n q k) := by
  unfold State.fetchFrom
  dsimp only
  exact State.SameBut4.trans (t := { s with link := { s.link with visit := 4 * n + q } }) rfl
    (State.SameBut4.trans (State.dmaRead_same ..) rfl)

theorem State.fetchFrom_linkRests (s : State) (n q k : Nat) : State.LinkRests s (s.fetchFrom n q k) := by
  unfold State.fetchFrom
  dsimp only
  exact State.LinkRests.trans (t := { s with link := { s.link with visit := 4 * n + q } }) rfl
    (State.LinkRests.trans (State.dmaRead_linkRests ..) rfl)

theorem State.fetchFrom_ledger (s : State) (n q k : Nat) : (s.fetchFrom n q k).ledger = s.ledger :=
  (s.fetchFrom_same ..).ledger (s.fetchFrom_linkRests ..)

theorem State.fetchFrom_fixed (s : State) (n q k : Nat) : (s.fetchFrom n q k).fixed = s.fixed := by
  rw [State.fetchFrom, State.readEnds_fixed, State.dmaRead_fixed]
  rfl

end Sys2Proof.Machine

namespace Sys2Proof.Machine
open Sys2Proof

/-! ### The admission of one descriptor (R191, R196, R203) -/

/-- The command that a descriptor fetched alone becomes. -/
def State.soleCmd (s : State) (n q : Nat) (d : Desc) : Cmd := (s.fetchFrom n q 1).newCmd n q d

/-- The journal entry of its acceptance (R191, R206). -/
def State.acceptEntry (s : State) (n q : Nat) (d : Desc) : JEntry :=
  { seq := 0, epoch := 0, tick := s.tick.number, type := 0x01, agent := n, code := 0, tag := d.tag, op := d.opcode,
    flags := q + (if s.privileged d.opcode then 8 else 0), arg0 := 0, arg1 := 0, check := 0 }

/-- The state with an accepted descriptor's entry and command, before its ring's head moves. -/
def State.listed (s : State) (n q : Nat) (d : Desc) : State :=
  { s with jnl := s.jnl.store (s.acceptEntry n q d),
           link := { s.link with accepted := s.link.accepted + 1, cmds := s.link.cmds ++ [s.newCmd n q d] } }

theorem State.enter_same (s : State) (n q : Nat) (d : Desc) : State.SameBut4 (s.listed n q d) (s.enter n q d) := by
  have hpause (u : State) (h : State.SameBut4 (s.listed n q d) u) : State.SameBut4 (s.listed n q d)
      (if u.pendingCmds ≥ 1024 && !u.link.paused then ({ u with link := { u.link with paused := true } }).raiseBit 0x006 3 else u) := by
    split
    · exact h.trans (State.SameBut4.trans (t := { u with link := { u.link with paused := true } }) rfl (State.raiseBit_same ..).four)
    · exact h
  exact hpause _ (State.wr_same ..).four

theorem State.enter_ledger (s : State) (n q : Nat) (d : Desc) : (s.enter n q d).ledger = (s.listed n q d).ledger := by
  have hpause (u : State) (h : u.ledger = (s.listed n q d).ledger) :
      (if u.pendingCmds ≥ 1024 && !u.link.paused then ({ u with link := { u.link with paused := true } }).raiseBit 0x006 3
        else u).ledger = (s.listed n q d).ledger := by
    split
    · exact (State.raiseBit_ledger ..).trans h
    · exact h
  exact hpause _ rfl

theorem State.enter_fixed (s : State) (n q : Nat) (d : Desc) : (s.enter n q d).fixed = s.fixed := by
  have hpause (u : State) (h : u.fixed = s.fixed) :
      (if u.pendingCmds ≥ 1024 && !u.link.paused then ({ u with link := { u.link with paused := true } }).raiseBit 0x006 3
        else u).fixed = s.fixed := by
    split
    · exact (State.raiseBit_fixed ..).trans h
    · exact h
  exact hpause _ rfl

theorem State.entered_fixed (s : State) (n q : Nat) (d : Desc) : (s.entered n q d).fixed = s.fixed :=
  (State.enter_fixed ..).trans (State.fetchFrom_fixed ..)

theorem State.entered_cmds (s : State) (n q : Nat) (d : Desc) : (s.entered n q d).link.cmds = s.link.cmds ++ [s.soleCmd n q d] := by
  rw [State.entered, State.cmds_of_ledger (State.enter_ledger ..), ← State.cmds_of_ledger (s.fetchFrom_ledger n q 1)]
  rfl

/-- The state in which a command's own effect begins: admitted, and running. -/
def State.began (s : State) (n q : Nat) (d : Desc) : State :=
  let e := s.entered n q d
  (if e.privileged d.opcode then e.useWindow else e).stageTo (s.soleCmd n q d).own .running

/-- What the trace unit is shown of an admitted command (Table 19-4). -/
def State.shown (e u : State) (d : Desc) : State :=
  if d.opcode = 0x30 ∨ d.opcode = 0x40 then u else u.trace 5 (e.unitOf d) d.opcode 0

theorem State.shown_ledger (e u : State) (d : Desc) : (e.shown u d).ledger = u.ledger := by
  unfold State.shown
  split
  · rfl
  · exact State.trace_ledger ..

theorem State.shown_fixed (e u : State) (d : Desc) : (e.shown u d).fixed = u.fixed := by
  unfold State.shown
  split
  · rfl
  · exact State.trace_fixed ..

section
variable {s u : State} {n q : Nat} {d : Desc}

theorem State.admitCmd_of_run (hc : (s.entered n q d).checks n d = none)
    (hu : (s.began n q d).start (s.soleCmd n q d).own d = .run u) :
    (s.entered n q d).admitCmd (s.soleCmd n q d) = (s.entered n q d).shown u d := by
  unfold State.began at hu
  have hc' : (s.entered n q d).checks (s.soleCmd n q d).own.rider (s.soleCmd n q d).desc = none := hc
  simp only [State.admitCmd, hc']
  rw [show (s.soleCmd n q d).desc = d from rfl, hu]
  rfl

/-- A fenced command that waits alone, and for none of its ring, is admitted (R196). -/
theorem State.admitFenced_sole {e : State} {c : Cmd} (hrun : e.restarting 1 = false) (hsole : e.inStage .fenced = [c])
    (hturn : ∀ x ∈ e.link.cmds, x.own.order < c.own.order → x.own.rider = c.own.rider → x.own.sq = c.own.sq → x.open_ = false) :
    e.admitFenced = e.admitCmd c := by
  have hwaits : (e.link.cmds.any fun x => x.own.order < c.own.order && x.own.rider = c.own.rider && x.own.sq = c.own.sq && x.open_) = false := by
    rw [List.any_eq_false]
    intro x hx
    have h := hturn x hx
    simp only [Bool.and_eq_true, decide_eq_true_eq, not_and, Bool.not_eq_true]
    exact fun h1 => h h1.1.1 h1.1.2 h1.2
  rw [State.admitFenced, hrun, hsole, if_neg Bool.false_ne_true, List.foldl_cons, List.foldl_nil]
  exact if_neg (by rw [hwaits]; exact Bool.false_ne_true)

theorem State.fetching_of_visitOk {batch : List Desc} (h : s.visitOk n q batch = true) : s.fetching = true := by
  simp only [State.visitOk, Bool.and_eq_true] at h
  exact h.1.1.1

theorem State.entered_restarting (h : s.visitOk n q [d] = true) : (s.entered n q d).restarting 1 = false := by
  have hf := State.fetching_of_visitOk h
  rw [State.restarting, State.hub, State.hubs_of_fixed (State.entered_fixed ..)]
  simp only [State.fetching, Bool.and_eq_true, Bool.not_eq_true'] at hf
  exact hf.1.1.1.1.1.1

theorem State.unpaused_of_visitOk {batch : List Desc} (h : s.visitOk n q batch = true) : s.link.paused = false := by
  have hf := State.fetching_of_visitOk h
  simp only [State.fetching, Bool.and_eq_true, Bool.not_eq_true'] at hf
  exact hf.1.1.2

/-- A descriptor fetched alone that passes is admitted, at once or as its fence allows. -/
theorem State.accept_sole (h : Passes s n q d) : (s.fetchFrom n q 1).accept n q d = (s.entered n q d).admitCmd (s.soleCmd n q d) := by
  by_cases hfence : d.flags % 2 = 1
  · have hstage : (s.soleCmd n q d).stage = .fenced := if_pos hfence
    have hnone : s.link.cmds.filter (fun c => c.stage = .fenced) = [] := by simpa [List.filter_eq_nil_iff] using h.calm
    have hsole : (s.entered n q d).inStage .fenced = [s.soleCmd n q d] := by
      rw [State.inStage, State.entered_cmds, List.filter_append, hnone]
      simp [hstage]
    have hturn : ∀ x ∈ (s.entered n q d).link.cmds, x.own.order < (s.soleCmd n q d).own.order →
        x.own.rider = n → x.own.sq = q → x.open_ = false := by
      intro x hx hlt hrider hsq
      rw [State.entered_cmds, List.mem_append, List.mem_singleton] at hx
      obtain hx | rfl := hx
      · exact h.turn hfence x hx hrider hsq
      · exact absurd hlt (Nat.lt_irrefl _)
    have hadmit := State.admitFenced_sole (State.entered_restarting h.visit) hsole hturn
    rw [State.accept, if_pos hfence]
    exact hadmit
  · rw [State.accept, if_neg hfence]
    rfl

/-- The visit that fetches one descriptor which passes and whose effect leads to `u`. -/
theorem State.visitRing_of_run (h : Passes s n q d) (hu : (s.began n q d).start (s.soleCmd n q d).own d = .run u)
    (hf : ∀ c ∈ u.link.cmds, c.stage ≠ .fenced) : s.visitRing n q [d] = ((s.entered n q d).shown u d).visited := by
  have hall : (s.fetchFrom n q 1).acceptAll n q [d] = (s.entered n q d).shown u d := by
    have hp : (s.fetchFrom n q 1).link.paused = false :=
      (s.fetchFrom_linkRests n q 1).paused.trans (State.unpaused_of_visitOk h.visit)
    rw [State.acceptAll, hp, if_neg Bool.false_ne_true, State.acceptAll, State.accept_sole h, State.admitCmd_of_run h.checks hu]
  have hfenced : ((s.entered n q d).shown u d).admitFenced = (s.entered n q d).shown u d :=
    State.admitFenced_of_none (by rw [State.cmds_of_ledger (State.shown_ledger ..)]; exact hf)
  rw [State.visitRing, List.length_singleton, hall, hfenced]

/-! ### The next state of a command's row -/

/-- What a row leaves of the state to which its effect leads: the tables stand, and the control side but for the clock, the queue, the
tick number and the fuses, which are those of before. -/
theorem State.keepCmd_ledger (hf : ∀ c ∈ u.link.cmds, c.stage ≠ .fenced) : (State.keepCmd (fun _ => u) s).ledger = u.ledger := by
  have hfenced : (s.spreadStrokes u).admitFenced = s.spreadStrokes u :=
    State.admitFenced_of_none (by rw [State.cmds_of_ledger (State.spreadStrokes_ledger ..)]; exact hf)
  have hsettled : (State.settled (fun _ => u) s).ledger = u.ledger := by
    rw [State.settled, hfenced, State.settleChannels_ledger, State.spreadStrokes_ledger]
  exact hsettled

/-- Where a state is settled, its control side stands. -/
theorem State.settled_fixed (hf : ∀ c ∈ u.link.cmds, c.stage ≠ .fenced) : (State.settled (fun _ => u) s).fixed = u.fixed := by
  have hfenced : (s.spreadStrokes u).admitFenced = s.spreadStrokes u :=
    State.admitFenced_of_none (by rw [State.cmds_of_ledger (State.spreadStrokes_ledger ..)]; exact hf)
  rw [State.settled, hfenced, State.settleChannels_fixed, State.spreadStrokes_fixed]

end
end Sys2Proof.Machine

namespace Sys2Proof.Machine
open Sys2Proof

/-! ### The control side after a command's row -/

section
variable {s u t : State} {n q : Nat} {d : Desc}

/-- A part whose fuses may only have been burnt is as `State.keepCmd` leaves it. -/
theorem part_eq_of_sameFuses {p r : Part} (h : SameFuses p r) :
    { r with variant := p.variant, sealFuse := p.sealFuse || r.sealFuse, repairFuses := p.repairFuses, revoked := p.revoked,
             dieId := p.dieId, bootKeys := p.bootKeys } = r := by
  have hseal : (p.sealFuse || r.sealFuse) = r.sealFuse := by
    cases hp : p.sealFuse
    · exact Bool.false_or _
    · exact (h.sealed hp).symm
  rw [hseal, ← h.variant, ← h.repair, ← h.revoked, ← h.dieId, ← h.keys]

/-- No command waits for its ring's turn. -/
def State.Unfenced (s : State) : Prop := ∀ c ∈ s.link.cmds, c.stage ≠ .fenced

theorem State.keepCmd_fixed {w : Option Window} {p : Part} {b : Bool} (hf : u.Unfenced) (hp : SameFuses s.part p)
    (hu : u.fixed = { s.fixed with window := w, part := p, debug := b }) :
    (State.keepCmd (fun _ => u) s).fixed = { s.fixed with window := w, part := p, debug := b } := by
  have hset : (State.settled (fun _ => u) s).fixed = { s.fixed with window := w, part := p, debug := b } :=
    (State.settled_fixed hf).trans hu
  have hpart : (State.settled (fun _ => u) s).part = p := congrArg Fixed.part hset
  have htick : (State.settled (fun _ => u) s).tick = s.tick := congrArg Fixed.tick hset
  have hkept : (State.keepCmd (fun _ => u) s).fixed
      = { (State.settled (fun _ => u) s).fixed with
          pending := s.pending, now := s.now, tick := { (State.settled (fun _ => u) s).tick with number := s.tick.number },
          part := { (State.settled (fun _ => u) s).part with
            variant := s.part.variant, sealFuse := s.part.sealFuse || (State.settled (fun _ => u) s).part.sealFuse,
            repairFuses := s.part.repairFuses, revoked := s.part.revoked, dieId := s.part.dieId, bootKeys := s.part.bootKeys } } := rfl
  rw [hkept, hset, hpart, htick]
  dsimp only
  rw [part_eq_of_sameFuses hp]
  rfl

/-- The row of an opcode completes as the visit that fetches the descriptor. -/
theorem runOpcode_of_passes (h : Passes s n q d) {op : Nat} (hop : d.opcode = op) :
    runOpcode op n q d s = .next (State.keepCmd (fun _ => s.visitRing n q [d]) s) :=
  runCmdIf_alive _ _ _ h.alive (by simp [hop, h.visit])

/-- The row of an opcode whose effect leads to `u`: its next state has the tables and the control side of `u`. -/
theorem runOpcode_of_run (h : Passes s n q d) {op : Nat} (hop : d.opcode = op)
    (hu : (s.began n q d).start (s.soleCmd n q d).own d = .run u) (hf : u.Unfenced) {w : Option Window} {p : Part} {b : Bool}
    (hp : SameFuses s.part p) (hfix : u.fixed = { s.fixed with window := w, part := p, debug := b }) :
    ∃ t, runOpcode op n q d s = .next t ∧ t.ledger = u.ledger ∧ t.fixed = { s.fixed with window := w, part := p, debug := b } := by
  have hvisit : s.visitRing n q [d] = ((s.entered n q d).shown u d).visited := State.visitRing_of_run h hu hf
  have hledger : (((s.entered n q d).shown u d).visited).ledger = u.ledger := (State.visited_ledger _).trans (State.shown_ledger ..)
  have hfenced : (((s.entered n q d).shown u d).visited).Unfenced := by
    rw [State.Unfenced, State.cmds_of_ledger hledger]
    exact hf
  refine ⟨State.keepCmd (fun _ => ((s.entered n q d).shown u d).visited) s, ?_, ?_, ?_⟩
  · rw [runOpcode_of_passes h hop, hvisit]
  · exact (State.keepCmd_ledger hfenced).trans hledger
  · exact State.keepCmd_fixed hfenced hp (((State.visited_fixed _).trans (State.shown_fixed ..)).trans hfix)

/-- As `runOpcode_of_run`, where the effect leaves the control side as it is. -/
theorem runOpcode_of_run_fixed (h : Passes s n q d) {op : Nat} (hop : d.opcode = op)
    (hu : (s.began n q d).start (s.soleCmd n q d).own d = .run u) (hf : u.Unfenced) (hfix : u.fixed = s.fixed) :
    ∃ t, runOpcode op n q d s = .next t ∧ t.ledger = u.ledger ∧ t.fixed = s.fixed :=
  runOpcode_of_run h hop hu hf (SameFuses.refl _) hfix

/-! ### Stages and outcomes (R198, R207) -/

theorem State.setCmd_unfenced (hs : s.Unfenced) (order : Nat) {f : Cmd → Cmd} (hf : ∀ c, (f c).stage ≠ .fenced) :
    (s.setCmd order f).Unfenced := by
  intro c hc
  obtain ⟨c', hc', rfl⟩ := List.mem_map.1 hc
  split
  · exact hf c'
  · exact hs c' hc'

theorem State.stageTo_unfenced (hs : s.Unfenced) (o : Owner) {st : CmdStage} (hst : st ≠ .fenced) : (s.stageTo o st).Unfenced :=
  State.setCmd_unfenced hs _ fun _ => hst

theorem State.decide_unfenced (hs : s.Unfenced) (order status result : Nat) : (s.decide order status result).Unfenced := by
  unfold State.decide
  split
  · exact hs
  · split
    · exact State.setCmd_unfenced (s := s) hs order (f := fun c => { c with stage := .decided, status := status, result := result })
        fun _ => CmdStage.noConfusion
    · exact hs

theorem State.Unfenced.of_cmds (hs : s.Unfenced) (h : t.link.cmds = s.link.cmds) : t.Unfenced := by
  rw [State.Unfenced, h]
  exact hs

theorem State.stageTo_newCmdAt {e : State} {o : Owner} {st : CmdStage} (ho : o.order = s.link.accepted)
    (hc : ∃ c ∈ e.link.cmds, c.own.order = o.order) : NewCmdAt s (e.stageTo o st) st := by
  obtain ⟨c, hc, horder⟩ := hc
  refine ⟨{ c with stage := st }, List.mem_map.2 ⟨c, hc, if_pos horder⟩, horder.trans ho, rfl⟩

/-- An open command's outcome: the first of its number is decided in the journal, and its FINAL is produced. -/
theorem State.decide_open {order : Nat} {c : Cmd} (hc : s.cmd order = some c) (ho : c.open_ = true) (status result : Nat) :
    (s.decide order status result).ledger
      = { s.ledger with
          jnl := s.jnl.finish c.pos s.tick.number status result
          cmds := s.link.cmds.map fun c => if c.own.order = order then { c with stage := .decided, status := status, result := result } else c
          entries := s.link.entries ++
            [{ rider := c.own.rider, sq := c.own.sq, cq := c.own.cq, order := c.own.order, tag := c.own.tag, seq := c.own.seq,
               epoch := c.own.epoch, code := c.desc.opcode, kind := .final, status := status, result := result % 2 ^ 32,
               payload := [], obj := 0, region := none, tick := none }] } := by
  rw [State.decide, hc]
  simp only [ho, if_true]
  rfl

/-! ### The state in which an effect begins -/

theorem State.soleCmd_order (s : State) (n q : Nat) (d : Desc) : (s.soleCmd n q d).own.order = s.link.accepted :=
  (s.fetchFrom_linkRests n q 1).accepted

theorem State.admitted_ledger (e : State) (op : Nat) : (if e.privileged op then e.useWindow else e).ledger = e.ledger := by
  split
  · exact e.useWindow_ledger
  · rfl

theorem State.began_cmds (s : State) (n q : Nat) (d : Desc) :
    (s.began n q d).link.cmds = (s.link.cmds ++ [s.soleCmd n q d]).map fun c =>
      if c.own.order = s.link.accepted then { c with stage := .running } else c := by
  rw [← State.soleCmd_order s n q d, ← State.entered_cmds, ← State.cmds_of_ledger (State.admitted_ledger (s.entered n q d) d.opcode)]
  rfl

theorem State.began_newCmdAt (s : State) (n q : Nat) (d : Desc) : NewCmdAt s (s.began n q d) .running := by
  rw [NewCmdAt, State.began_cmds]
  exact ⟨{ s.soleCmd n q d with stage := .running },
    List.mem_map.2 ⟨s.soleCmd n q d, by simp, if_pos (State.soleCmd_order ..)⟩, State.soleCmd_order .., rfl⟩

theorem State.began_unfenced (h : Passes s n q d) : (s.began n q d).Unfenced := by
  intro c hc
  rw [State.began_cmds] at hc
  obtain ⟨x, hx, rfl⟩ := List.mem_map.1 hc
  split
  · exact CmdStage.noConfusion
  · rename_i hne
    obtain hx | hx := List.mem_append.1 hx
    · exact h.calm x hx
    · rw [List.mem_singleton.1 hx, State.soleCmd_order] at hne
      exact absurd rfl hne

/-- The first command of the new number is open; it is the new one where no other has that number. -/
theorem State.began_cmd (s : State) (n q : Nat) (d : Desc) : ∃ c, (s.began n q d).cmd s.link.accepted = some c ∧ c.open_ = true
    ∧ ((∀ x ∈ s.link.cmds, x.own.order ≠ s.link.accepted) → c = { s.soleCmd n q d with stage := .running }) := by
  have hsome : ((s.began n q d).cmd s.link.accepted).isSome = true := by
    obtain ⟨c, hc, horder, -⟩ := s.began_newCmdAt n q d
    exact List.find?_isSome.2 ⟨c, hc, by simpa using horder⟩
  obtain ⟨c, hc⟩ := Option.isSome_iff_exists.1 hsome
  have horder : c.own.order = s.link.accepted := by simpa using List.find?_some hc
  have hmem := List.mem_of_find?_eq_some hc
  rw [State.began_cmds] at hmem
  obtain ⟨x, hx, rfl⟩ := List.mem_map.1 hmem
  have hxorder : x.own.order = s.link.accepted := by
    split at horder <;> exact horder
  rw [if_pos hxorder] at hc
  refine ⟨_, hc, rfl, fun hnew => ?_⟩
  obtain hx | hx := List.mem_append.1 hx
  · exact absurd hxorder (hnew x hx)
  · rw [List.mem_singleton.1 hx]

/-- A command that is decided as its effect runs has its FINAL (R198). -/
theorem newFinal_of_decide {status result : Nat} (hc : u.link.cmds = (s.began n q d).link.cmds)
    (ht : t.ledger = (u.decide (s.soleCmd n q d).own.order status result).ledger) : NewFinal s t n d status result := by
  obtain ⟨c, hcmd, hopen, hnew⟩ := s.began_cmd n q d
  have hcmd' : u.cmd s.link.accepted = some c := by rw [State.cmd, hc]; exact hcmd
  rw [State.soleCmd_order, State.decide_open hcmd' hopen] at ht
  have hmem := List.mem_of_find?_eq_some hcmd'
  have horder : c.own.order = s.link.accepted := by simpa using List.find?_some hcmd'
  refine ⟨⟨{ c with stage := .decided, status := status, result := result }, ?_, horder, rfl⟩, fun hall => ?_⟩
  · rw [show t.link.cmds = _ from congrArg Ledger.cmds ht]
    exact List.mem_map.2 ⟨c, hmem, if_pos horder⟩
  · obtain rfl := hnew hall
    rw [show t.link.entries = _ from congrArg Ledger.entries ht]
    exact ⟨_, List.mem_append_right _ (List.mem_singleton.2 rfl), horder, rfl, rfl, rfl, rfl, rfl, rfl⟩

end
end Sys2Proof.Machine

namespace Sys2Proof.Machine
open Sys2Proof

section
variable {s u v t : State} {n q : Nat} {d : Desc}

/-! ### The presence window (R213) -/

/-- The window with one more privileged command used. -/
def State.usedWindow (s : State) : Option Window := s.window.map fun w => { w with used := w.used + 1 }

theorem State.useWindow_fixed (s : State) : s.useWindow.fixed = { s.fixed with window := s.usedWindow } := by
  unfold State.useWindow State.usedWindow
  cases hw : s.window with
  | none => exact congrArg (fun w => { s.fixed with window := w }) hw
  | some w => exact (State.raiseBit_fixed ..).trans (State.count_fixed ..)

theorem State.privileged_of_part (h : t.part = s.part) (op : Nat) : t.privileged op = s.privileged op := by
  rw [State.privileged, h, State.privileged]

theorem State.began_fixed_of_plain (h : s.privileged d.opcode = false) : (s.began n q d).fixed = s.fixed := by
  have he := s.entered_fixed n q d
  rw [State.began, State.stageTo_fixed, State.privileged_of_part (State.part_of_fixed he), h]
  exact he

theorem State.began_fixed_of_privileged (h : s.privileged d.opcode = true) :
    (s.began n q d).fixed = { s.fixed with window := s.usedWindow } := by
  have he := s.entered_fixed n q d
  rw [State.began, State.stageTo_fixed, State.privileged_of_part (State.part_of_fixed he), if_pos h, State.useWindow_fixed, he,
    State.usedWindow, State.window_of_fixed he]
  rfl

/-! ### Commands decided as they are admitted (R195 to R197) -/

/-- The row of an opcode that is decided, with status 0, once its effect has made the state `v`. -/
theorem runOpcode_of_done (h : Passes s n q d) {op r : Nat} (hop : d.opcode = op)
    (hs : (s.began n q d).start (s.soleCmd n q d).own d = v.done (s.soleCmd n q d).own r)
    (hc : v.link.cmds = (s.began n q d).link.cmds) {w : Option Window} {p : Part} {b : Bool}
    (hp : SameFuses s.part p) (hfix : v.fixed = { s.fixed with window := w, part := p, debug := b }) :
    ∃ t, runOpcode op n q d s = .next t ∧ NewFinal s t n d 0 r ∧ t.fixed = { s.fixed with window := w, part := p, debug := b }
      ∧ t.ledger = (v.decide (s.soleCmd n q d).own.order 0 r).ledger := by
  obtain ⟨t, hrow, hledger, htfix⟩ := runOpcode_of_run h hop hs
    (State.decide_unfenced ((State.began_unfenced h).of_cmds hc) _ _ _) hp ((State.decide_fixed ..).trans hfix)
  exact ⟨t, hrow, newFinal_of_decide hc hledger, htfix, hledger⟩

/-- As `runOpcode_of_done`, where the effect leaves the control side as it is. -/
theorem runOpcode_of_done_fixed (h : Passes s n q d) {op r : Nat} (hop : d.opcode = op)
    (hs : (s.began n q d).start (s.soleCmd n q d).own d = v.done (s.soleCmd n q d).own r)
    (hc : v.link.cmds = (s.began n q d).link.cmds) (hfix : v.fixed = s.fixed) :
    ∃ t, runOpcode op n q d s = .next t ∧ NewFinal s t n d 0 r ∧ t.fixed = s.fixed
      ∧ t.ledger = (v.decide (s.soleCmd n q d).own.order 0 r).ledger :=
  runOpcode_of_done h hop hs hc (SameFuses.refl _) hfix

/-- The debug port and the part after SEAL_BURN (R215). -/
theorem State.burnSeal_fixed (s : State) :
    s.burnSeal.fixed = { s.fixed with part := { s.part with sealFuse := true }, debug := s.debug && s.part.sealFuse } := by
  unfold State.burnSeal
  cases hseal : s.part.sealFuse with
  | false =>
    rw [Bool.and_false]
    rfl
  | true =>
    have hpart : { s.part with sealFuse := true } = s.part := by rw [← hseal]
    rw [hpart, Bool.and_true]
    rfl

theorem State.burnSeal_link (s : State) : s.burnSeal.link = s.link := by
  unfold State.burnSeal
  split <;> rfl

/-! ### The erasure of the journal (R209) -/

/-- A stored entry stands at the position that the search finds; nothing else is new. -/
theorem Journal.mem_store {j : Journal} {e : JEntry} {x : Nat × JEntry} (h : x ∈ (j.store e).pos) :
    x.1 = j.slot Journal.size j.write ∧ x.2.type = e.type ∨ x ∈ j.pos := by
  rw [Journal.store_pos] at h
  obtain rfl | h := Tab.mem_insert h
  · exact .inl ⟨rfl, rfl⟩
  · exact .inr (Tab.mem_erase h).1

theorem Journal.mem_finish {j : Journal} {p : Nat} {tick : DWord} {status result : Nat} {x : Nat × JEntry}
    (h : x ∈ (j.finish p tick status result).pos) : x.1 = p ∨ x ∈ j.pos := by
  unfold Journal.finish at h
  split at h
  · exact .inr h
  · obtain rfl | h := Tab.mem_insert h
    · exact .inl rfl
    · exact .inr (Tab.mem_erase h).1

/-- Of the entries that an erasure leaves, those of before are pending; the other records it. -/
theorem State.mem_eraseJournal {x : Nat × JEntry} (h : x ∈ s.eraseJournal.1.jnl.pos) :
    x.2.type = 0x18 ∨ (x ∈ s.jnl.pos ∧ x.2.pending = true) := by
  unfold State.eraseJournal at h
  dsimp only at h
  rw [State.raiseBit_jnl] at h
  obtain ⟨-, htype⟩ | h := Journal.mem_store h
  · exact .inl htype
  · exact .inr (List.mem_filter.1 h)

theorem State.eraseJournal_link_cmds (s : State) : s.eraseJournal.1.link.cmds = s.link.cmds := by
  rw [State.eraseJournal]
  exact (State.raiseBit_linkRests ..).cmds.trans (congrArg Link.cmds (State.journal_link ..))

theorem State.began_jnl (s : State) (n q : Nat) (d : Desc) :
    (s.began n q d).jnl = ((s.fetchFrom n q 1).listed n q d).jnl := by
  have hadmit := State.jnl_of_ledger (State.admitted_ledger (s.entered n q d) d.opcode)
  exact hadmit.trans (State.jnl_of_ledger (State.enter_ledger ..))

theorem State.began_bufs (s : State) (n q : Nat) (d : Desc) : (s.began n q d).link.bufs = s.link.bufs := by
  have hadmit := State.bufs_of_ledger (State.admitted_ledger (s.entered n q d) d.opcode)
  have henter := State.bufs_of_ledger ((s.fetchFrom n q 1).enter_ledger n q d)
  exact hadmit.trans (henter.trans (s.fetchFrom_linkRests n q 1).bufs)

theorem State.mem_began_jnl {x : Nat × JEntry} (h : x ∈ (s.began n q d).jnl.pos) :
    x.1 = s.jnl.slot Journal.size s.jnl.write ∨ x ∈ s.jnl.pos := by
  rw [State.began_jnl] at h
  have hj := State.jnl_of_ledger (s.fetchFrom_ledger n q 1)
  obtain ⟨h, -⟩ | h := Journal.mem_store h
  · exact .inl (hj ▸ h)
  · exact .inr (hj ▸ h)

/-- What stands in the journal once an erasure is decided: pending entries of before, the record of the erasure, its own entry. -/
theorem erased_of_decide (hnew : ∀ c ∈ s.link.cmds, c.own.order ≠ s.link.accepted) {status result : Nat}
    (ht : t.ledger = ((s.began n q d).eraseJournal.1.decide (s.soleCmd n q d).own.order status result).ledger) :
    ∀ x ∈ t.jnl.pos, (x ∈ s.jnl.pos ∧ x.2.pending = true) ∨ x.2.type = 0x18 ∨ x.1 = s.jnl.slot Journal.size s.jnl.write := by
  intro x hx
  obtain ⟨c, hcmd, hopen, hown⟩ := s.began_cmd n q d
  obtain rfl := hown hnew
  have hcmd' : (s.began n q d).eraseJournal.1.cmd s.link.accepted = some { s.soleCmd n q d with stage := .running } := by
    rw [State.cmd, State.eraseJournal_link_cmds]
    exact hcmd
  rw [State.soleCmd_order, State.decide_open hcmd' hopen] at ht
  rw [show t.jnl = _ from congrArg Ledger.jnl ht] at hx
  have hpos : (s.soleCmd n q d).pos = s.jnl.slot Journal.size s.jnl.write := by
    rw [State.soleCmd, State.newCmd, State.jnl_of_ledger (s.fetchFrom_ledger n q 1)]
  obtain hx | hx := Journal.mem_finish hx
  · exact .inr (.inr (hx.trans hpos))
  · obtain htype | ⟨hx, hpend⟩ := State.mem_eraseJournal hx
    · exact .inr (.inl htype)
    · obtain hx | hx := State.mem_began_jnl hx
      · exact .inr (.inr hx)
      · exact .inl ⟨hx, hpend⟩

end

/-! ### The effect of each opcode (Table 7-3) -/

section
variable (s : State) (o : Owner) {d : Desc}

theorem State.start_nop (h : d.opcode = 0x00) : s.start o d = s.done o 0 := by rw [State.start, h]; rfl
theorem State.start_jnlMark (h : d.opcode = 0x01) : s.start o d = s.done o (d.opnd 0x20 4) := by rw [State.start, h]; rfl
theorem State.start_outRebind (h : d.opcode = 0x02) : s.start o d = .run s := by rw [State.start, h]; rfl
theorem State.start_strOpen (h : d.opcode = 0x30) : s.start o d = s.startOpen o d := by rw [State.start, h]; rfl
theorem State.start_strClose (h : d.opcode = 0x31) : s.start o d = s.startClose o d := by rw [State.start, h]; rfl
theorem State.start_strExport (h : d.opcode = 0x32) : s.start o d = s.startExport o d := by rw [State.start, h]; rfl
theorem State.start_seqSubmit (h : d.opcode = 0x40) : s.start o d = s.startSubmit o d := by rw [State.start, h]; rfl
theorem State.start_seqAppend (h : d.opcode = 0x41) : s.start o d = s.startAppend o d := by rw [State.start, h]; rfl
theorem State.start_seqCancel (h : d.opcode = 0x42) : s.start o d = s.startCancel o d := by rw [State.start, h]; rfl
theorem State.start_lnkAudSet (h : d.opcode = 0x50) : s.start o d = s.startAudSet o d := by rw [State.start, h]; rfl
theorem State.start_tanPair (h : d.opcode = 0x60) : s.start o d = s.startPair o d := by rw [State.start, h]; rfl
theorem State.start_migrate (h : d.opcode = 0x61) : s.start o d = s.startMigrate o d := by rw [State.start, h]; rfl
theorem State.start_jnlErase (h : d.opcode = 0x70) : s.start o d = s.eraseJournal.1.done o s.eraseJournal.2 := by
  rw [State.start, h]; rfl
theorem State.start_sigPolicy (h : d.opcode = 0x71) :
    s.start o d = ({ s with part := { s.part with sigPolicy := d.opnd 0x20 4 } }).done o 0 := by rw [State.start, h]; rfl
theorem State.start_privPolicy (h : d.opcode = 0x72) :
    s.start o d = ({ s with part := { s.part with privPolicy := d.opnd 0x20 4 } }).done o 0 := by rw [State.start, h]; rfl
theorem State.start_debugUnlock (h : d.opcode = 0x73) : s.start o d = ({ s with debug := s.debug || s.part.sealFuse }).done o 0 := by
  rw [State.start, h]; rfl
theorem State.start_sealBurn (h : d.opcode = 0x74) : s.start o d = s.burnSeal.done o 0 := by rw [State.start, h]; rfl

end

/-! ### The short commands -/

section
variable {s : State} {n q : Nat} {d : Desc}

theorem nop_row (h : Passes s n q d) (hop : d.opcode = 0x00) :
    ∃ t, exec (.nop n q d) s = .next t ∧ NewFinal s t n d 0 0 ∧ t.fixed = s.fixed := by
  have hplain : s.privileged d.opcode = false := by rw [hop]; rfl
  obtain ⟨t, hrow, hfinal, hfix, -⟩ :=
    runOpcode_of_done_fixed h hop (State.start_nop _ _ hop) rfl (State.began_fixed_of_plain hplain)
  exact ⟨t, hrow, hfinal, hfix⟩

theorem jnlMark_row (h : Passes s n q d) (hop : d.opcode = 0x01) :
    ∃ t, exec (.jnlMark n q d) s = .next t ∧ NewFinal s t n d 0 (d.opnd 0x20 4) ∧ t.fixed = s.fixed := by
  have hplain : s.privileged d.opcode = false := by rw [hop]; rfl
  obtain ⟨t, hrow, hfinal, hfix, -⟩ :=
    runOpcode_of_done_fixed h hop (State.start_jnlMark _ _ hop) rfl (State.began_fixed_of_plain hplain)
  exact ⟨t, hrow, hfinal, hfix⟩

theorem outRebind_row (h : Passes s n q d) (hop : d.opcode = 0x02) :
    ∃ t, exec (.outRebind n q d) s = .next t ∧ NewCmdAt s t .running ∧ t.fixed = s.fixed ∧ t.link.bufs = s.link.bufs := by
  have hplain : s.privileged d.opcode = false := by rw [hop]; rfl
  obtain ⟨t, hrow, hledger, hfix⟩ := runOpcode_of_run_fixed h hop (State.start_outRebind _ _ hop) (State.began_unfenced h)
    (State.began_fixed_of_plain hplain)
  refine ⟨t, hrow, ?_, hfix, ?_⟩
  · rw [NewCmdAt, State.cmds_of_ledger hledger]
    exact State.began_newCmdAt s n q d
  · rw [State.bufs_of_ledger hledger, State.began_bufs]

theorem jnlErase_row (h : Passes s n q d) (hop : d.opcode = 0x70) :
    ∃ t, exec (.jnlErase n q d) s = .next t ∧ NewCmdAt s t .decided ∧ t.fixed = { s.fixed with window := s.usedWindow }
      ∧ ((∀ c ∈ s.link.cmds, c.own.order ≠ s.link.accepted) →
        ∀ x ∈ t.jnl.pos, (x ∈ s.jnl.pos ∧ x.2.pending = true) ∨ x.2.type = 0x18 ∨ x.1 = s.jnl.slot Journal.size s.jnl.write) := by
  have hpriv : s.privileged d.opcode = true := by rw [hop]; rfl
  have hfixed : (s.began n q d).eraseJournal.1.fixed = { s.fixed with window := s.usedWindow } :=
    (State.eraseJournal_fixed _).trans (State.began_fixed_of_privileged hpriv)
  obtain ⟨t, hrow, hfinal, hfix, hledger⟩ :=
    runOpcode_of_done h hop (State.start_jnlErase _ _ hop) (State.eraseJournal_link_cmds _) (SameFuses.refl _) hfixed
  exact ⟨t, hrow, hfinal.1, hfix, fun hnew => erased_of_decide hnew hledger⟩

/-- A privileged command that changes settings of the part. -/
theorem runOpcode_of_policy (h : Passes s n q d) {op : Nat} (hop : d.opcode = op) (hpriv : s.privileged d.opcode = true) (f : Part → Part)
    (hs : (s.began n q d).start (s.soleCmd n q d).own d
      = State.done { s.began n q d with part := f (s.began n q d).part } (s.soleCmd n q d).own 0) (hp : SameFuses s.part (f s.part)) :
    ∃ t, runOpcode op n q d s = .next t ∧ NewFinal s t n d 0 0 ∧ t.fixed = { s.fixed with window := s.usedWindow, part := f s.part } := by
  have hbegan : (s.began n q d).fixed = { s.fixed with window := s.usedWindow } := State.began_fixed_of_privileged hpriv
  have hset : State.fixed { s.began n q d with part := f (s.began n q d).part }
      = { s.fixed with window := s.usedWindow, part := f s.part } := congrArg (fun x : Fixed => { x with part := f x.part }) hbegan
  obtain ⟨t, hrow, hfinal, hfix, -⟩ := runOpcode_of_done h hop hs rfl hp hset
  exact ⟨t, hrow, hfinal, hfix⟩

theorem sigPolicy_row (h : Passes s n q d) (hop : d.opcode = 0x71) :
    ∃ t, exec (.sigPolicy n q d) s = .next t ∧ NewFinal s t n d 0 0
      ∧ t.fixed = { s.fixed with window := s.usedWindow, part := { s.part with sigPolicy := d.opnd 0x20 4 } } :=
  runOpcode_of_policy h hop (by rw [hop]; rfl) (fun p => { p with sigPolicy := d.opnd 0x20 4 }) (State.start_sigPolicy _ _ hop)
    ⟨rfl, rfl, rfl, rfl, rfl, id⟩

theorem privPolicy_row (h : Passes s n q d) (hop : d.opcode = 0x72) :
    ∃ t, exec (.privPolicy n q d) s = .next t ∧ NewFinal s t n d 0 0
      ∧ t.fixed = { s.fixed with window := s.usedWindow, part := { s.part with privPolicy := d.opnd 0x20 4 } } :=
  runOpcode_of_policy h hop (by rw [hop]; rfl) (fun p => { p with privPolicy := d.opnd 0x20 4 }) (State.start_privPolicy _ _ hop)
    ⟨rfl, rfl, rfl, rfl, rfl, id⟩

/-- DEBUG_UNLOCK is privileged where the part is sealed; there it opens the debug port. -/
theorem debugUnlock_row (h : Passes s n q d) (hop : d.opcode = 0x73) :
    ∃ t, exec (.debugUnlock n q d) s = .next t ∧ NewFinal s t n d 0 0
      ∧ t.fixed = { s.fixed with window := if s.part.sealFuse then s.usedWindow else s.window, debug := s.debug || s.part.sealFuse } := by
  have hbegan : (s.began n q d).fixed = { s.fixed with window := if s.part.sealFuse then s.usedWindow else s.window } := by
    cases hseal : s.part.sealFuse with
    | true => exact State.began_fixed_of_privileged (by simp [State.privileged, hop, hseal])
    | false => exact State.began_fixed_of_plain (by simp [State.privileged, hop, hseal])
  have hset : State.fixed { s.began n q d with debug := (s.began n q d).debug || (s.began n q d).part.sealFuse }
      = { s.fixed with window := if s.part.sealFuse then s.usedWindow else s.window, debug := s.debug || s.part.sealFuse } :=
    congrArg (fun f : Fixed => { f with debug := f.debug || f.part.sealFuse }) hbegan
  obtain ⟨t, hrow, hfinal, hfix, -⟩ := runOpcode_of_done h hop (State.start_debugUnlock _ _ hop) rfl (SameFuses.refl _) hset
  exact ⟨t, hrow, hfinal, hfix⟩

theorem sealBurn_row (h : Passes s n q d) (hop : d.opcode = 0x74) :
    ∃ t, exec (.sealBurn n q d) s = .next t ∧ NewFinal s t n d 0 0
      ∧ t.fixed = { s.fixed with window := s.usedWindow, part := { s.part with sealFuse := true }, debug := s.debug && s.part.sealFuse } := by
  have hpriv : s.privileged d.opcode = true := by rw [hop]; rfl
  have hbegan : (s.began n q d).fixed = { s.fixed with window := s.usedWindow } := State.began_fixed_of_privileged hpriv
  have hset : (s.began n q d).burnSeal.fixed
      = { s.fixed with window := s.usedWindow, part := { s.part with sealFuse := true }, debug := s.debug && s.part.sealFuse } :=
    (State.burnSeal_fixed _).trans
      (congrArg (fun f : Fixed => { f with part := { f.part with sealFuse := true }, debug := f.debug && f.part.sealFuse }) hbegan)
  have hfuses : SameFuses s.part { s.part with sealFuse := true } := ⟨rfl, rfl, rfl, rfl, rfl, fun _ => rfl⟩
  obtain ⟨t, hrow, hfinal, hfix, -⟩ := runOpcode_of_done h hop (State.start_sealBurn _ _ hop)
    (congrArg Link.cmds (State.burnSeal_link _)) hfuses hset
  exact ⟨t, hrow, hfinal, hfix⟩

end

/-- Settles O47: each row is the visit that admits its command, whose effect the opcode's equation gives. -/
theorem shortCommands : Obligations.ShortCommands := fun _ _ _ _ h =>
  ⟨nop_row h, jnlMark_row h, outRebind_row h, jnlErase_row h, sigPolicy_row h, privPolicy_row h, debugUnlock_row h, sealBurn_row h⟩

end Sys2Proof.Machine

namespace Sys2Proof.Machine
open Sys2Proof

/-! ### What an admitted command finds (R191)

The fetch and the acceptance of a descriptor touch registers, the host link, the journal, the window and what is sent and traced; the
objects that a command acts on stand as before. -/

/-- `t` differs from `s` in those at most. -/
def State.SameButCmd (s t : State) : Prop :=
  t = { s with regs := t.regs, link := t.link, out := t.out, trc := t.trc, jnl := t.jnl, window := t.window }

section
variable {s t u : State}

theorem State.SameButCmd.trans (h : State.SameButCmd s t) (k : State.SameButCmd t u) : State.SameButCmd s u := by
  unfold State.SameButCmd at *
  rw [k, h]

theorem State.SameBut4.butCmd (h : State.SameBut4 s t) : State.SameButCmd s t := by
  unfold State.SameBut4 at h
  unfold State.SameButCmd
  rw [h]

section
variable (h : State.SameButCmd s t)
include h

theorem State.SameButCmd.now : t.now = s.now := by rw [show t = _ from h]
theorem State.SameButCmd.prts : t.prts = s.prts := by rw [show t = _ from h]
theorem State.SameButCmd.streams : t.streams = s.streams := by rw [show t = _ from h]
theorem State.SameButCmd.seqs : t.seqs = s.seqs := by rw [show t = _ from h]
theorem State.SameButCmd.aud : t.aud = s.aud := by rw [show t = _ from h]
theorem State.SameButCmd.tan : t.tan = s.tan := by rw [show t = _ from h]
theorem State.SameButCmd.str (k : Nat) : t.str k = s.str k := by rw [State.str, h.streams, State.str]
theorem State.SameButCmd.seq (k : Nat) : t.seq k = s.seq k := by rw [State.seq, h.seqs, State.seq]
theorem State.SameButCmd.prt (p : Nat) : t.prt p = s.prt p := by rw [State.prt, h.prts, State.prt]
theorem State.SameButCmd.tport (p : Nat) : t.tport p = s.tport p := by rw [State.tport, h.tan, State.tport]
theorem State.SameButCmd.audPort (i : Nat) : t.audPort i = s.audPort i := by rw [State.audPort, h.aud, State.audPort]
theorem State.SameButCmd.slotOf (p : Nat) : t.slotOf p = s.slotOf p := by rw [State.slotOf, h.prt, State.slotOf]
theorem State.SameButCmd.graphOf (p : Nat) : t.graphOf p = s.graphOf p := by rw [show t = _ from h]; rfl
theorem State.SameButCmd.prtHomes (p : Nat) : t.prtHomes p = s.prtHomes p := by rw [show t = _ from h]; rfl
theorem State.SameButCmd.replacing (n : Nat) : t.replacing n = s.replacing n := by rw [show t = _ from h]; rfl
theorem State.SameButCmd.roomIn (p : Nat) : t.roomIn p = s.roomIn p := by rw [show t = _ from h]; rfl
theorem State.SameButCmd.findArea (l : List Nat) (k : Nat) : t.findArea l k = s.findArea l k := by rw [show t = _ from h]; rfl
theorem State.SameButCmd.prtOfHandle (a : Nat) : t.prtOfHandle a = s.prtOfHandle a := by rw [show t = _ from h]; rfl

end

theorem State.useWindow_same (s : State) : State.SameButCmd s s.useWindow := by
  unfold State.useWindow
  split
  · rfl
  · next w _ =>
    exact State.SameButCmd.trans (t := { s with window := some { w with used := w.used + 1 } }) rfl
      ((State.count_same ..).trans (State.raiseBit_same ..)).four.butCmd

theorem State.began_same (s : State) (n q : Nat) (d : Desc) : State.SameButCmd s (s.began n q d) := by
  have hlisted : State.SameButCmd s ((s.fetchFrom n q 1).listed n q d) := (State.fetchFrom_same ..).butCmd.trans rfl
  have hentered : State.SameButCmd s (s.entered n q d) := hlisted.trans (State.enter_same ..).butCmd
  have hadmitted : State.SameButCmd s (if (s.entered n q d).privileged d.opcode then (s.entered n q d).useWindow else s.entered n q d) := by
    split
    · exact hentered.trans (State.useWindow_same _)
    · exact hentered
  exact hadmitted.trans rfl

end

/-! ### Requests may still be issued (R165, R177) -/

theorem Word.bit_setFld_below (w : Word) : Word.bit (Word.setFld w 9 2 0) 0 = Word.bit w 0 := by
  have hw := w.isLt
  simp only [Word.bit, Word.setFld, Word.fld, bitsOf, BitVec.toNat_ofNat, Nat.testBit_zero]
  congr 1
  apply propext
  omega

theorem State.linkUp_setPm_zero (s : State) : (s.setPm 0).linkUp = s.linkUp := by
  unfold State.setPm
  split
  · rfl
  · rw [State.linkUp, State.bit, State.rd_congr (State.trace_regs ..) (State.trace_part ..), State.rd_setFld_same, Word.bit_setFld_below]
    rfl

theorem State.linkUp_of_rd {s t : State} (h : t.rd Reg.LNK_STATUS = s.rd Reg.LNK_STATUS) : t.linkUp = s.linkUp := by
  rw [State.linkUp, State.bit, h, State.linkUp, State.bit]

theorem State.linkUp_wakeLink (s : State) : s.wakeLink.linkUp = s.linkUp := by
  have hleave (u : State) (h : u.linkUp = s.linkUp) :
      (if u.fld Reg.LNK_STATUS 9 2 = 0 then u else (u.setPm 0).count Reg.LNK_L1_EXITS 1).linkUp = s.linkUp := by
    split
    · exact h
    · rw [State.linkUp_of_rd (State.rd_count_other _ _ _ _ (by decide) (by decide)), State.linkUp_setPm_zero, h]
  exact hleave { s with link := { s.link with idleSince := s.now } } rfl

/-- What decides whether a rider may issue requests. -/
structure State.Issues (s t : State) : Prop where
  fns : t.link.fns = s.link.fns
  pf : t.link.pf = s.link.pf
  resetting : t.link.resetting = s.link.resetting
  hostReset : t.link.hostReset = s.link.hostReset
  linkUp : t.linkUp = s.linkUp

section
variable {s t u : State}

theorem State.Issues.trans (h : State.Issues s t) (k : State.Issues t u) : State.Issues s u :=
  ⟨k.fns.trans h.fns, k.pf.trans h.pf, k.resetting.trans h.resetting, k.hostReset.trans h.hostReset, k.linkUp.trans h.linkUp⟩

theorem State.Issues.mayIssue (h : State.Issues s t) (n : Nat) : t.mayIssue n = s.mayIssue n := by
  simp only [State.mayIssue, State.riderExists, State.fn, h.fns, h.pf, h.resetting, h.hostReset, h.linkUp]

theorem State.LinkRests.issues (h : State.LinkRests s t) (hup : t.linkUp = s.linkUp) : State.Issues s t :=
  ⟨by rw [show t.link = _ from h], by rw [show t.link = _ from h], h.resetting, by rw [show t.link = _ from h], hup⟩

theorem State.linkUp_dmaRead (s : State) (n f addr len : Nat) : (s.dmaRead n f addr len).linkUp = s.linkUp := by
  unfold State.dmaRead
  split
  · exact State.linkUp_of_rd (s := s.wakeLink) rfl |>.trans s.linkUp_wakeLink
  · rfl

theorem State.linkUp_fetchFrom (s : State) (n q k : Nat) : (s.fetchFrom n q k).linkUp = s.linkUp := by
  unfold State.fetchFrom
  dsimp only
  refine (State.linkUp_of_rd rfl).trans ((State.linkUp_dmaRead ..).trans (State.linkUp_of_rd rfl))

theorem State.fetchFrom_issues (s : State) (n q k : Nat) : State.Issues s (s.fetchFrom n q k) :=
  (s.fetchFrom_linkRests n q k).issues (s.linkUp_fetchFrom n q k)

theorem State.enter_issues (s : State) (n q : Nat) (d : Desc) : State.Issues s (s.enter n q d) := by
  have hpause (u : State) (h : State.Issues s u) : State.Issues s
      (if u.pendingCmds ≥ 1024 && !u.link.paused then ({ u with link := { u.link with paused := true } }).raiseBit 0x006 3 else u) := by
    split
    · have hpaused : State.Issues u { u with link := { u.link with paused := true } } := ⟨rfl, rfl, rfl, rfl, rfl⟩
      exact h.trans (hpaused.trans ((State.raiseBit_linkRests ..).issues
        (State.linkUp_of_rd (State.rd_raiseBit_other _ _ _ _ (by decide)))))
    · exact h
  have hhead (w : Word) : State.Issues s ((s.listed n q d).wr (Reg.RDR_SQ_HEAD n q) w) :=
    ⟨rfl, rfl, rfl, rfl, State.linkUp_of_rd (State.rd_wr_other _ _ _ _ (by simp only [Reg.LNK_STATUS, Reg.RDR_SQ_HEAD]; omega))⟩
  exact hpause _ (hhead _)

theorem State.fetchable_of_visitOk {n q : Nat} {batch : List Desc} (h : s.visitOk n q batch = true) : s.fetchable n q = true := by
  simp only [State.visitOk, Bool.and_eq_true] at h
  have hmay : s.mayVisit n q = true := h.1.1.2
  unfold State.mayVisit at hmay
  split at hmay
  · exact hmay
  · have hnext : s.nextRing = some (n, q) := by simpa using hmay
    obtain ⟨i, hi, hpair⟩ := Option.map_eq_some_iff.1 hnext
    obtain ⟨rfl, rfl⟩ := Prod.mk.inj hpair
    have hfetch := List.find?_some hi
    exact hfetch

theorem State.stageTo_issues (e : State) (o : Owner) (st : CmdStage) : State.Issues e (e.stageTo o st) := ⟨rfl, rfl, rfl, rfl, rfl⟩

/-- An unprivileged command begins as soon as it has entered. -/
theorem State.began_of_plain {n q : Nat} {d : Desc} (hplain : s.privileged d.opcode = false) :
    s.began n q d = (s.entered n q d).stageTo (s.soleCmd n q d).own .running := by
  rw [State.began, State.privileged_of_part (State.part_of_fixed (s.entered_fixed n q d)), hplain]
  rfl

/-- The data of an unprivileged command can be read as it is admitted. -/
theorem State.began_mayIssue {n q : Nat} {d : Desc} (h : Passes s n q d) (hplain : s.privileged d.opcode = false) :
    (s.began n q d).mayIssue n = true := by
  have hfetch := State.fetchable_of_visitOk h.visit
  simp only [State.fetchable, Bool.and_eq_true] at hfetch
  have hissues : State.Issues s (s.entered n q d) := (s.fetchFrom_issues n q 1).trans (State.enter_issues ..)
  have hbegan : State.Issues s (s.began n q d) := by
    rw [State.began_of_plain hplain]
    exact hissues.trans (State.stageTo_issues ..)
  rw [hbegan.mayIssue]
  exact hfetch.1.2

end
end Sys2Proof.Machine

namespace Sys2Proof.Machine
open Sys2Proof

section
variable {s t u v : State} {n q : Nat} {d : Desc}

/-! ### Commands that change one entry of a table -/

theorem State.str_setStr_same (s : State) (k : Nat) (x : Stream) : (s.setStr k x).str k = some x := Tab.find_put_same ..
theorem State.str_setStr_other (s : State) (k : Nat) (x : Stream) {j : Nat} (h : j ≠ k) : (s.setStr k x).str j = s.str j :=
  Tab.find_put_other _ _ _ _ h
theorem State.seq_setSeq_same (s : State) (k : Nat) (x : Seq) : (s.setSeq k x).seq k = some x := Tab.find_put_same ..
theorem State.seq_setSeq_other (s : State) (k : Nat) (x : Seq) {j : Nat} (h : j ≠ k) : (s.setSeq k x).seq j = s.seq j :=
  Tab.find_put_other _ _ _ _ h

theorem State.str_of_ledger (h : t.ledger = s.ledger) (k : Nat) : t.str k = s.str k := by
  rw [State.str, State.streams_of_ledger h, State.str]

theorem State.seq_of_ledger (h : t.ledger = s.ledger) (k : Nat) : t.seq k = s.seq k := by
  rw [State.seq, State.seqs_of_ledger h, State.seq]

/-- The row of an unprivileged command whose effect replaces a stream's entry. -/
theorem runOpcode_of_setStr (h : Passes s n q d) {op : Nat} (hop : d.opcode = op) (hplain : s.privileged d.opcode = false) {k : Nat}
    {x : Stream} (hs : (s.began n q d).start (s.soleCmd n q d).own d = .run ((s.began n q d).setStr k x)) :
    ∃ t, runOpcode op n q d s = .next t ∧ t.fixed = s.fixed ∧ t.str k = some x ∧ ∀ j, j ≠ k → t.str j = s.str j := by
  obtain ⟨t, hrow, hledger, hfix⟩ := runOpcode_of_run_fixed h hop hs (State.began_unfenced h)
    ((State.setStr_fixed ..).trans (State.began_fixed_of_plain hplain))
  refine ⟨t, hrow, hfix, (State.str_of_ledger hledger k).trans (State.str_setStr_same ..), fun j hj => ?_⟩
  rw [State.str_of_ledger hledger, State.str_setStr_other _ _ _ hj, (s.began_same n q d).str]

/-- STR_CLOSE has its stream CLOSING (R343). -/
theorem strClose_row (h : Passes s n q d) (x : Stream) (hop : d.opcode = 0x31) (hx : s.str d.index = some x) (hst : x.st ≠ .closing)
    (hmig : x.migrating = false) : ∃ t, exec (.strClose n q d) s = .next t ∧ t.fixed = s.fixed
      ∧ t.str d.index = some { x with st := .closing, closing := some s.link.accepted, imp := none }
      ∧ ∀ j, j ≠ d.index → t.str j = s.str j := by
  have hx' : (s.began n q d).str d.index = some x := ((s.began_same n q d).str _).trans hx
  refine runOpcode_of_setStr h hop (by rw [hop]; rfl) ?_
  rw [State.start_strClose _ _ hop, State.startClose, hx', State.soleCmd_order]
  simp [hst, hmig]

/-- STR_EXPORT of a RUNNING stream is held for its edge (R362). -/
theorem strExport_row (h : Passes s n q d) (x : Stream) (hop : d.opcode = 0x32) (hx : s.str d.index = some x) (hst : x.st = .running) :
    ∃ t, exec (.strExport n q d) s = .next t ∧ t.fixed = s.fixed
      ∧ (∃ b, t.str d.index = some { x with exports := x.exports ++ [b] } ∧ b.order = s.link.accepted ∧ b.rider = n
          ∧ b.addr = d.outAddr ∧ b.len = d.outLen)
      ∧ ∀ j, j ≠ d.index → t.str j = s.str j := by
  have hx' : (s.began n q d).str d.index = some x := ((s.began_same n q d).str _).trans hx
  have hstart : (s.began n q d).start (s.soleCmd n q d).own d = .run ((s.began n q d).setStr d.index { x with exports := x.exports ++
      [{ order := s.link.accepted, rider := n, addr := d.outAddr, len := d.outLen, blob := none, code := none }] }) := by
    rw [State.start_strExport _ _ hop, State.startExport, hx', State.soleCmd_order]
    simp only [hst, ne_eq, not_true_eq_false, if_false]
    rfl
  obtain ⟨t, hrow, hfix, hstr, hother⟩ := runOpcode_of_setStr h hop (by rw [hop]; rfl) hstart
  exact ⟨t, hrow, hfix, ⟨_, hstr, rfl, rfl, rfl, rfl⟩, hother⟩

/-- SEQ_CANCEL is held for the edge (R396). -/
theorem seqCancel_row (h : Passes s n q d) (x : Seq) (hop : d.opcode = 0x42) (hx : s.seq d.index = some x) (hst : x.st ≠ .ending)
    (hcancel : x.cancel = none) (hmig : x.migrating = false) : ∃ t, exec (.seqCancel n q d) s = .next t ∧ t.fixed = s.fixed
      ∧ t.seq d.index = some { x with cancel := some s.link.accepted } ∧ ∀ j, j ≠ d.index → t.seq j = s.seq j := by
  have hplain : s.privileged d.opcode = false := by rw [hop]; rfl
  have hx' : (s.began n q d).seq d.index = some x := ((s.began_same n q d).seq _).trans hx
  have hstart : (s.began n q d).start (s.soleCmd n q d).own d
      = .run ((s.began n q d).setSeq d.index { x with cancel := some s.link.accepted }) := by
    rw [State.start_seqCancel _ _ hop, State.startCancel, hx', State.soleCmd_order]
    simp [hst, hcancel, hmig]
  obtain ⟨t, hrow, hledger, hfix⟩ := runOpcode_of_run_fixed h hop hstart (State.began_unfenced h)
    ((State.setSeq_fixed ..).trans (State.began_fixed_of_plain hplain))
  refine ⟨t, hrow, hfix, (State.seq_of_ledger hledger _).trans (State.seq_setSeq_same ..), fun j hj => ?_⟩
  rw [State.seq_of_ledger hledger, State.seq_setSeq_other _ _ _ hj, (s.began_same n q d).seq]

/-! ### LNK_AUD_SET (R489) -/

theorem State.audBusy_stageTo (e : State) (o : Owner) (st : CmdStage) (k dir rate c : Nat) :
    (e.stageTo o st).audBusy k dir rate c = e.audBusy k dir rate c := rfl

theorem State.decide_same (s : State) (order status result : Nat) : State.SameButCmd s (s.decide order status result) := by
  unfold State.decide
  split
  · rfl
  · split <;> rfl

/-- What the busy slots of a port depend on beside the audio settings stands while a command is brought to its start. -/
theorem State.audBusy_began (hplain : s.privileged d.opcode = false) (k dir rate c : Nat) :
    (s.began n q d).audBusy k dir rate c = (s.entered n q d).audBusy k dir rate c := by
  rw [State.began_of_plain hplain, State.audBusy_stageTo]

/-- The settings that a LNK_AUD_SET of rider `n` leaves. -/
def audSettings (d : Desc) (n : Nat) : AudPort :=
  { owner := n, dir := d.opnd 0x20 1, format := d.opnd 0x21 1, channels := d.opnd 0x22 1, rate := d.opnd 0x24 4, first := d.opnd 0x23 1,
    addr := d.dataAddr, area := d.dataLen - 64, devOff := 0, devLaps := 0, hostOff := 0, hostLaps := 0, starved := false, ahead := [] }

theorem State.startAudSet_of_free {o : Owner} {k : Nat}
    (hk : if d.index = anyIndex then (List.range 16).find? (fun j => (s.audPort j).isNone) = some k else k = d.index)
    (hfree : ∀ c ∈ d.audSlots, s.audBusy k (d.opnd 0x20 1) (d.opnd 0x24 4) c = false) :
    s.startAudSet o d = State.done { s with aud := { s.aud with
      setting := Tab.put s.aud.setting k (if d.dataLen = 0 then none else some (audSettings d o.rider)) } } o 0 := by
  have hindex : (if d.index = anyIndex then (List.range 16).find? fun i => (s.audPort i).isNone else some d.index) = some k := by
    split at hk
    · rw [if_pos (by assumption), hk]
    · rw [if_neg (by assumption), hk]
  have hany : d.audSlots.any (s.audBusy k (d.opnd 0x20 1) (d.opnd 0x24 4)) = false := by
    simpa [List.any_eq_false] using hfree
  rw [State.startAudSet, hindex]
  simp only [hany]
  rfl

theorem lnkAudSet_row (h : Passes s n q d) (k : Nat) (hop : d.opcode = 0x50)
    (hk : if d.index = anyIndex then (List.range 16).find? (fun j => (s.audPort j).isNone) = some k else k = d.index)
    (hfree : ∀ c ∈ d.audSlots, (s.entered n q d).audBusy k (d.opnd 0x20 1) (d.opnd 0x24 4) c = false) :
    ∃ t, exec (.lnkAudSet n q d) s = .next t ∧ t.fixed = s.fixed
      ∧ NewCmdAt s t .decided ∧ (d.dataLen = 0 → Tab.find t.aud.setting k = some none)
      ∧ (d.dataLen ≠ 0 → ∃ p, Tab.find t.aud.setting k = some (some p) ∧ p.owner = n ∧ p.dir = d.opnd 0x20 1
        ∧ p.format = d.opnd 0x21 1 ∧ p.channels = d.opnd 0x22 1 ∧ p.first = d.opnd 0x23 1 ∧ p.rate = d.opnd 0x24 4
        ∧ p.addr = d.dataAddr ∧ p.area = d.dataLen - 64) := by
  have hplain : s.privileged d.opcode = false := by rw [hop]; rfl
  have hk' : if d.index = anyIndex then (List.range 16).find? (fun j => ((s.began n q d).audPort j).isNone) = some k else k = d.index := by
    simpa only [(s.began_same n q d).audPort] using hk
  have hfree' : ∀ c ∈ d.audSlots, (s.began n q d).audBusy k (d.opnd 0x20 1) (d.opnd 0x24 4) c = false := fun c hc =>
    (State.audBusy_began hplain ..).trans (hfree c hc)
  obtain ⟨t, hrow, hfinal, hfix, hledger⟩ := runOpcode_of_done_fixed h hop
    ((State.start_lnkAudSet _ _ hop).trans (State.startAudSet_of_free hk' hfree')) rfl (State.began_fixed_of_plain hplain)
  have hset : Tab.find t.aud.setting k = some (if d.dataLen = 0 then none else some (audSettings d n)) := by
    rw [State.aud_of_ledger hledger, (State.decide_same ..).aud]
    exact Tab.find_put_same ..
  refine ⟨t, hrow, hfix, hfinal.1, fun h0 => ?_, fun h0 => ⟨audSettings d n, ?_, rfl, rfl, rfl, rfl, rfl, rfl, rfl, rfl⟩⟩
  · rw [hset, if_pos h0]
  · rw [hset, if_neg h0]

end
end Sys2Proof.Machine

namespace Sys2Proof.Machine
open Sys2Proof

section
variable {s t u : State} {n q : Nat} {d : Desc}

/-! ### TAN_PAIR (R445) -/

theorem State.tport_setTport (s : State) (p : Nat) (x : TanPort) : (s.setTport p x).tport p = x := Tab.get_putD_same ..

theorem State.tport_of_tan (h : t.tan = s.tan) (p : Nat) : t.tport p = s.tport p := by rw [State.tport, h, State.tport]

theorem TanPort.spend_req (x : TanPort) (m : TanMsg) : (x.spend m).req = x.req := by
  unfold TanPort.spend
  split
  · rfl
  · split <;> rfl
  · rfl

/-- Sending a flit leaves the partner's request as it is. -/
theorem State.pumpOne_req (s : State) (p : Nat) : ((s.pumpOne p).tport p).req = (s.tport p).req := by
  unfold State.pumpOne
  dsimp only
  split
  · rfl
  · split
    · split
      · rw [State.tport_setTport]
      · split
        · rw [State.tport_of_tan (State.emit_tan ..), State.tport_setTport, TanPort.spend_req]
        · rfl
    · split
      · rfl
      · split
        · rfl
        · rw [State.tport_of_tan (State.count48_tan ..), State.tport_of_tan (State.emit_tan ..), State.tport_setTport, TanPort.spend_req]

theorem State.pump_req (s : State) (p : Nat) : ((s.pump p).tport p).req = (s.tport p).req := by
  unfold State.pump
  generalize List.range _ = l
  induction l generalizing s with
  | nil => rfl
  | cons _ l ih => exact (ih _).trans (s.pumpOne_req p)

theorem State.tanSend_req (s : State) (p : Nat) (m : TanMsg) : ((s.tanSend p m).tport p).req = (s.tport p).req := by
  unfold State.tanSend
  split
  · split <;> rfl
  · rw [State.pump_req, State.modTport, State.tport_setTport]

/-- Without the partner's request nothing is matched. -/
theorem State.matchPair_of_no_req {p : Nat} (h : (s.tport p).req = none) : s.matchPair p = s := by
  unfold State.matchPair
  rw [h]
  split
  · next hreq => exact absurd hreq (by simp)
  · rfl

/-- The state with a pairing begun on a port. -/
def State.withPairing (s : State) (p chip order : Nat) : State :=
  { s with tan := { s.tan with pairing := s.tan.pairing ++ [{ port := p, chip := chip, order := order, since := s.now, agreed := false }] } }

theorem State.startPair_of_free {o : Owner} (hst : (s.tport (d.opnd 0x20 1)).st = .linked ∨ (s.tport (d.opnd 0x20 1)).st = .up)
    (hfree : ∀ x ∈ s.tan.pairing, x.port ≠ d.opnd 0x20 1) (hreq : (s.tport (d.opnd 0x20 1)).req = none) :
    s.startPair o d = .run ((s.withPairing (d.opnd 0x20 1) (d.opnd 0x21 1) o.order).tanSend (d.opnd 0x20 1)
      (.pairReq s.chip (d.opnd 0x21 1))) := by
  have hany : s.tan.pairing.any (fun x => x.port = d.opnd 0x20 1) = false := by
    rw [List.any_eq_false]
    simpa using hfree
  have hready : ¬ ((((s.tport (d.opnd 0x20 1)).st ≠ .linked && (s.tport (d.opnd 0x20 1)).st ≠ .up)
      || s.tan.pairing.any fun x => x.port = d.opnd 0x20 1) = true) := by
    rw [hany]
    obtain hst | hst := hst <;> simp [hst]
  have hmatch := State.matchPair_of_no_req (((s.withPairing (d.opnd 0x20 1) (d.opnd 0x21 1) o.order).tanSend_req (d.opnd 0x20 1)
    (.pairReq s.chip (d.opnd 0x21 1))).trans hreq)
  rw [State.startPair, if_neg hready, ← hmatch]
  rfl

theorem tanPair_row (h : Passes s n q d) (hop : d.opcode = 0x60)
    (hst : (s.tport (d.opnd 0x20 1)).st = .linked ∨ (s.tport (d.opnd 0x20 1)).st = .up)
    (hfree : ∀ x ∈ s.tan.pairing, x.port ≠ d.opnd 0x20 1) (hreq : (s.tport (d.opnd 0x20 1)).req = none) :
    ∃ t, exec (.tanPair n q d) s = .next t ∧ t.fixed = { s.fixed with window := s.usedWindow } ∧ t.tan.pairing = s.tan.pairing
      ++ [{ port := d.opnd 0x20 1, chip := d.opnd 0x21 1, order := s.link.accepted, since := s.now, agreed := false }] := by
  have hpriv : s.privileged d.opcode = true := by rw [hop]; rfl
  have hsame := s.began_same n q d
  have hstart := State.startPair_of_free (s := s.began n q d) (o := (s.soleCmd n q d).own) (d := d) (by rwa [hsame.tport])
    (by rwa [hsame.tan]) (by rwa [hsame.tport])
  rw [State.soleCmd_order, ← State.start_tanPair _ _ hop] at hstart
  have hledger := ((s.began n q d).withPairing (d.opnd 0x20 1) (d.opnd 0x21 1) s.link.accepted).tanSend_ledger (d.opnd 0x20 1)
    (.pairReq (s.began n q d).chip (d.opnd 0x21 1))
  have hcmds := State.cmds_of_ledger hledger
  obtain ⟨t, hrow, ht, hfix⟩ := runOpcode_of_run h hop hstart ((State.began_unfenced h).of_cmds hcmds) (SameFuses.refl _)
    ((State.tanSend_fixed ..).trans (State.began_fixed_of_privileged hpriv))
  refine ⟨t, hrow, hfix, ?_⟩
  rw [State.pairing_of_ledger (ht.trans hledger), State.withPairing, hsame.tan, hsame.now]

/-! ### MIGRATE (R457) -/

/-- The object that MIGRATE names may move: a RUNNING stream, or a sequence at rest or RUNNING, that is whole and not on its way. -/
def Movable (s : State) (d : Desc) : Prop :=
  (d.kind = 1 ∧ ∃ x, s.str d.index = some x ∧ x.st = .running ∧ x.migrating = false)
    ∨ (d.kind = 2 ∧ ∃ x, s.seq d.index = some x ∧ (x.st = .idle ∨ x.st = .running) ∧ x.spilled = false ∧ x.migrating = false
        ∧ x.cancel = none)

theorem State.startMigrate_of_movable {o : Owner} (hmove : Movable s d) (hgroup : ∀ k, s.prtOfHandle d.target = some k → s.inGroup k = false)
    (hfree : ∀ m ∈ s.tan.migOut, m.port ≠ d.opnd 0x20 1) (hup : (s.tport (d.opnd 0x20 1)).st = .up)
    (halign : s.alignedWith (d.opnd 0x20 1) = true) :
    s.startMigrate o d = .run { s with tan := { s.tan with migOut := s.tan.migOut
      ++ [{ port := d.opnd 0x20 1, handle := d.target, order := o.order, peer := none, started := false, done := false, code := none }] } } := by
  have hany : s.tan.migOut.any (fun m => m.port = d.opnd 0x20 1) = false := by
    rw [List.any_eq_false]
    simpa using hfree
  unfold State.startMigrate
  dsimp only
  rw [hany, hup, halign]
  obtain ⟨hkind, x, hx, hst, hmig⟩ | ⟨hkind, x, hx, hst, hspill, hmig, hcancel⟩ := hmove
  · cases hp : s.prtOfHandle d.target with
    | none => simp [hkind, hx, hst, hmig]
    | some k => simp [hkind, hx, hst, hmig, hgroup k hp]
  · cases hp : s.prtOfHandle d.target with
    | none => obtain hst | hst := hst <;> simp [hkind, hx, hst, hspill, hmig, hcancel]
    | some k => obtain hst | hst := hst <;> simp [hkind, hx, hst, hspill, hmig, hcancel, hgroup k hp]

theorem State.inGroup_stageTo (e : State) (o : Owner) (st : CmdStage) (p : Nat) : (e.stageTo o st).inGroup p = e.inGroup p := rfl
theorem State.alignedWith_stageTo (e : State) (o : Owner) (st : CmdStage) (p : Nat) : (e.stageTo o st).alignedWith p = e.alignedWith p := rfl

theorem migrate_row (h : Passes s n q d) (hop : d.opcode = 0x61)
    (hgroup : ∀ k, s.prtOfHandle d.target = some k → (s.entered n q d).inGroup k = false)
    (hfree : ∀ m ∈ s.tan.migOut, m.port ≠ d.opnd 0x20 1) (hup : (s.tport (d.opnd 0x20 1)).st = .up)
    (halign : (s.entered n q d).alignedWith (d.opnd 0x20 1) = true) (hmove : Movable s d) :
    ∃ t, exec (.migrate n q d) s = .next t ∧ t.fixed = s.fixed ∧ t.tan.migOut = s.tan.migOut
      ++ [{ port := d.opnd 0x20 1, handle := d.target, order := s.link.accepted, peer := none, started := false, done := false,
            code := none }] := by
  have hplain : s.privileged d.opcode = false := by rw [hop]; rfl
  have hsame := s.began_same n q d
  have hbegan := State.began_of_plain (n := n) (q := q) hplain
  have hstart := State.startMigrate_of_movable (s := s.began n q d) (o := (s.soleCmd n q d).own) (d := d)
    (by simpa only [Movable, hsame.str, hsame.seq] using hmove)
    (fun k hk => by rw [hbegan, State.inGroup_stageTo]; exact hgroup k ((hsame.prtOfHandle _).symm.trans hk))
    (by rw [hsame.tan]; exact hfree) (by rw [hsame.tport]; exact hup) (by rw [hbegan, State.alignedWith_stageTo]; exact halign)
  rw [hsame.tan, State.soleCmd_order, ← State.start_migrate _ _ hop] at hstart
  obtain ⟨t, hrow, hledger, hfix⟩ := runOpcode_of_run_fixed h hop hstart (State.began_unfenced h) (State.began_fixed_of_plain hplain)
  exact ⟨t, hrow, hfix, State.migOut_of_ledger hledger⟩

end
end Sys2Proof.Machine

namespace Sys2Proof.Machine
open Sys2Proof

section
variable {s t u e : State} {n q : Nat} {d : Desc}

/-! ### Objects that wait for check 11 (R200, R203) -/

theorem NewCmdAt.of_cmds {st : CmdStage} (h : NewCmdAt s u st) (hc : t.link.cmds = u.link.cmds) : NewCmdAt s t st := by
  rw [NewCmdAt, hc]
  exact h

/-- The row of an unprivileged command whose effect fills an entry and gives the object an output buffer. -/
theorem runOpcode_of_check11 (h : Passes s n q d) {op hd : Nat} (hop : d.opcode = op)
    (hs : (s.began n q d).start (s.soleCmd n q d).own d = .run ((e.setBuf hd d.outAddr d.outLen).stageTo (s.soleCmd n q d).own .check11))
    (hc : e.link.cmds = (s.began n q d).link.cmds) (hfix : e.fixed = s.fixed) :
    ∃ t, runOpcode op n q d s = .next t ∧ t.fixed = s.fixed ∧ NewCmdAt s t .check11
      ∧ Tab.find t.link.bufs hd = some (OutBuf.fresh d.outAddr d.outLen) ∧ t.streams = e.streams ∧ t.seqs = e.seqs := by
  have hbuf : (e.setBuf hd d.outAddr d.outLen).link.cmds = (s.began n q d).link.cmds := hc
  have hunfenced := State.stageTo_unfenced ((State.began_unfenced h).of_cmds hbuf) (s.soleCmd n q d).own (st := .check11) CmdStage.noConfusion
  obtain ⟨t, hrow, hledger, htfix⟩ := runOpcode_of_run_fixed h hop hs hunfenced
    ((State.stageTo_fixed ..).trans ((State.setBuf_fixed ..).trans hfix))
  have hstreams := State.streams_of_ledger hledger
  have hseqs := State.seqs_of_ledger hledger
  refine ⟨t, hrow, htfix, ?_, ?_, hstreams, hseqs⟩
  · obtain ⟨c, hmem, horder, -⟩ := s.began_newCmdAt n q d
    have hnew := State.stageTo_newCmdAt (st := .check11) (s.soleCmd_order n q d)
      ⟨c, by rw [hbuf]; exact hmem, horder.trans (s.soleCmd_order n q d).symm⟩
    exact NewCmdAt.of_cmds hnew (State.cmds_of_ledger hledger)
  · rw [State.bufs_of_ledger hledger]
    exact Tab.find_put_same ..

/-! ### STR_OPEN (R339, R342) -/

theorem Tab.erase_of_find_none {A : Type} {t : List (Nat × A)} {k : Nat} (h : Tab.find t k = none) : Tab.erase t k = t := by
  induction t with
  | nil => rfl
  | cons x t ih =>
    obtain ⟨j, a⟩ := x
    by_cases hj : j = k
    · simp [Tab.find, hj] at h
    · rw [Tab.find, if_neg hj] at h
      rw [Tab.erase, List.filter_cons_of_pos (by simpa using hj)]
      exact congrArg _ (ih h)

theorem Tab.filterMap_insert {A B : Type} {k : Nat} {a : A} {f : Nat × A → Option B} (h : f (k, a) = none) (t : List (Nat × A)) :
    (Tab.insert k a t).filterMap f = t.filterMap f := by
  induction t with
  | nil => simp [Tab.insert, h]
  | cons x t ih =>
    obtain ⟨j, b⟩ := x
    rw [Tab.insert]
    split
    · rw [List.filterMap_cons, List.filterMap_cons, ih]
    · rw [List.filterMap_cons, h]

/-- A new stream without an area covers none. -/
theorem State.areasOn_setStr {k : Nat} {x : Stream} (hk : s.str k = none) (hx : x.chans = []) (m : Nat) :
    (s.setStr k x).areasOn m = s.areasOn m := by
  have hnone : (if x.chans.contains m then x.ptr.map fun o => (o, x.share) else none) = none := by rw [hx]; rfl
  rw [State.areasOn, State.setStr, Tab.put, Tab.erase_of_find_none hk]
  exact Tab.filterMap_insert hnone _

theorem State.findArea_of_areas (hm : t.mem = s.mem) (hp : t.part = s.part) (ha : ∀ m, t.areasOn m = s.areasOn m) (l : List Nat) (k : Nat) :
    t.findArea l k = s.findArea l k := by
  have hgrans (m : Nat) : t.freeGrans m = s.freeGrans m := by
    rw [State.freeGrans, State.chan, State.chanCount, hm, hp]
    rfl
  have halloc (m g : Nat) : t.allocAt m g = s.allocAt m g := by rw [State.allocAt, hm, State.allocAt]
  have hfree (o m : Nat) : t.areaFree o k m = s.areaFree o k m := by simp only [State.areaFree, hgrans, halloc, ha]
  simp only [State.findArea, hfree, ha]

/-- The claim of an area's granules touches the weight stacks alone. -/
theorem State.claimArea_eq (s : State) (l : List Nat) (o k : Nat) : s.claimArea l o k = s.setMem (s.claimArea l o k).mem := by
  unfold State.claimArea
  induction l generalizing s with
  | nil => rfl
  | cons c l ih =>
    rw [List.foldl_cons, ih]
    rfl

/-- Units of an area of partition `p` on each of its home channels. -/
def State.areaUnits (s : State) (p : Nat) : Nat := (s.graphOf p).areaShare (s.prtHomes p).length

/-- A stream with the area of `w` units at offset `a` on the channels of `l`. -/
def placedAt (l : List Nat) (w a : Nat) (x : Stream) : Stream := { x with ptr := some a, share := w, chans := l }

theorem State.takeArea_of_find {k p a w : Nat} {l : List Nat} {x : Stream} (hx : s.str k = some x) (hl : s.prtHomes p = l)
    (hw : s.areaUnits p = w) (ha : s.findArea l w = some a) :
    s.takeArea k p = some ((s.claimArea l a w).setStr k (placedAt l w a x)) := by
  have hstr : (s.claimArea l a w).str k = some x := by rw [State.claimArea_eq]; exact hx
  have hset : (s.claimArea l a w).modStr k (placedAt l w a) = (s.claimArea l a w).setStr k (placedAt l w a x) := by
    rw [State.modStr, hstr]
  rw [← hset]
  unfold State.areaUnits at hw
  subst hl hw
  unfold State.takeArea
  simp only [ha]
  rfl

/-- The stream that a STR_OPEN of an owner fills an entry with, before it has its area. -/
def State.newStream (s : State) (o : Owner) (d : Desc) : Stream :=
  { Stream.new (s.graphOf (d.opnd 0x20 1)) o (d.opnd 0x20 1) (d.opnd 0x21 1) (d.opnd 0x23 1) (d.opnd 0x22 1)
      (if d.opnd 0x23 1 = 0xFF then d.opnd 0x24 4 else 0) with
    perm := s.permOf o.rider (if d.opnd 0x23 1 = 0xFF then d.opnd 0x24 4 else 0)
    imp := if d.opnd 0x22 1 = 0 then none else some (Import.waiting d.dataAddr d.dataLen) }

/-- That stream with its area at offset `a`. -/
def State.openedStream (s : State) (o : Owner) (d : Desc) (a : Nat) : Stream :=
  placedAt (s.prtHomes (d.opnd 0x20 1)) (s.areaUnits (d.opnd 0x20 1)) a (s.newStream o d)

/-- The state with the stream of a STR_OPEN in entry `k` and its area claimed at offset `a`. -/
def State.withStream (s : State) (o : Owner) (d : Desc) (k a : Nat) : State :=
  ((s.setStr k (s.newStream o d)).claimArea (s.prtHomes (d.opnd 0x20 1)) a (s.areaUnits (d.opnd 0x20 1))).setStr k
    (s.openedStream o d a)

theorem State.withStream_cmds (s : State) (o : Owner) (d : Desc) (k a : Nat) : (s.withStream o d k a).link.cmds = s.link.cmds := by
  rw [State.withStream, State.claimArea_eq]
  rfl

theorem State.withStream_fixed (s : State) (o : Owner) (d : Desc) (k a : Nat) : (s.withStream o d k a).fixed = s.fixed := by
  rw [State.withStream, State.setStr_fixed, State.claimArea_fixed, State.setStr_fixed]

theorem State.str_withStream_other (s : State) (o : Owner) (d : Desc) {k : Nat} (a : Nat) {j : Nat} (hj : j ≠ k) :
    (s.withStream o d k a).str j = s.str j := by
  rw [State.withStream, State.str_setStr_other _ _ _ hj, State.claimArea_eq]
  exact State.str_setStr_other _ _ _ hj

theorem State.prtHomes_setStr (s : State) (k : Nat) (x : Stream) (p : Nat) : (s.setStr k x).prtHomes p = s.prtHomes p := rfl
theorem State.areaUnits_setStr (s : State) (k : Nat) (x : Stream) (p : Nat) : (s.setStr k x).areaUnits p = s.areaUnits p := rfl

theorem freeIndex_find {A : Type} {l : List (Nat × A)} {m k : Nat} (h : freeIndex l m = some k) : Tab.find l k = none := by
  simpa using List.find?_some h

theorem State.startOpen_of_room {o : Owner} {k a : Nat} (hrep : s.replacing (s.slotOf (d.opnd 0x20 1)) = false)
    (hroom : s.roomIn (d.opnd 0x20 1) = none)
    (hk : if d.index = anyIndex then freeIndex s.streams 1024 = some k else k = d.index ∧ s.str k = none)
    (ha : s.findArea (s.prtHomes (d.opnd 0x20 1)) (s.areaUnits (d.opnd 0x20 1)) = some a) :
    s.startOpen o d = .run (((s.withStream o d k a).setBuf (strHandle k) d.outAddr d.outLen).stageTo o .check11) := by
  have hfree : s.str k = none := by
    split at hk
    · exact freeIndex_find hk
    · exact hk.2
  have hindex : (if d.index = anyIndex then freeIndex s.streams 1024 else some d.index) = some k := by
    split at hk
    · next hi => rw [if_pos hi, hk]
    · next hi => rw [if_neg hi, hk.1]
  have hnamed : (d.index ≠ anyIndex && (s.str d.index).isSome) = false := by
    split at hk
    · next hi => simp [hi]
    · rw [← hk.1, hfree]
      exact Bool.and_false _
  have harea : (s.setStr k (s.newStream o d)).findArea (s.prtHomes (d.opnd 0x20 1)) (s.areaUnits (d.opnd 0x20 1)) = some a :=
    (State.findArea_of_areas (s := s) (t := s.setStr k (s.newStream o d)) rfl rfl (State.areasOn_setStr hfree rfl) _ _).trans ha
  have htake : (s.setStr k (s.newStream o d)).takeArea k (d.opnd 0x20 1) = some (s.withStream o d k a) :=
    State.takeArea_of_find (State.str_setStr_same ..) (State.prtHomes_setStr ..) (State.areaUnits_setStr ..) harea
  unfold State.newStream at htake
  unfold State.startOpen
  simp only [hrep, hroom, hnamed, hindex]
  rw [htake]
  rfl

/-- STR_OPEN fills the entry that it names, or the lowest that is free, and waits for check 11 (R339, R342). -/
theorem strOpen_row (h : Passes s n q d) (k : Nat) (hop : d.opcode = 0x30) (hrep : s.replacing (s.slotOf (d.opnd 0x20 1)) = false)
    (hroom : s.roomIn (d.opnd 0x20 1) = none)
    (hk : if d.index = anyIndex then freeIndex s.streams 1024 = some k else k = d.index ∧ s.str k = none)
    (ha : (s.findArea (s.prtHomes (d.opnd 0x20 1))
      ((s.graphOf (d.opnd 0x20 1)).areaShare (s.prtHomes (d.opnd 0x20 1)).length)).isSome = true) :
    ∃ t x, exec (.strOpen n q d) s = .next t ∧ t.fixed = s.fixed ∧ t.str k = some x ∧ x.prt = d.opnd 0x20 1
      ∧ x.own.order = s.link.accepted ∧ x.own.rider = n ∧ x.adapter = d.opnd 0x21 1 ∧ x.policy = d.opnd 0x22 1
      ∧ x.source = d.opnd 0x23 1 ∧ x.ptr.isSome = true ∧ NewCmdAt s t .check11
      ∧ Tab.find t.link.bufs (strHandle k) = some (OutBuf.fresh d.outAddr d.outLen) ∧ ∀ j, j ≠ k → t.str j = s.str j := by
  have hplain : s.privileged d.opcode = false := by rw [hop]; rfl
  have hsame := s.began_same n q d
  obtain ⟨a, ha⟩ := Option.isSome_iff_exists.1 ha
  have hunits : (s.began n q d).areaUnits (d.opnd 0x20 1) = s.areaUnits (d.opnd 0x20 1) := by
    rw [State.areaUnits, hsame.graphOf, hsame.prtHomes, State.areaUnits]
  have hstart := State.startOpen_of_room (s := s.began n q d) (o := (s.soleCmd n q d).own) (k := k) (a := a)
    (by rw [hsame.slotOf, hsame.replacing, hrep]) (by rw [hsame.roomIn, hroom]) (by rw [hsame.streams, hsame.str]; exact hk)
    (by rw [hsame.prtHomes, hunits, hsame.findArea]; exact ha)
  obtain ⟨t, hrow, hfix, hnew, hbuf, hstreams, -⟩ := runOpcode_of_check11 h hop ((State.start_strOpen _ _ hop).trans hstart)
    (State.withStream_cmds ..) ((State.withStream_fixed ..).trans (State.began_fixed_of_plain hplain))
  refine ⟨t, (s.began n q d).openedStream (s.soleCmd n q d).own d a, hrow, hfix, ?_, rfl, s.soleCmd_order n q d, rfl, rfl, rfl, rfl,
    rfl, hnew, hbuf, fun j hj => ?_⟩
  · rw [State.str, hstreams]
    exact State.str_setStr_same ..
  · rw [State.str, hstreams]
    exact (State.str_withStream_other _ _ _ _ hj).trans (hsame.str j)

end
end Sys2Proof.Machine

namespace Sys2Proof.Machine
open Sys2Proof

section
variable {s t u : State} {n q : Nat} {d : Desc}

/-! ### A command's data (R372) -/

theorem State.readData_same (s : State) (o : Owner) (d : Desc) : State.SameBut4 s (s.readData o d) := by
  unfold State.readData
  split
  · rfl
  · exact State.SameBut4.trans (State.dmaRead_same ..) rfl

theorem State.readData_linkRests (s : State) (o : Owner) (d : Desc) : State.LinkRests s (s.readData o d) := by
  unfold State.readData
  split
  · exact State.LinkRests.refl s
  · exact State.LinkRests.trans (State.dmaRead_linkRests ..) rfl

/-! ### SEQ_SUBMIT (R369, R372) -/

/-- The sequence that a SEQ_SUBMIT of an owner fills an entry with. -/
def State.newSeq (s : State) (o : Owner) (d : Desc) : Seq :=
  { Seq.new o d.index (d.opnd 0x22 1) (d.opnd 0x23 1) (if d.opnd 0x23 1 = 0xFF then 0 else d.opnd 0x24 1) (d.opnd 0x25 1 = 1)
      (d.opnd 0x28 4) (d.opnd 0x20 2) (sortDistinct ((d.tokens 0).take (d.opnd 0x26 1))) with
    perm := s.permOf o.rider (d.opnd 0x28 4)
    queue := (d.tokens (d.opnd 0x26 1)).map fun t => (t, 2 ^ o.rider) }

/-- A sequence whose page set is empty needs no place. -/
theorem State.takePages_of_no_pages {k p : Nat} {globals : Bool} (h : (s.graphOf p).pageSet globals = []) :
    s.takePages k p globals false = some s := by
  unfold State.takePages
  simp only [h]
  rfl

theorem State.startSubmit_of_room {o : Owner} {k : Nat} (hrep : s.replacing (s.slotOf d.index) = false) (hroom : s.roomIn d.index = none)
    (hk : freeIndex s.seqs 1024 = some k) (hlen : (d.tokens (d.opnd 0x26 1)).length ≤ 4096) (hissue : s.mayIssue o.rider = true)
    (hdata : d.dataFail = none) (hspill : d.opnd 0x25 1 = 0)
    (hset : (s.graphOf d.index).pageSet (Decidable.decide (sortDistinct ((d.tokens 0).take (d.opnd 0x26 1)) ≠ [])) = []) :
    s.startSubmit o d
      = .run ((((s.readData o d).setSeq k ((s.readData o d).newSeq o d)).setBuf (seqHandle k) d.outAddr d.outLen).stageTo o .check11) := by
  have hlen' : ¬ 4096 < ((d.tokens (d.opnd 0x26 1)).map fun t => (t, 2 ^ o.rider)).length := by
    rw [List.length_map]
    exact Nat.not_lt.2 hlen
  have hreads : (d.dataLen ≠ 0 && !s.mayIssue o.rider) = false := by
    rw [hissue]
    exact Bool.and_false _
  have hgraph : (((s.readData o d).setSeq k ((s.readData o d).newSeq o d)).graphOf d.index) = s.graphOf d.index :=
    (s.readData_same o d).butCmd.graphOf _
  have htake : ((s.readData o d).setSeq k ((s.readData o d).newSeq o d)).takePages k d.index
      (Decidable.decide (sortDistinct ((d.tokens 0).take (d.opnd 0x26 1)) ≠ [])) (Decidable.decide (d.opnd 0x25 1 = 1))
      = some ((s.readData o d).setSeq k ((s.readData o d).newSeq o d)) := by
    rw [show Decidable.decide (d.opnd 0x25 1 = 1) = false by rw [hspill]; rfl]
    exact State.takePages_of_no_pages (by rw [hgraph]; exact hset)
  unfold State.newSeq at htake
  unfold State.startSubmit
  simp only [hrep, hroom, hk, hreads, hdata]
  rw [if_neg hlen', htake]
  rfl

theorem seqSubmit_row (h : Passes s n q d) (k : Nat) (hop : d.opcode = 0x40) (hrep : s.replacing (s.slotOf d.index) = false)
    (hroom : s.roomIn d.index = none) (hk : freeIndex s.seqs 1024 = some k) (hlen : (d.tokens (d.opnd 0x26 1)).length ≤ 4096)
    (hdata : d.dataFail = none) (hspill : d.opnd 0x25 1 = 0)
    (hset : (s.graphOf d.index).pageSet (decide (sortDistinct ((d.tokens 0).take (d.opnd 0x26 1)) ≠ [])) = []) :
    ∃ t x, exec (.seqSubmit n q d) s = .next t ∧ t.fixed = s.fixed ∧ t.seq k = some x ∧ x.prt = d.index
      ∧ x.own.order = s.link.accepted ∧ x.own.rider = n ∧ x.maxNew = d.opnd 0x20 2
      ∧ x.queue.map Prod.fst = d.tokens (d.opnd 0x26 1) ∧ (∀ y ∈ x.queue, y.2 = 2 ^ n) ∧ NewCmdAt s t .check11
      ∧ Tab.find t.link.bufs (seqHandle k) = some (OutBuf.fresh d.outAddr d.outLen) ∧ ∀ j, j ≠ k → t.seq j = s.seq j := by
  have hplain : s.privileged d.opcode = false := by rw [hop]; rfl
  have hsame := s.began_same n q d
  have hread := (s.began n q d).readData_same (s.soleCmd n q d).own d
  have hstart := State.startSubmit_of_room (s := s.began n q d) (o := (s.soleCmd n q d).own) (k := k) (d := d)
    (by rw [hsame.slotOf, hsame.replacing, hrep]) (by rw [hsame.roomIn, hroom]) (by rw [hsame.seqs, hk]) hlen
    (State.began_mayIssue h hplain) hdata hspill (by rw [hsame.graphOf]; exact hset)
  obtain ⟨t, hrow, hfix, hnew, hbuf, -, hseqs⟩ := runOpcode_of_check11 h hop ((State.start_seqSubmit _ _ hop).trans hstart)
    ((s.began n q d).readData_linkRests (s.soleCmd n q d).own d).cmds
    ((State.setSeq_fixed ..).trans ((State.readData_fixed ..).trans (State.began_fixed_of_plain hplain)))
  refine ⟨t, ((s.began n q d).readData (s.soleCmd n q d).own d).newSeq (s.soleCmd n q d).own d, hrow, hfix, ?_, rfl,
    s.soleCmd_order n q d, rfl, rfl, ?_, ?_, hnew, hbuf, fun j hj => ?_⟩
  · rw [State.seq, hseqs]
    exact State.seq_setSeq_same ..
  · exact (List.map_map ..).trans (List.map_id _)
  · intro y hy
    obtain ⟨w, -, rfl⟩ := List.mem_map.1 hy
    rfl
  · rw [State.seq, hseqs]
    exact (State.seq_setSeq_other _ _ _ hj).trans ((hread.butCmd.seq j).trans (hsame.seq j))

end
end Sys2Proof.Machine

namespace Sys2Proof.Machine
open Sys2Proof

section
variable {s t u : State} {n q : Nat} {d : Desc}

/-! ### The prefetch of a woken sequence (R388, R389)

Pages move, and states of sequences with them; queued input, partitions and commands stand. -/

structure State.InputStands (s t : State) : Prop where
  prts : t.prts = s.prts
  cmds : t.link.cmds = s.link.cmds
  queue : ∀ k, (t.seq k).map Seq.queue = (s.seq k).map Seq.queue

theorem State.InputStands.refl (s : State) : State.InputStands s s := ⟨rfl, rfl, fun _ => rfl⟩

theorem State.InputStands.trans (h : State.InputStands s t) (k : State.InputStands t u) : State.InputStands s u :=
  ⟨k.prts.trans h.prts, k.cmds.trans h.cmds, fun i => (k.queue i).trans (h.queue i)⟩

theorem State.InputStands.of_ledger (h : t.ledger = s.ledger) : State.InputStands s t :=
  ⟨State.prts_of_ledger h, State.cmds_of_ledger h, fun k => by rw [State.seq_of_ledger h]⟩

theorem State.InputStands.foldl {A : Type} (f : State → A → State) (l : List A) (s : State) (h : ∀ t x, State.InputStands t (f t x)) :
    State.InputStands s (l.foldl f s) := by
  induction l generalizing s with
  | nil => exact State.InputStands.refl s
  | cons x l ih => exact (h s x).trans (ih _)

theorem State.setMem_inputStands (s : State) (m : Stacks) : State.InputStands s (s.setMem m) := ⟨rfl, rfl, fun _ => rfl⟩

theorem State.setSeq_inputStands {k : Nat} {x y : Seq} (hx : s.seq k = some x) (hq : y.queue = x.queue) :
    State.InputStands s (s.setSeq k y) := by
  refine ⟨rfl, rfl, fun j => ?_⟩
  by_cases hj : j = k
  · rw [hj, State.seq_setSeq_same, hx]
    exact congrArg some hq
  · rw [State.seq_setSeq_other _ _ _ hj]

theorem Tab.find_map_queue {f : Nat × Seq → Nat × Seq} (hk : ∀ x, (f x).1 = x.1) (hq : ∀ x, (f x).2.queue = x.2.queue)
    (l : List (Nat × Seq)) (k : Nat) : (Tab.find (l.map f) k).map Seq.queue = (Tab.find l k).map Seq.queue := by
  induction l with
  | nil => rfl
  | cons x l ih =>
    have hhead : Tab.find ((x :: l).map f) k = if x.1 = k then some (f x).2 else Tab.find (l.map f) k := by
      rw [← hk x]
      rfl
    have hrest : Tab.find (x :: l) k = if x.1 = k then some x.2 else Tab.find l k := rfl
    rw [hhead, hrest]
    split
    · exact congrArg some (hq x)
    · exact ih

theorem State.setPage_inputStands (s : State) (k : Nat) (p : KvPage) : State.InputStands s (s.setPage k p) := by
  refine ⟨rfl, rfl, Tab.find_map_queue (fun x => ?_) (fun x => ?_) _⟩
  · split <;> rfl
  · split <;> rfl

theorem State.countObj_ledger (s : State) (key w k : Nat) : (s.countObj key w k).ledger = s.ledger := by
  have hraise (c : Bool) (u : State) (h : u.ledger = s.ledger) : (if c then u.raiseBit 0x00D 30 else u).ledger = s.ledger := by
    split
    · exact (State.raiseBit_ledger ..).trans h
    · exact h
  exact hraise _ _ rfl

theorem State.takePage_inputStands {p m k : Nat} {place : Nat × Nat} (h : s.takePage p m k = some (place, t)) : State.InputStands s t := by
  unfold State.takePage at h
  dsimp only at h
  split at h
  · cases h
    exact State.InputStands.refl s
  · split at h
    · cases h
    · cases h
      exact State.setMem_inputStands s _

theorem State.prefetchPage_inputStands (s : State) (k : Nat) (p : KvPage) : State.InputStands s (s.prefetchPage k p) := by
  unfold State.prefetchPage
  split
  · exact State.InputStands.refl s
  · dsimp only
    split
    · next htake =>
      have hplace := State.takePage_inputStands htake
      split
      · exact hplace.trans ((State.setPage_inputStands ..).trans (State.InputStands.of_ledger
          ((State.trace_ledger ..).trans ((State.countObj_ledger ..).trans (State.count_ledger ..)))))
      · split
        · exact hplace.trans ((State.setPage_inputStands ..).trans (State.InputStands.of_ledger
            ((State.dmaRead_same ..).ledger (State.dmaRead_linkRests ..))))
        · exact hplace
    · split
      · split
        · exact State.setPage_inputStands ..
        · exact State.InputStands.refl s
      · exact State.InputStands.refl s

theorem State.endPrefetch_inputStands (s : State) (k : Nat) : State.InputStands s (s.endPrefetch k) := by
  unfold State.endPrefetch
  split
  · exact State.InputStands.refl s
  · next x hx =>
    split
    · have hset : State.InputStands s (s.setSeq k { x with st := .running, waitFrom := none }) := State.setSeq_inputStands hx rfl
      dsimp only
      split
      · exact hset.trans (State.InputStands.of_ledger ((State.log_same ..).ledger (State.LinkRests.of_link (State.log_link ..))))
      · exact hset
    · exact State.InputStands.refl s

theorem State.prefetch_inputStands (s : State) (k : Nat) : State.InputStands s (s.prefetch k) := by
  unfold State.prefetch
  split
  · exact State.InputStands.refl s
  · split
    · exact State.InputStands.refl s
    · exact (State.InputStands.foldl _ _ _ fun t p => t.prefetchPage_inputStands k p).trans (State.endPrefetch_inputStands ..)

theorem State.wakeSeq_inputStands (s : State) (k : Nat) : State.InputStands s (s.wakeSeq k) := by
  unfold State.wakeSeq
  split
  · exact State.InputStands.refl s
  · next x hx =>
    split
    · split
      · exact (State.setSeq_inputStands (y := { x with st := .prefetch, waitFrom := some s.now }) hx rfl).trans
          (State.prefetch_inputStands ..)
      · exact State.setSeq_inputStands hx rfl
    · exact State.InputStands.refl s

/-! ### SEQ_APPEND (R372) -/

/-- Tokens for which there is room join the end of the queue. -/
theorem State.queueTokens_of_room {k : Nat} {x : Seq} {l : List (Nat × Nat)} (hx : s.seq k = some x)
    (hroom : x.queue.length + l.length ≤ 4096) :
    (s.queueTokens k l).prts = s.prts ∧ (s.queueTokens k l).link.cmds = s.link.cmds
      ∧ ∃ y, (s.queueTokens k l).seq k = some y ∧ y.queue = x.queue ++ l := by
  have htake : l.take (4096 - x.queue.length) = l := List.take_of_length_le (by omega)
  have hlost : l.length - (4096 - x.queue.length) = 0 := by omega
  have hqueued : s.queueTokens k l = (s.setSeq k { x with queue := x.queue ++ l }).wakeSeq k := by
    rw [State.queueTokens, hx]
    dsimp only
    rw [hlost, htake]
    rfl
  have hwake := State.wakeSeq_inputStands (s.setSeq k { x with queue := x.queue ++ l }) k
  rw [hqueued]
  refine ⟨hwake.prts, hwake.cmds, Option.map_eq_some_iff.1 ((hwake.queue k).trans ?_)⟩
  rw [State.seq_setSeq_same]
  rfl

/-- While a stroke is in flight there is no boundary (R406). -/
theorem State.boundary_of_stroke {p : Nat} {y : Prt} {a : Stroke} (hp : s.prt p = some y) (ha : y.stroke = some a) :
    s.boundary p = s := by
  have hjudge : s.judge p = s := by
    rw [State.judge, hp]
    simp [ha]
  have hfree : s.loopFree p = false := by
    rw [State.loopFree, hp]
    simp [ha]
  rw [State.boundary, hjudge, hfree]
  rfl

theorem State.startAppend_of_room {o : Owner} {x : Seq} (hx : s.seq d.index = some x) (hst : x.st ≠ .ending)
    (hroom : x.queue.length + (d.tokens 0).length ≤ 4096) (hissue : s.mayIssue o.rider = true) (hdata : d.dataFail = none) :
    s.startAppend o d
      = (((s.readData o d).queueTokens d.index ((d.tokens 0).map fun w => (w, 2 ^ o.rider))).boundary x.prt).done o 0 := by
  have hroom' : ¬ 4096 < x.queue.length + ((d.tokens 0).map fun w => (w, 2 ^ o.rider)).length := by
    rw [List.length_map]
    exact Nat.not_lt.2 hroom
  rw [State.startAppend, hx]
  dsimp only
  rw [if_neg hst, if_neg hroom', hissue, hdata]
  rfl

theorem seqAppend_row (h : Passes s n q d) (x : Seq) (hop : d.opcode = 0x41) (hx : s.seq d.index = some x) (hst : x.st ≠ .ending)
    (hroom : x.queue.length + (d.tokens 0).length ≤ 4096) (hdata : d.dataFail = none) :
    ∃ t, exec (.seqAppend n q d) s = .next t ∧ ((∃ y a, s.prt x.prt = some y ∧ y.stroke = some a) →
      NewCmdAt s t .decided ∧ t.fixed = s.fixed ∧ ∃ y, t.seq d.index = some y ∧ y.queue = x.queue ++ (d.tokens 0).map fun w => (w, 2 ^ n)) := by
  by_cases hstroke : ∃ y a, s.prt x.prt = some y ∧ y.stroke = some a
  case neg =>
    exact ⟨_, runOpcode_of_passes h hop, fun hs => absurd hs hstroke⟩
  obtain ⟨y, a, hy, ha⟩ := hstroke
  have hplain : s.privileged d.opcode = false := by rw [hop]; rfl
  have hsame := s.began_same n q d
  have hread := (s.began n q d).readData_same (s.soleCmd n q d).own d
  have hx' : (s.began n q d).seq d.index = some x := (hsame.seq _).trans hx
  obtain ⟨hprts, hcmds, z, hz, hqueue⟩ := State.queueTokens_of_room (l := (d.tokens 0).map fun w => (w, 2 ^ n))
    ((hread.butCmd.seq d.index).trans hx') (by rw [List.length_map]; exact hroom)
  have hbound := State.boundary_of_stroke (s := ((s.began n q d).readData (s.soleCmd n q d).own d).queueTokens d.index
    ((d.tokens 0).map fun w => (w, 2 ^ n))) (p := x.prt)
    (by rw [State.prt, hprts, hread.prts, hsame.prts]; exact hy) ha
  have hstart := State.startAppend_of_room (o := (s.soleCmd n q d).own) hx' hst hroom (State.began_mayIssue h hplain) hdata
  rw [show (s.soleCmd n q d).own.rider = n from rfl, hbound, ← State.start_seqAppend _ _ hop] at hstart
  obtain ⟨t, hrow, hfinal, hfix, hledger⟩ := runOpcode_of_done_fixed h hop hstart
    (hcmds.trans ((s.began n q d).readData_linkRests (s.soleCmd n q d).own d).cmds)
    ((State.queueTokens_fixed ..).trans ((State.readData_fixed ..).trans (State.began_fixed_of_plain hplain)))
  refine ⟨t, hrow, fun _ => ⟨hfinal.1, hfix, z, ?_, hqueue⟩⟩
  rw [State.seq_of_ledger hledger, (State.decide_same ..).seq, hz]

end

/-- Settles O49: each row is the visit that admits its command, whose effect the opcode's equation gives. -/
theorem objectCommands : Obligations.ObjectCommands := fun _ _ _ _ h =>
  ⟨strOpen_row h, strClose_row h, strExport_row h, seqSubmit_row h, seqAppend_row h, seqCancel_row h, lnkAudSet_row h, tanPair_row h,
    migrate_row h⟩

end Sys2Proof.Machine

namespace Sys2Proof.Machine
open Sys2Proof

/-! ### What follows a command's effect touches neither slots nor transfers

Flits of the tandem ports and the activity of channels follow; the ledger has no place for slots and transfers, so they are framed here. -/

/-- `t` differs from `s` in registers, the host link, what is sent, the trace unit, the tandem ports and the memories at most. -/
def State.SameButSent (s t : State) : Prop :=
  t = { s with regs := t.regs, link := t.link, out := t.out, trc := t.trc, tan := t.tan, mem := t.mem }

section
variable {s t u : State}

theorem State.SameButSent.refl (s : State) : State.SameButSent s s := rfl

theorem State.SameButSent.trans (h : State.SameButSent s t) (k : State.SameButSent t u) : State.SameButSent s u := by
  unfold State.SameButSent at *
  rw [k, h]

theorem State.SameBut4.butSent (h : State.SameBut4 s t) : State.SameButSent s t := by
  unfold State.SameBut4 at h
  unfold State.SameButSent
  rw [h]

theorem State.SameButSent.slots (h : State.SameButSent s t) : t.slots = s.slots := by rw [show t = _ from h]
theorem State.SameButSent.loads (h : State.SameButSent s t) : t.loads = s.loads := by rw [show t = _ from h]

theorem State.SameButSent.foldl {A : Type} (f : State → A → State) (l : List A) (s : State) (h : ∀ t x, State.SameButSent t (f t x)) :
    State.SameButSent s (l.foldl f s) := by
  induction l generalizing s with
  | nil => exact .refl s
  | cons x l ih => exact (h s x).trans (ih _)

theorem State.setTport_same (s : State) (p : Nat) (x : TanPort) : State.SameButSent s (s.setTport p x) := rfl

theorem State.pumpOne_same (s : State) (p : Nat) : State.SameButSent s (s.pumpOne p) := by
  unfold State.pumpOne
  dsimp only
  split
  · rfl
  · split
    · split
      · rfl
      · split <;> rfl
    · split
      · rfl
      · split
        · rfl
        · exact ((State.setTport_same ..).trans (State.emit_same ..).four.butSent).trans (State.count48_same ..).four.butSent

theorem State.tanSend_same (s : State) (p : Nat) (m : TanMsg) : State.SameButSent s (s.tanSend p m) := by
  unfold State.tanSend
  split
  · split <;> rfl
  · exact (State.setTport_same ..).trans (.foldl _ _ _ fun t _ => t.pumpOne_same p)

theorem State.leaderStroke_same (s : State) (p : Nat) : State.SameButSent s (s.leaderStroke p) := by
  unfold State.leaderStroke
  split
  · rfl
  · split
    · rfl
    · split
      · exact .foldl _ _ _ fun t q => t.tanSend_same ..
      · rfl

theorem State.spreadStrokes_same (s u : State) : State.SameButSent u (s.spreadStrokes u) := by
  unfold State.spreadStrokes
  refine .foldl _ _ _ fun t x => ?_
  split
  · rfl
  · split
    · split
      · rfl
      · exact State.leaderStroke_same ..
    · exact State.leaderStroke_same ..

theorem State.settleChannels_same (s : State) : State.SameButSent s s.settleChannels := by
  unfold State.settleChannels
  have hset (t : State) (n : Nat) (c : Prop) [Decidable c] (x : Channel) : State.SameButSent t (if c then t.setChan n x else t) := by
    split <;> rfl
  exact .foldl _ _ _ fun t n => hset t n _ _

theorem State.settled_same (hf : u.Unfenced) : State.SameButSent u (State.settled (fun _ => u) s) := by
  have hfenced : (s.spreadStrokes u).admitFenced = s.spreadStrokes u :=
    State.admitFenced_of_none (by rw [State.cmds_of_ledger (State.spreadStrokes_ledger ..)]; exact hf)
  rw [State.settled, hfenced]
  exact (s.spreadStrokes_same u).trans (State.settleChannels_same _)

theorem State.keepCmd_slots (hf : u.Unfenced) : (State.keepCmd (fun _ => u) s).slots = u.slots := (State.settled_same (s := s) hf).slots
theorem State.keepCmd_loads (hf : u.Unfenced) : (State.keepCmd (fun _ => u) s).loads = u.loads := (State.settled_same (s := s) hf).loads

theorem State.visited_same (s : State) : State.SameButSent s s.visited := by
  unfold State.visited
  split <;> rfl

theorem State.shown_same (e u : State) (d : Desc) : State.SameButSent u (e.shown u d) := by
  unfold State.shown
  split
  · rfl
  · exact (State.trace_same ..).butSent

end

section
variable {s t u v : State} {n q : Nat} {d : Desc}

theorem State.SameButCmd.slots (h : State.SameButCmd s t) : t.slots = s.slots := by rw [show t = _ from h]
theorem State.SameButCmd.loads (h : State.SameButCmd s t) : t.loads = s.loads := by rw [show t = _ from h]
theorem State.SameButCmd.pwr (h : State.SameButCmd s t) : t.pwr = s.pwr := by rw [show t = _ from h]

theorem State.slotD_of_slots (h : t.slots = s.slots) (k : Nat) : t.slotD k = s.slotD k := by
  rw [State.slotD, State.slot, h, State.slotD, State.slot]

theorem State.SameButCmd.slotD (h : State.SameButCmd s t) (k : Nat) : t.slotD k = s.slotD k := State.slotD_of_slots h.slots k

/-- The row of an unprivileged command: the tables, slots and transfers of the next state are those that its effect leaves. -/
theorem runOpcode_of_run_slots (h : Passes s n q d) {op : Nat} (hop : d.opcode = op) (hplain : s.privileged d.opcode = false)
    (hu : (s.began n q d).start (s.soleCmd n q d).own d = .run u) (hc : u.link.cmds = (s.began n q d).link.cmds)
    (hfix : u.fixed = (s.began n q d).fixed) :
    ∃ t, runOpcode op n q d s = .next t ∧ t.fixed = s.fixed ∧ t.ledger = u.ledger ∧ t.slots = u.slots ∧ t.loads = u.loads := by
  have hf : u.Unfenced := (State.began_unfenced h).of_cmds hc
  obtain ⟨t, hrow, hledger, htfix⟩ := runOpcode_of_run_fixed h hop hu hf (hfix.trans (State.began_fixed_of_plain hplain))
  have hvisit : s.visitRing n q [d] = ((s.entered n q d).shown u d).visited := State.visitRing_of_run h hu hf
  have hv : State.SameButSent u ((s.entered n q d).shown u d).visited := (State.shown_same ..).trans (State.visited_same _)
  have hvf : State.Unfenced ((s.entered n q d).shown u d).visited :=
    hf.of_cmds (State.cmds_of_ledger ((State.visited_ledger _).trans (State.shown_ledger ..)))
  have ht : t = State.keepCmd (fun _ => ((s.entered n q d).shown u d).visited) s := by
    rw [runOpcode_of_passes h hop, hvisit] at hrow
    exact (Host.Outcome.next.inj hrow).symm
  exact ⟨t, hrow, htfix, hledger, by rw [ht, State.keepCmd_slots hvf, hv.slots], by rw [ht, State.keepCmd_loads hvf, hv.loads]⟩

/-! ### Slots and transfers -/

theorem State.slotD_setSlot_same (s : State) (k : Nat) (x : Slot) : (s.setSlot k x).slotD k = x := by
  rw [State.slotD, State.slot, State.setSlot, Tab.find_put_same, Option.getD_some]

theorem State.slotD_setSlot_other (s : State) (k : Nat) (x : Slot) {j : Nat} (h : j ≠ k) : (s.setSlot k x).slotD j = s.slotD j := by
  rw [State.slotD, State.slot, State.setSlot, Tab.find_put_other _ _ _ _ h, State.slotD, State.slot]

/-- The state with a transfer more. -/
def State.addLoad (s : State) (l : Load) : State := { s with loads := s.loads ++ [l] }

theorem State.startLoad_same (s : State) (l : Load) : State.SameBut4 (s.setLoad { l with stage := .header }) (s.startLoad l) :=
  State.dmaRead_same ..

theorem State.startLoad_cmds (s : State) (l : Load) : (s.startLoad l).link.cmds = s.link.cmds :=
  (State.dmaRead_linkRests (s.setLoad { l with stage := .header }) ..).cmds

/-- A transfer whose header is being read is still listed. -/
theorem State.mem_loads_startLoad {l : Load} (h : l ∈ s.loads) : { l with stage := .header } ∈ (s.startLoad l).loads := by
  rw [(s.startLoad_same l).loads]
  exact List.mem_map.2 ⟨l, h, if_pos rfl⟩

/-! ### Commands that change a slot (R265, R282) -/

/-- The row of an unprivileged command whose effect replaces a slot. -/
theorem runOpcode_of_setSlot (h : Passes s n q d) {op : Nat} (hop : d.opcode = op) (hplain : s.privileged d.opcode = false) {k : Nat}
    {x : Slot} (hs : (s.began n q d).start (s.soleCmd n q d).own d = .run ((s.began n q d).setSlot k x)) :
    ∃ t, runOpcode op n q d s = .next t ∧ t.fixed = s.fixed ∧ t.slotD k = x ∧ ∀ j, j ≠ k → t.slotD j = s.slotD j := by
  obtain ⟨t, hrow, hfix, -, hslots, -⟩ := runOpcode_of_run_slots h hop hplain hs rfl (State.setSlot_fixed ..)
  refine ⟨t, hrow, hfix, (State.slotD_of_slots hslots k).trans (State.slotD_setSlot_same ..), fun j hj => ?_⟩
  rw [State.slotD_of_slots hslots, State.slotD_setSlot_other _ _ _ hj, (s.began_same n q d).slotD]

/-- The row of an unprivileged command whose effect lists a transfer, which starts now or waits. -/
theorem runOpcode_of_addLoad (h : Passes s n q d) {op : Nat} (hop : d.opcode = op) (hplain : s.privileged d.opcode = false) {l : Load}
    (hs : (s.began n q d).start (s.soleCmd n q d).own d = .run u) (hu : u = v.addLoad l ∨ u = (v.addLoad l).startLoad l)
    (hc : v.link.cmds = (s.began n q d).link.cmds) (hfix : v.fixed = (s.began n q d).fixed) :
    ∃ t, runOpcode op n q d s = .next t ∧ t.fixed = s.fixed ∧ t.slots = v.slots
      ∧ ∃ m ∈ t.loads, m.order = l.order ∧ m.op = l.op ∧ m.slot = l.slot ∧ m.adapter = l.adapter := by
  have hlisted : l ∈ (v.addLoad l).loads := List.mem_append_right _ (List.mem_singleton.2 rfl)
  obtain rfl | rfl := hu
  · obtain ⟨t, hrow, htfix, -, hslots, hloads⟩ := runOpcode_of_run_slots h hop hplain hs hc hfix
    exact ⟨t, hrow, htfix, hslots, l, hloads ▸ hlisted, rfl, rfl, rfl, rfl⟩
  · obtain ⟨t, hrow, htfix, -, hslots, hloads⟩ := runOpcode_of_run_slots h hop hplain hs ((State.startLoad_cmds ..).trans hc)
      ((State.startLoad_fixed ..).trans hfix)
    exact ⟨t, hrow, htfix, hslots.trans ((v.addLoad l).startLoad_same l).slots, { l with stage := .header },
      hloads ▸ State.mem_loads_startLoad hlisted, rfl, rfl, rfl, rfl⟩

/-- As `runOpcode_of_addLoad`, where a slot is replaced besides. -/
theorem runOpcode_of_setSlot_addLoad (h : Passes s n q d) {op : Nat} (hop : d.opcode = op) (hplain : s.privileged d.opcode = false)
    {k : Nat} {x : Slot} {l : Load} (hs : (s.began n q d).start (s.soleCmd n q d).own d = .run u)
    (hu : u = ((s.began n q d).setSlot k x).addLoad l ∨ u = (((s.began n q d).setSlot k x).addLoad l).startLoad l) :
    ∃ t, runOpcode op n q d s = .next t ∧ t.fixed = s.fixed ∧ t.slotD k = x ∧ (∀ j, j ≠ k → t.slotD j = s.slotD j)
      ∧ ∃ m ∈ t.loads, m.order = l.order ∧ m.op = l.op ∧ m.slot = l.slot := by
  obtain ⟨t, hrow, hfix, hslots, m, hm, horder, hmop, hslot, -⟩ := runOpcode_of_addLoad h hop hplain hs hu rfl (State.setSlot_fixed ..)
  refine ⟨t, hrow, hfix, (State.slotD_of_slots hslots k).trans (State.slotD_setSlot_same ..), fun j hj => ?_, m, hm, horder, hmop, hslot⟩
  rw [State.slotD_of_slots hslots, State.slotD_setSlot_other _ _ _ hj, (s.began_same n q d).slotD]

end

section
variable (s : State) (o : Owner) {d : Desc}

theorem State.start_casLoad (h : d.opcode = 0x10) : s.start o d = s.startCasLoad o d := by rw [State.start, h]; rfl
theorem State.start_casEvict (h : d.opcode = 0x11) : s.start o d = s.startEvict o d := by rw [State.start, h]; rfl
theorem State.start_casReplace (h : d.opcode = 0x12) : s.start o d = s.startReplace o d := by rw [State.start, h]; rfl
theorem State.start_adpLoad (h : d.opcode = 0x13) : s.start o d = s.startAdpLoad o d := by rw [State.start, h]; rfl
theorem State.start_adpUnload (h : d.opcode = 0x14) : s.start o d = s.startUnload o d := by rw [State.start, h]; rfl
theorem State.start_prtBuild (h : d.opcode = 0x20) : s.start o d = s.startBuild o d := by rw [State.start, h]; rfl
theorem State.start_prtDiscard (h : d.opcode = 0x21) : s.start o d = s.startDiscard o d := by rw [State.start, h]; rfl

end

section
variable {s : State} {n q : Nat} {d : Desc}

/-! ### CAS_LOAD (R253, R265) -/

/-- The slot that a CAS_LOAD takes: the lowest EMPTY one, or the one it names, EMPTY or in want of a reload. -/
def TakesSlot (s : State) (d : Desc) (k : Nat) : Prop :=
  if d.index = anyIndex then (List.range 16).find? (fun j => (s.slotD j).st = .empty) = some k
  else k = d.index ∧ ((s.slotD k).st = .empty ∨ (s.slotD k).st = .needsReload)

theorem State.startCasLoad_of_takesSlot {o : Owner} {k : Nat} (hk : TakesSlot s d k) :
    ∃ x l u, s.startCasLoad o d = .run u ∧ x.st = .loading ∧ l.order = o.order ∧ l.op = 0x10 ∧ l.slot = k
      ∧ (u = (s.setSlot k x).addLoad l ∨ u = ((s.setSlot k x).addLoad l).startLoad l) := by
  have hstarts (v : State) (l : Load) (c : Prop) [Decidable c] : (if c then v else v.startLoad l) = v ∨
      (if c then v else v.startLoad l) = v.startLoad l := by
    split
    · exact .inl rfl
    · exact .inr rfl
  unfold TakesSlot at hk
  unfold State.startCasLoad
  dsimp only
  split at hk
  · next hany =>
    rw [if_pos hany, hk]
    exact ⟨_, _, _, rfl, rfl, rfl, rfl, rfl, hstarts _ _ _⟩
  · next hnamed =>
    rw [if_neg hnamed]
    obtain ⟨rfl, hst | hst⟩ := hk
    all_goals
      rw [hst]
      exact ⟨_, _, _, rfl, rfl, rfl, rfl, rfl, hstarts _ _ _⟩

theorem casLoad_row (h : Passes s n q d) (k : Nat) (hop : d.opcode = 0x10) (hk : TakesSlot s d k) :
    ∃ t, exec (.casLoad n q d) s = .next t ∧ t.fixed = s.fixed ∧ (t.slotD k).st = .loading ∧ (∀ j, j ≠ k → t.slotD j = s.slotD j)
      ∧ ∃ l ∈ t.loads, l.order = s.link.accepted ∧ l.op = 0x10 ∧ l.slot = k := by
  have hk' : TakesSlot (s.began n q d) d k := by
    simpa only [TakesSlot, (s.began_same n q d).slotD] using hk
  obtain ⟨x, l, u, hstart, hx, horder, hlop, hslot, hu⟩ := State.startCasLoad_of_takesSlot (o := (s.soleCmd n q d).own) hk'
  obtain ⟨t, hrow, hfix, htaken, hother, m, hm, hmorder, hmop, hmslot⟩ := runOpcode_of_setSlot_addLoad h hop (by rw [hop]; rfl)
    ((State.start_casLoad _ _ hop).trans hstart) hu
  exact ⟨t, hrow, hfix, htaken ▸ hx, hother, m, hm, hmorder.trans (horder.trans (s.soleCmd_order n q d)), hmop.trans hlop,
    hmslot.trans hslot⟩

/-! ### CAS_EVICT and CAS_REPLACE (R277, R282) -/

theorem casEvict_row (h : Passes s n q d) (hop : d.opcode = 0x11) (hfree : ∀ x ∈ s.prts, x.2.slot ≠ d.index)
    (hst : (s.slotD d.index).st = .resident ∨ (s.slotD d.index).st = .needsReload) :
    ∃ t, exec (.casEvict n q d) s = .next t ∧ t.fixed = s.fixed
      ∧ t.slotD d.index = { s.slotD d.index with st := .evicting, evictOrder := s.link.accepted }
      ∧ ∀ j, j ≠ d.index → t.slotD j = s.slotD j := by
  have hsame := s.began_same n q d
  have hnone : ((s.began n q d).prts.any fun p => p.2.slot = d.index) = false := by
    rw [hsame.prts, List.any_eq_false]
    simpa using hfree
  refine runOpcode_of_setSlot h hop (by rw [hop]; rfl) ?_
  rw [State.start_casEvict _ _ hop, State.startEvict, hnone, hsame.slotD, State.soleCmd_order]
  obtain hst | hst := hst <;> simp [hst]

theorem casReplace_row (h : Passes s n q d) (hop : d.opcode = 0x12) (hst : (s.slotD d.index).st = .resident) :
    ∃ t, exec (.casReplace n q d) s = .next t ∧ t.fixed = s.fixed ∧ t.slotD d.index = { s.slotD d.index with st := .replacing }
      ∧ (∀ j, j ≠ d.index → t.slotD j = s.slotD j) ∧ ∃ l ∈ t.loads, l.order = s.link.accepted ∧ l.op = 0x12 ∧ l.slot = d.index := by
  have hx := (s.began_same n q d).slotD d.index
  have hstart := State.start_casReplace (s.began n q d) (s.soleCmd n q d).own hop
  rw [State.startReplace, hx, if_neg (not_not.2 hst)] at hstart
  obtain ⟨t, hrow, hfix, htaken, hother, m, hm, horder, hmop, hslot⟩ := runOpcode_of_setSlot_addLoad h hop (by rw [hop]; rfl)
    hstart (.inr rfl)
  exact ⟨t, hrow, hfix, htaken, hother, m, hm, horder.trans (s.soleCmd_order n q d), hmop, hslot⟩

/-! ### ADP_LOAD and ADP_UNLOAD (R274, R275) -/

/-- An adapter index of the slot that a descriptor names is neither loaded nor being loaded. -/
def State.adapterFree (s : State) (d : Desc) (b : Nat) : Bool :=
  (Tab.find (s.slotD d.index).adapters b).isNone && s.loads.all fun l => !(l.op = 0x13 && l.slot = d.index && l.adapter = b)

theorem State.SameButCmd.adapterFree {t : State} (h : State.SameButCmd s t) : t.adapterFree d = s.adapterFree d := by
  funext b
  rw [State.adapterFree, h.slotD, h.loads, State.adapterFree]

/-- The adapter index that an ADP_LOAD takes: the lowest free one, or the one it names. -/
def TakesAdapter (s : State) (d : Desc) (a : Nat) : Prop :=
  if d.opnd 0x20 1 = 0xFF then (List.range 64).find? (s.adapterFree d) = some a
  else a = d.opnd 0x20 1 ∧ s.adapterFree d a = true ∧ (s.slotD d.index).adapters.length < 64

theorem State.adapterFree_eq_not_busy (s : State) (d : Desc) (b : Nat) : s.adapterFree d b
    = !((Tab.find (s.slotD d.index).adapters b).isSome || s.loads.any fun l => l.op = 0x13 && l.slot = d.index && l.adapter = b) := by
  rw [State.adapterFree, Bool.not_or, List.not_any_eq_all_not, Option.not_isSome]

theorem State.startAdpLoad_of_takesAdapter {o : Owner} {a : Nat} (hst : (s.slotD d.index).st = .resident) (ha : TakesAdapter s d a) :
    ∃ l, s.startAdpLoad o d = .run ((s.addLoad l).startLoad l) ∧ l.order = o.order ∧ l.op = 0x13 ∧ l.slot = d.index ∧ l.adapter = a := by
  have hpick : (if d.opnd 0x20 1 = 0xFF then (List.range 64).find? (s.adapterFree d)
      else if (s.slotD d.index).adapters.length < 64 && s.adapterFree d (d.opnd 0x20 1) then some (d.opnd 0x20 1) else none) = some a := by
    unfold TakesAdapter at ha
    split at ha
    · next hany => rw [if_pos hany, ha]
    · next hnamed =>
      obtain ⟨rfl, hfree, hroom⟩ := ha
      simp [hnamed, hfree, hroom]
  unfold State.startAdpLoad
  simp only [hst, ← State.adapterFree_eq_not_busy]
  rw [hpick]
  exact ⟨_, rfl, rfl, rfl, rfl, rfl⟩

theorem adpLoad_row (h : Passes s n q d) (a : Nat) (hop : d.opcode = 0x13) (hst : (s.slotD d.index).st = .resident)
    (ha : TakesAdapter s d a) :
    ∃ t, exec (.adpLoad n q d) s = .next t ∧ t.fixed = s.fixed ∧ t.slots = s.slots
      ∧ ∃ l ∈ t.loads, l.order = s.link.accepted ∧ l.op = 0x13 ∧ l.slot = d.index ∧ l.adapter = a := by
  have hsame := s.began_same n q d
  have ha' : TakesAdapter (s.began n q d) d a := by
    simpa only [TakesAdapter, hsame.adapterFree, hsame.slotD] using ha
  obtain ⟨l, hstart, horder, hlop, hslot, hadapter⟩ := State.startAdpLoad_of_takesAdapter (s := s.began n q d)
    (o := (s.soleCmd n q d).own) (by rw [hsame.slotD, hst]) ha'
  obtain ⟨t, hrow, hfix, hslots, m, hm, hmorder, hmop, hmslot, hmadapter⟩ := runOpcode_of_addLoad h hop (by rw [hop]; rfl)
    ((State.start_adpLoad _ _ hop).trans hstart) (.inr rfl) rfl rfl
  exact ⟨t, hrow, hfix, hslots.trans hsame.slots, m, hm, hmorder.trans (horder.trans (s.soleCmd_order n q d)), hmop.trans hlop,
    hmslot.trans hslot, hmadapter.trans hadapter⟩

/-- No object of a list uses an adapter of a slot. -/
theorem no_user_of_adapter {A : Type} {l : List A} {prt adapter : A → Nat} {i a : Nat}
    (h : ∀ x ∈ l, s.slotOf (prt x) = i → adapter x ≠ a) :
    (l.any fun y => decide (s.slotOf (prt y) = i) && decide (adapter y = a) && (s.prt (prt y)).isSome) = false := by
  rw [List.any_eq_false]
  intro x hx
  have hx := h x hx
  simp only [Bool.and_eq_true, decide_eq_true_eq, not_and]
  exact fun hused => absurd hused.2 (hx hused.1)

theorem adpUnload_row (h : Passes s n q d) (hop : d.opcode = 0x14) (hst : (s.slotD d.index).st ≠ .replacing)
    (hstr : ∀ x ∈ s.streams, s.slotOf x.2.prt = d.index → x.2.adapter ≠ d.opnd 0x20 1)
    (hseq : ∀ x ∈ s.seqs, s.slotOf x.2.prt = d.index → x.2.adapter ≠ d.opnd 0x20 1)
    (hwait : ∀ u ∈ (s.slotD d.index).unloads, u.1 ≠ d.opnd 0x20 1) :
    ∃ t, exec (.adpUnload n q d) s = .next t ∧ t.fixed = s.fixed
      ∧ t.slotD d.index = { s.slotD d.index with unloads := (s.slotD d.index).unloads ++ [(d.opnd 0x20 1, s.link.accepted)] }
      ∧ ∀ j, j ≠ d.index → t.slotD j = s.slotD j := by
  have hsame := s.began_same n q d
  have hstreams := no_user_of_adapter (prt := fun y : Nat × Stream => y.2.prt) (adapter := fun y => y.2.adapter) hstr
  have hseqs := no_user_of_adapter (prt := fun y : Nat × Seq => y.2.prt) (adapter := fun y => y.2.adapter) hseq
  have hwaits : ((s.slotD d.index).unloads.any fun u => u.1 = d.opnd 0x20 1) = false := by
    rw [List.any_eq_false]
    simpa using hwait
  refine runOpcode_of_setSlot h hop (by rw [hop]; rfl) ?_
  rw [State.start_adpUnload _ _ hop, State.startUnload]
  simp only [hsame.slotD, hsame.slotOf, hsame.prt, hsame.streams, hsame.seqs, hstreams, hseqs, hwaits, State.soleCmd_order, if_neg hst]
  rfl

/-! ### PRT_BUILD and PRT_DISCARD (R401, R403) -/

/-- The row of an unprivileged command whose effect replaces a partition. -/
theorem runOpcode_of_setPrt (h : Passes s n q d) {op : Nat} (hop : d.opcode = op) (hplain : s.privileged d.opcode = false) {p : Nat}
    {x : Prt} (hs : (s.began n q d).start (s.soleCmd n q d).own d = .run ((s.began n q d).setPrt p x)) :
    ∃ t, runOpcode op n q d s = .next t ∧ t.fixed = s.fixed ∧ t.prt p = some x ∧ ∀ j, j ≠ p → t.prt j = s.prt j := by
  obtain ⟨t, hrow, hledger, hfix⟩ := runOpcode_of_run_fixed h hop hs (State.began_unfenced h)
    ((State.setPrt_fixed ..).trans (State.began_fixed_of_plain hplain))
  refine ⟨t, hrow, hfix, ?_, fun j hj => ?_⟩
  · rw [State.prt, State.prts_of_ledger hledger]
    exact Tab.find_put_same ..
  · rw [State.prt, State.prts_of_ledger hledger]
    exact (Tab.find_put_other _ _ _ _ hj).trans ((s.began_same n q d).prt j)

theorem State.pannierFits_stageTo (e : State) (o : Owner) (st : CmdStage) (rows gears : Nat) (layers : List Layer) (g : Graph)
    (pass : Nat → Nat) : (e.stageTo o st).pannierFits rows gears layers g pass = e.pannierFits rows gears layers g pass := rfl

theorem State.startBuild_of_free {o : Owner} {g : Graph} (hpwr : s.pwr.st ≠ .listen) (hnew : s.prt d.index = none)
    (hrows : ∀ x ∈ s.prts, Nat.land x.2.rows (d.opnd 0x20 1) = 0)
    (hg : (s.slotD (d.opnd 0x21 1)).graphs[d.opnd 0x22 1]? = some g) (hpel : d.opnd 0x23 1 ≤ g.maxPel)
    (hfits : s.pannierFits (d.opnd 0x20 1) (s.slotD (d.opnd 0x21 1)).gears (s.slotD (d.opnd 0x21 1)).layers g g.passPositions = true) :
    ∃ x, s.startBuild o d = .run (s.setPrt d.index x) ∧ x.st = .building ∧ x.built = false ∧ x.rows = d.opnd 0x20 1
      ∧ x.slot = d.opnd 0x21 1 ∧ x.graph = d.opnd 0x22 1 ∧ x.maxPel = d.opnd 0x23 1 ∧ x.order = o.order := by
  have hany : (s.prts.any fun x => Nat.land x.2.rows (d.opnd 0x20 1) ≠ 0) = false := by
    rw [List.any_eq_false]
    simpa using hrows
  have hpel' : ¬ g.maxPel < d.opnd 0x23 1 := Nat.not_lt.2 hpel
  unfold State.startBuild
  simp only [if_neg hpwr, hg, Option.getD_some, hnew, hany, hpel', hfits]
  exact ⟨_, rfl, rfl, rfl, rfl, rfl, rfl, rfl, rfl⟩

theorem prtBuild_row (h : Passes s n q d) (g : Graph) (hop : d.opcode = 0x20) (hpwr : s.pwr.st ≠ .listen) (hnew : s.prt d.index = none)
    (hrows : ∀ x ∈ s.prts, Nat.land x.2.rows (d.opnd 0x20 1) = 0)
    (hg : (s.slotD (d.opnd 0x21 1)).graphs[d.opnd 0x22 1]? = some g) (hpel : d.opnd 0x23 1 ≤ g.maxPel)
    (hfits : (s.entered n q d).pannierFits (d.opnd 0x20 1) (s.slotD (d.opnd 0x21 1)).gears (s.slotD (d.opnd 0x21 1)).layers g
      g.passPositions = true) :
    ∃ t x, exec (.prtBuild n q d) s = .next t ∧ t.fixed = s.fixed ∧ t.prt d.index = some x ∧ x.st = .building ∧ x.built = false
      ∧ x.rows = d.opnd 0x20 1 ∧ x.slot = d.opnd 0x21 1 ∧ x.graph = d.opnd 0x22 1 ∧ x.maxPel = d.opnd 0x23 1
      ∧ x.order = s.link.accepted ∧ ∀ j, j ≠ d.index → t.prt j = s.prt j := by
  have hplain : s.privileged d.opcode = false := by rw [hop]; rfl
  have hsame := s.began_same n q d
  obtain ⟨x, hstart, hst, hbuilt, hxrows, hslot, hgraph, hxpel, horder⟩ := State.startBuild_of_free (s := s.began n q d)
    (o := (s.soleCmd n q d).own) (by rw [hsame.pwr]; exact hpwr) (by rw [hsame.prt, hnew]) (by rw [hsame.prts]; exact hrows)
    (by rw [hsame.slotD, hg]) hpel (by rw [hsame.slotD, State.began_of_plain hplain, State.pannierFits_stageTo, hfits])
  obtain ⟨t, hrow, hfix, hprt, hother⟩ := runOpcode_of_setPrt h hop hplain ((State.start_prtBuild _ _ hop).trans hstart)
  exact ⟨t, x, hrow, hfix, hprt, hst, hbuilt, hxrows, hslot, hgraph, hxpel, horder.trans (s.soleCmd_order n q d), hother⟩

/-- Where no command is held or waits for check 11, the new one finds none that names its partition. -/
theorem State.heldFor_began (hidle : ∀ c ∈ s.link.cmds, c.stage ≠ .held ∧ c.stage ≠ .check11) (p : Nat) :
    (s.began n q d).heldFor p (s.soleCmd n q d).own = false := by
  rw [State.heldFor, List.any_eq_false, State.began_cmds, State.soleCmd_order]
  intro c hc
  obtain ⟨x, hx, rfl⟩ := List.mem_map.1 hc
  by_cases hnew : x.own.order = s.link.accepted
  · simp [hnew]
  · obtain hx | hx := List.mem_append.1 hx
    · obtain ⟨hheld, hcheck⟩ := hidle x hx
      simp [hnew, hheld, hcheck]
    · rw [List.mem_singleton.1 hx, State.soleCmd_order] at hnew
      exact absurd rfl hnew

theorem prtDiscard_row (h : Passes s n q d) (x : Prt) (hop : d.opcode = 0x21) (hpwr : s.pwr.st ≠ .listen) (hx : s.prt d.index = some x)
    (hbuilding : x.st ≠ .building) (hdiscarding : x.st ≠ .discarding) (hstr : s.strOf d.index = []) (hseq : s.seqOf d.index = [])
    (hidle : ∀ c ∈ s.link.cmds, c.stage ≠ .held ∧ c.stage ≠ .check11) :
    ∃ t, exec (.prtDiscard n q d) s = .next t ∧ t.fixed = s.fixed
      ∧ t.prt d.index = some { x with st := .discarding, order := s.link.accepted, stroke := none, round := none }
      ∧ ∀ j, j ≠ d.index → t.prt j = s.prt j := by
  have hsame := s.began_same n q d
  have hx' : (s.began n q d).prt d.index = some x := (hsame.prt _).trans hx
  have hstr' : (s.began n q d).strOf d.index = [] := by rw [State.strOf, hsame.streams]; exact hstr
  have hseq' : (s.began n q d).seqOf d.index = [] := by rw [State.seqOf, hsame.seqs]; exact hseq
  have hpwr' : (s.began n q d).pwr.st ≠ .listen := by rw [hsame.pwr]; exact hpwr
  refine runOpcode_of_setPrt h hop (by rw [hop]; rfl) ?_
  rw [State.start_prtDiscard _ _ hop, State.startDiscard, if_neg hpwr', hx']
  simp [hbuilding, hdiscarding, hstr', hseq', State.heldFor_began hidle, State.soleCmd_order]

end

/-- Settles O48: each row is the visit that admits its command, whose effect the opcode's equation gives. -/
theorem cassetteCommands : Obligations.CassetteCommands := fun _ _ _ _ h =>
  ⟨casLoad_row h, casEvict_row h, casReplace_row h, adpLoad_row h, adpUnload_row h, prtBuild_row h, prtDiscard_row h⟩

end Sys2Proof.Machine

namespace Sys2Proof.Machine
open Sys2Proof

section
variable {s t : State} {order : Nat} {bytes : List Byte} {l : Load}

/-! ### Transfers that end (R264, R265) -/

theorem State.load_of_loads (h : t.loads = s.loads) (order : Nat) : t.load order = s.load order := by
  rw [State.load, h, State.load]

theorem State.order_of_load (h : s.load order = some l) : l.order = order := by
  simpa using List.find?_some h

theorem State.modSlot_loads (s : State) (k : Nat) (f : Slot → Slot) : (s.modSlot k f).loads = s.loads := by
  unfold State.modSlot
  split <;> rfl

theorem State.lastResult_loads (s : State) (k op code : Nat) : (s.lastResult k op code).loads = s.loads := State.modSlot_loads ..

theorem State.emptySlot_loads (s : State) (k : Nat) : (s.emptySlot k).loads = s.loads := State.modSlot_loads ..

/-- A transfer that fails is listed no more; the others stand. -/
theorem State.failLoad_loads (h : s.load order = some l) (code result : Nat) :
    (s.failLoad order code result).loads = s.loads.filter fun x => x.order ≠ order := by
  have hempty (u : State) (c : Bool) (k : Nat) : (if c then u.emptySlot k else u).loads = u.loads := by
    split
    · exact State.emptySlot_loads ..
    · rfl
  rw [State.load] at h
  rw [State.failLoad, h]
  dsimp only
  rw [(State.decide_same ..).loads, State.raiseBit_loads, State.recordErrAt, State.recordErr_loads, hempty, State.lastResult_loads,
    State.modSlot_loads]
  rfl

theorem State.load_failLoad (h : s.load order = some l) (code result : Nat) : (s.failLoad order code result).load order = none := by
  rw [State.load, State.failLoad_loads h, List.find?_eq_none]
  intro x hx
  simpa using (List.mem_filter.1 hx).2

theorem find_transfer_replaced {k : List Load} {m : Load} (hk : k.find? (fun x => x.order = order) = some l) (hm : m.order = order) :
    (k.map fun x => if x.order = order then m else x).find? (fun x => x.order = order) = some m := by
  induction k with
  | nil => cases hk
  | cons x k ih =>
    by_cases hx : x.order = order
    · simp [hx, hm]
    · rw [List.find?_cons_of_neg (by simpa using hx)] at hk
      rw [List.map_cons, if_neg hx, List.find?_cons_of_neg (by simpa using hx), ih hk]

/-- A transfer that is changed is found under its number. -/
theorem State.load_setLoad (h : s.load order = some l) {m : Load} (hm : m.order = order) : (s.setLoad m).load order = some m := by
  rw [State.load, State.setLoad, hm]
  exact find_transfer_replaced h hm

theorem State.reading_of_load (h : s.load order = some l) (hcut : l.cut = false) : s.reading order l.stage = true := by
  rw [State.reading, h]
  simp [hcut]

/-! ### The three parts of an image (R263 to R265) -/

/-- The outcome of checks 1 to 4 of a transfer's header (Table 9-4). -/
def State.headerCode (s : State) (order : Nat) (l : Load) (bytes : List Byte) : Option Nat :=
  headerCheck (slice bytes 0 256) l.op ((s.imageAt order).2 / 4096) s.part.sigPolicy s.part.sealFuse
    (Config.cassetteKey (BitVec.ofNat 32 (fwVersion s.boot.image)))

theorem State.headerArrived_of_load (h : s.load order = some l) : s.headerArrived order bytes
    = match s.headerCode order l bytes with
      | some code => (s.readEnds l.rider).failLoad order code
      | none => ((s.readEnds l.rider).setLoad { l with stage := .tables, bytes := slice bytes 0 256 }).dmaRead l.rider l.rider
          ((s.imageAt order).1 + 256) ((s.imageAt order).2 - 256) := by
  rw [State.headerArrived, h]
  rfl

theorem State.headerArrived_refused (h : s.load order = some l) (hcode : s.headerCode order l bytes ≠ none) :
    (s.headerArrived order bytes).load order = none := by
  obtain ⟨code, hcode⟩ := Option.ne_none_iff_exists'.1 hcode
  rw [State.headerArrived_of_load h, hcode]
  exact State.load_failLoad (s := s.readEnds l.rider) h ..

theorem State.headerArrived_passed (h : s.load order = some l) (hcode : s.headerCode order l bytes = none) :
    (s.headerArrived order bytes).load order = some { l with stage := .tables, bytes := slice bytes 0 256 } := by
  have horder : l.order = order := State.order_of_load h
  rw [State.headerArrived_of_load h, hcode]
  exact (State.load_of_loads (State.dmaRead_same ..).loads order).trans
    (State.load_setLoad (s := s.readEnds l.rider) h horder)

theorem State.tablesArrived_refused (h : s.load order = some l) (htables : tablesOk (l.bytes ++ bytes) = false) :
    (s.tablesArrived order bytes).load order = none := by
  rw [State.tablesArrived, h]
  simp only [htables]
  exact State.load_failLoad h ..

/-- The diagnostic word of a cassette's graphs that cannot be lowered (R307), once its last byte has arrived. -/
def Load.lowering (l : Load) (b : List Byte) : Option Nat :=
  lowerAll (imgGears b) (imgGraphVersion b) (rowsSpokes l.rows) (imgGraphs b) l.entries 0 [] (imgGraphsOf b)

/-- A cassette's transfer whose bytes have passed every check, with the time at which its lowering ends. -/
def Load.readyAs (l : Load) (b : List Byte) (at_ : Nat) : Load :=
  { l with bytes := b, graphs := (imgGraphsOf b).map Prod.fst, stage := .ready, readyAt := at_ }

theorem State.lastByte_of_bad_digest (h : s.load order = some l) (hdigest : digestOk (l.bytes ++ bytes) = false) :
    (s.lastByte order bytes).load order = none := by
  rw [State.lastByte, h]
  simp only [hdigest]
  exact State.load_failLoad (s := s.readEnds l.rider) h ..

theorem State.lastByte_of_cassette (h : s.load order = some l) (hdigest : digestOk (l.bytes ++ bytes) = true) (hop : l.op = 0x10) :
    s.lastByte order bytes = match l.lowering (l.bytes ++ bytes) with
      | some w => (s.readEnds l.rider).failLoad order 0x0609 w
      | none => (s.readEnds l.rider).setLoad (l.readyAs (l.bytes ++ bytes) (s.now + lowerUs (l.bytes ++ bytes))) := by
  have hcassette : l.op ≠ 0x13 := by rw [hop]; decide
  rw [State.lastByte, h]
  simp only [hdigest, if_pos hop, if_neg hcassette]
  rfl

theorem State.lastByte_not_lowered (h : s.load order = some l) (hdigest : digestOk (l.bytes ++ bytes) = true) (hop : l.op = 0x10)
    (hlow : l.lowering (l.bytes ++ bytes) ≠ none) : (s.lastByte order bytes).load order = none := by
  obtain ⟨w, hlow⟩ := Option.ne_none_iff_exists'.1 hlow
  rw [State.lastByte_of_cassette h hdigest hop, hlow]
  exact State.load_failLoad (s := s.readEnds l.rider) h ..

theorem State.lastByte_lowered (h : s.load order = some l) (hdigest : digestOk (l.bytes ++ bytes) = true) (hop : l.op = 0x10)
    (hlow : l.lowering (l.bytes ++ bytes) = none) :
    ∃ m, (s.lastByte order bytes).load order = some m ∧ m.stage = .ready ∧ m.readyAt = s.now + lowerUs (l.bytes ++ bytes)
      ∧ m.bytes = l.bytes ++ bytes := by
  have horder : l.order = order := State.order_of_load h
  rw [State.lastByte_of_cassette h hdigest hop, hlow]
  exact ⟨_, State.load_setLoad (s := s.readEnds l.rider) h horder, rfl, rfl, rfl⟩

/-! ### The rows -/

theorem imageHeaderArrived_works (ha : s.alive = true) (h : s.load order = some l) (hcut : l.cut = false) (hst : l.stage = .header) :
    Works (.imageHeaderArrived order bytes) s (s.headerArrived order bytes) := by
  have hread : s.reading order .header = true := hst ▸ State.reading_of_load h hcut
  exact ⟨runCmdIf_alive (fun s => s.reading order .header) (fun s => s.headerArrived order bytes) s ha hread, State.headerArrived_fixed ..⟩

theorem imageTablesArrived_works (ha : s.alive = true) (h : s.load order = some l) (hcut : l.cut = false) (hst : l.stage = .tables) :
    Works (.imageTablesArrived order bytes) s (s.tablesArrived order bytes) := by
  have hread : s.reading order .tables = true := hst ▸ State.reading_of_load h hcut
  exact ⟨runCmdIf_alive (fun s => s.reading order .tables) (fun s => s.tablesArrived order bytes) s ha hread, State.tablesArrived_fixed ..⟩

theorem imageLastByte_works (ha : s.alive = true) (h : s.load order = some l) (hcut : l.cut = false) (hst : l.stage = .weights)
    (hstaged : l.staged = true) : Works (.imageLastByte order bytes) s (s.lastByte order bytes) := by
  have hread : s.reading order .weights = true := hst ▸ State.reading_of_load h hcut
  have hplaced : s.placed order = true := by rw [State.placed, h]; exact hstaged
  have hready : (s.reading order .weights && s.placed order) = true := by rw [hread, hplaced]; rfl
  exact ⟨runCmdIf_alive (fun s => s.reading order .weights && s.placed order) (fun s => s.lastByte order bytes) s ha hready,
    State.lastByte_fixed ..⟩

end

/-- Settles O50: each row runs the arrival of its part, and a check that fails takes the transfer off the list. -/
theorem imagesAreChecked : Obligations.ImagesAreChecked := fun _ _ _ _ ha h hcut =>
  ⟨fun hst => ⟨_, imageHeaderArrived_works ha h hcut hst,
      fun hcode => ⟨_, State.headerArrived_passed h hcode, rfl, rfl, rfl, rfl⟩, State.headerArrived_refused h⟩,
    fun hst => ⟨_, imageTablesArrived_works ha h hcut hst, State.tablesArrived_refused h⟩,
    fun hst hplaced => ⟨_, imageLastByte_works ha h hcut hst hplaced, State.lastByte_of_bad_digest h,
      fun hdigest hop => ⟨State.lastByte_not_lowered h hdigest hop, State.lastByte_lowered h hdigest hop⟩⟩⟩

end Sys2Proof.Machine

namespace Sys2Proof.Machine
open Sys2Proof

section
variable {s : State} {p r : Nat} {x : Prt}

/-! ### A partition that is changed -/

theorem State.modPrt_of_prt (h : s.prt p = some x) (f : Prt → Prt) : s.modPrt p f = s.setPrt p (f x) := by
  rw [State.modPrt, h]

theorem State.modPrt_mem (s : State) (p : Nat) (f : Prt → Prt) : (s.modPrt p f).mem = s.mem := by
  unfold State.modPrt
  split <;> rfl

theorem State.ite_modPrt_mem (c : Prop) [Decidable c] (s : State) (p : Nat) (f : Prt → Prt) :
    (if c then s else s.modPrt p f).mem = s.mem := by
  split
  · rfl
  · exact State.modPrt_mem ..

/-! ### The 2 ms step of a partition reset (R423) -/

theorem State.clearDue_of_resetting (h : s.prt p = some x) (hst : x.st = .resetting) (hrebuild : x.rebuild = false)
    (hcleared : x.cleared = none) : s.clearDue p = true := by
  simp [State.clearDue, h, hst, hrebuild, hcleared]

theorem partitionResetCleared_works (ha : s.alive = true) (hrun : s.hubRuns 1 = true) (h : s.prt p = some x) (hdue : s.clearDue p = true) :
    Works (.partitionResetCleared p) s (s.setPrt p { x with cleared := some s.now }) := by
  refine ⟨?_, State.setPrt_fixed ..⟩
  rw [← State.modPrt_of_prt h fun x => { x with cleared := some s.now }]
  exact runCmdIf_alive (fun s => s.hubRuns 1 && s.clearDue p) (fun s => s.modPrt p fun x => { x with cleared := some s.now }) s ha
    (by rw [hrun, hdue]; rfl)

/-! ### The rebuild of a row (R334) -/

/-- A row that is rebuilt waits no more, whatever its spare's test finds and whether or not its partition waits for other rows. -/
theorem State.find_renumber_rebuildRow (s : State) (r : Nat) (good : Bool) :
    Tab.find (s.rebuildRow r good).mem.renumber r = none := by
  unfold State.rebuildRow
  dsimp only
  rw [State.ite_modPrt_mem]
  exact Tab.find_erase_same ..

theorem partitionRebuild_works (ha : s.alive = true) (hrun : s.hubRuns 1 = true) (hdue : s.rebuildDue r = true) (good : Bool) :
    Works (.partitionRebuild r good) s (s.rebuildRow r good) :=
  ⟨runCmdIf_alive (fun s => s.hubRuns 1 && s.rebuildDue r) (fun s => s.rebuildRow r good) s ha (by rw [hrun, hdue]; rfl),
    State.rebuildRow_fixed ..⟩

/-! ### The end of a build (R401) -/

theorem State.buildDue_of_building (h : s.prt p = some x) (hst : x.st = .building) (hbuilt : x.built = false) : s.buildDue p = true := by
  simp [State.buildDue, h, hst, hbuilt]

/-- The end of a build marks the partition and writes a log entry. -/
theorem State.buildDone_of_prt (h : s.prt p = some x) :
    s.buildDone p = (s.setPrt p { x with built := true }).log 1 2 0x8004 p x.rows 0 := by
  rw [State.buildDone, h]

theorem State.buildDone_frame (h : s.prt p = some x) :
    (s.buildDone p).prt p = some { x with built := true } ∧ (∀ q, q ≠ p → (s.buildDone p).prt q = s.prt q)
      ∧ (s.buildDone p).mem = s.mem ∧ (s.buildDone p).slots = s.slots := by
  rw [State.buildDone_of_prt h]
  refine ⟨?_, fun q hq => ?_, State.log_mem .., State.log_slots ..⟩
  · rw [State.prt, State.log_prts]
    exact Tab.find_put_same ..
  · rw [State.prt, State.log_prts]
    exact Tab.find_put_other _ _ _ _ hq

theorem prtBuildDone_works (ha : s.alive = true) (hrun : s.hubRuns 1 = true) (hdue : s.buildDue p = true) :
    Works (.prtBuildDone p) s (s.buildDone p) :=
  ⟨runCmdIf_alive (fun s => s.hubRuns 1 && s.buildDue p) (fun s => s.buildDone p) s ha (by rw [hrun, hdue]; rfl),
    State.buildDone_fixed ..⟩

end

/-- Settles O44: while the SERVE hub runs each row does its work, and the three works say what becomes of the partition or row. -/
theorem partitionsAreBuiltAndRebuilt : Obligations.PartitionsAreBuiltAndRebuilt := fun _ _ r ha hserve =>
  have hrun := decide_eq_true hserve
  ⟨fun _ h hst hrebuild hcleared =>
      partitionResetCleared_works ha hrun h (State.clearDue_of_resetting h hst hrebuild hcleared),
    fun hdue good => ⟨_, partitionRebuild_works ha hrun hdue good, State.find_renumber_rebuildRow _ r good⟩,
    fun _ h hst hbuilt =>
      ⟨_, prtBuildDone_works ha hrun (State.buildDue_of_building h hst hbuilt), State.buildDone_frame h⟩⟩

end Sys2Proof.Machine

namespace Sys2Proof.Machine
open Sys2Proof

/-! ### What sending leaves of a port (R441, R442)

Flits that leave a port change its sending side only: the number expected of the partner and the count of replays stand. -/

/-- `y` differs from `x` in the sequence numbers, queues and credits of the sending side at most. -/
def TanPort.SameButTx (x y : TanPort) : Prop :=
  y = { x with txSeq := y.txSeq, unacked := y.unacked, again := y.again, waiting := y.waiting, ackAt := y.ackAt, credit0 := y.credit0,
               credit1 := y.credit1 }

section
variable {x y z : TanPort}

theorem TanPort.SameButTx.refl (x : TanPort) : TanPort.SameButTx x x := rfl

theorem TanPort.SameButTx.trans (h : TanPort.SameButTx x y) (k : TanPort.SameButTx y z) : TanPort.SameButTx x z := by
  unfold TanPort.SameButTx at *
  rw [k, h]

theorem TanPort.SameButTx.rxNext (h : TanPort.SameButTx x y) : y.rxNext = x.rxNext := by rw [show y = _ from h]
theorem TanPort.SameButTx.replays (h : TanPort.SameButTx x y) : y.replays = x.replays := by rw [show y = _ from h]

theorem TanPort.SameButTx.spend (h : TanPort.SameButTx x y) (m : TanMsg) : TanPort.SameButTx x (y.spend m) := by
  refine h.trans ?_
  unfold TanPort.spend
  split
  · rfl
  · split <;> rfl
  · rfl

end

section
variable {s t u : State}

theorem State.tport_modTport (s : State) (p : Nat) (f : TanPort → TanPort) : (s.modTport p f).tport p = f (s.tport p) :=
  State.tport_setTport ..

theorem State.pumpOne_sameButTx (s : State) (p : Nat) : TanPort.SameButTx (s.tport p) ((s.pumpOne p).tport p) := by
  unfold State.pumpOne
  dsimp only
  split
  · rfl
  · split
    · split
      · rw [State.tport_setTport]
        rfl
      · split
        · rw [State.tport_of_tan (State.emit_tan ..), State.tport_setTport]
          exact TanPort.SameButTx.spend (by rfl) _
        · rfl
    · split
      · rfl
      · split
        · rfl
        · rw [State.tport_of_tan (State.count48_tan ..), State.tport_of_tan (State.emit_tan ..), State.tport_setTport]
          exact TanPort.SameButTx.spend (by rfl) _

theorem State.pump_sameButTx (s : State) (p : Nat) : TanPort.SameButTx (s.tport p) ((s.pump p).tport p) := by
  unfold State.pump
  generalize List.range _ = l
  induction l generalizing s with
  | nil => exact .refl _
  | cons _ l ih => exact (s.pumpOne_sameButTx p).trans (ih _)

/-! ### Registers that sending leaves -/

/-- A 48-bit counter changes its two words, and the page's interrupt status at its maximum (R117). -/
theorem State.rd_count48_other (s : State) (off n : Nat) {o : Nat} (hlo : o ≠ off) (hhi : o ≠ off + 4)
    (hs : o ≠ hdrOff (off / 0x1000) 0x010) : (s.count48 off n).rd o = s.rd o := by
  have hpair (v : Nat) : (s.wr64 off v).rd o = s.rd o := by
    rw [State.wr64, State.rd_wr_other _ _ _ _ hhi, State.rd_wr_other _ _ _ _ hlo]
  unfold State.count48
  dsimp only
  split
  · rfl
  · split
    · rw [State.rd_raiseBit_other _ _ _ _ hs, hpair]
    · exact hpair _

/-- Register `o` is neither the transmit counter of port `p` nor the interrupt status of its page. -/
def ApartFromTx (p o : Nat) : Prop :=
  o ≠ Reg.TAN_TX_FLITS_LO p ∧ o ≠ Reg.TAN_TX_FLITS_LO p + 4 ∧ o ≠ hdrOff (Reg.TAN_TX_FLITS_LO p / 0x1000) 0x010

theorem replays_apartFromTx (p : Nat) : ApartFromTx p (Reg.TAN_REPLAYS p) := by
  simp only [ApartFromTx, hdrOff, Reg.TAN_REPLAYS, Reg.TAN_TX_FLITS_LO]
  omega

theorem crcErrs_ne_status (p : Nat) : Reg.TAN_CRC_ERRS p ≠ hdrOff (Reg.TAN_CRC_ERRS p / 0x1000) 0x010 := by
  simp only [hdrOff, Reg.TAN_CRC_ERRS]
  omega

theorem replays_ne_status (p : Nat) : Reg.TAN_REPLAYS p ≠ hdrOff (Reg.TAN_REPLAYS p / 0x1000) 0x010 := by
  simp only [hdrOff, Reg.TAN_REPLAYS]
  omega

theorem State.rd_pumpOne_other (s : State) {p o : Nat} (h : ApartFromTx p o) : (s.pumpOne p).rd o = s.rd o := by
  obtain ⟨hlo, hhi, hs⟩ := h
  unfold State.pumpOne
  dsimp only
  split
  · rfl
  · split
    · split
      · rfl
      · split <;> rfl
    · split
      · rfl
      · split
        · rfl
        · exact State.rd_count48_other _ _ _ hlo hhi hs

theorem State.rd_pump_other (s : State) {p o : Nat} (h : ApartFromTx p o) : (s.pump p).rd o = s.rd o := by
  unfold State.pump
  generalize List.range _ = l
  induction l generalizing s with
  | nil => rfl
  | cons _ l ih => exact (ih _).trans (s.rd_pumpOne_other h)

/-! ### Acknowledgements and discarded flits (R441) -/

theorem State.acked_regs (s : State) (p n : Nat) : (s.acked p n).regs = s.regs := by
  unfold State.acked
  dsimp only
  split <;> rfl

theorem State.rd_acked (s : State) (p n o : Nat) : (s.acked p n).rd o = s.rd o :=
  State.rd_congr (s.acked_regs p n) (State.part_of_fixed (s.acked_fixed p n)) o

theorem State.acked_rxNext (s : State) (p n : Nat) : ((s.acked p n).tport p).rxNext = (s.tport p).rxNext := by
  unfold State.acked
  dsimp only
  split
  · rfl
  · rw [State.tport_setTport]

/-- An acknowledgement that advances ends the row of replays; another leaves it. -/
theorem State.acked_replays_le (s : State) (p n : Nat) : ((s.acked p n).tport p).replays ≤ (s.tport p).replays := by
  unfold State.acked
  dsimp only
  split
  · rfl
  · rw [State.tport_setTport]
    exact Nat.zero_le _

theorem State.tanSend_null (s : State) (p : Nat) :
    s.tanSend p .null = if (s.tport p).carries then s.emit (.tandem p .null) else s := rfl

theorem State.discardFlit_rd (s : State) (p o : Nat) : (s.discardFlit p).rd o = s.rd o := by
  unfold State.discardFlit
  split
  · rfl
  · rw [State.tanSend_null]
    split <;> rfl

theorem State.discardFlit_rxNext (s : State) (p : Nat) : ((s.discardFlit p).tport p).rxNext = (s.tport p).rxNext := by
  unfold State.discardFlit
  split
  · rfl
  · rw [State.tanSend_null]
    split
    · rw [State.tport_of_tan (State.emit_tan ..), State.tport_modTport]
    · rw [State.tport_modTport]

/-! ### Flits received (R439, R441) -/

variable {p : Nat} {f : List Byte}

theorem State.flitReceive_of_bad (h : flitOk f = false) :
    s.flitReceive p f = (s.count (Reg.TAN_CRC_ERRS p) 1).discardFlit p := by
  rw [State.flitReceive, h]
  rfl

theorem State.flitReceive_counts_of_bad (h : flitOk f = false) : Counts s (s.flitReceive p f) (Reg.TAN_CRC_ERRS p) 1 := by
  rw [State.flitReceive_of_bad h]
  exact Counts.congr rfl (State.discardFlit_rd ..) (Counts.count s _ 1 (crcErrs_ne_status p))

theorem State.flitReceive_rxNext_of_bad (h : flitOk f = false) : ((s.flitReceive p f).tport p).rxNext = (s.tport p).rxNext := by
  rw [State.flitReceive_of_bad h, State.discardFlit_rxNext, State.tport_of_tan (State.count_tan ..)]

/-- The state after a good flit's acknowledgement and credits, and what they let go. -/
def State.flitCredited (s : State) (p : Nat) (f : List Byte) : State :=
  ((s.acked p (leAt f 4 2 % 4096)).modTport p fun x =>
    { x with credit0 := x.credit0 + leAt f 6 1, credit1 := x.credit1 + leAt f 7 1 }).pump p

theorem State.flitCredited_rxNext (s : State) (p : Nat) (f : List Byte) :
    ((s.flitCredited p f).tport p).rxNext = (s.tport p).rxNext := by
  rw [State.flitCredited, (State.pump_sameButTx ..).rxNext, State.tport_modTport, State.acked_rxNext]

/-- A good numbered flit that asks for no replay is accepted where it has the number expected. -/
theorem State.flitReceive_of_expected (hok : flitOk f = true) (hnak : (leAt f 1 1).testBit 0 = false) (h0 : leAt f 0 1 ≠ 0)
    (h2 : leAt f 0 1 ≠ 2) (hnum : leAt f 2 2 % 4096 = (s.tport p).rxNext) :
    s.flitReceive p f = ((s.flitCredited p f).modTport p fun x =>
      { x with rxNext := (x.rxNext + 1) % 4096, nakOpen := false }).count48 (Reg.TAN_RX_FLITS_LO p) 1 := by
  have htype : ¬ (leAt f 0 1 = 0 || leAt f 0 1 = 2) = true := by simp [h0, h2]
  have hnext : leAt f 2 2 % 4096 = ((s.flitCredited p f).tport p).rxNext := hnum.trans (s.flitCredited_rxNext p f).symm
  rw [State.flitReceive, hok, hnak]
  exact (if_neg htype).trans (if_pos hnext)

theorem State.flitReceive_accepts (hok : flitOk f = true) (hnak : (leAt f 1 1).testBit 0 = false) (h0 : leAt f 0 1 ≠ 0)
    (h2 : leAt f 0 1 ≠ 2) (hnum : leAt f 2 2 % 4096 = (s.tport p).rxNext) :
    ((s.flitReceive p f).tport p).rxNext = ((s.tport p).rxNext + 1) % 4096 ∧ ((s.flitReceive p f).tport p).nakOpen = false := by
  rw [State.flitReceive_of_expected hok hnak h0 h2 hnum, State.tport_of_tan (State.count48_tan ..), State.tport_modTport,
    ← s.flitCredited_rxNext p f]
  exact ⟨rfl, rfl⟩

/-! ### Replays (R441) -/

/-- A replay of flits that are unacknowledged counts, and is at most one more in a row than before. -/
theorem State.replay_of_unacked (h : (s.tport p).unacked ≠ []) :
    Counts s (s.replay p) (Reg.TAN_REPLAYS p) 1 ∧ ((s.replay p).tport p).replays ≤ (s.tport p).replays + 1 := by
  unfold State.replay
  dsimp only
  split
  · next hnil => exact absurd hnil h
  · refine ⟨Counts.congr (s := s.setTport p _) rfl (State.rd_pump_other _ (replays_apartFromTx p))
      (Counts.count _ _ 1 (replays_ne_status p)), ?_⟩
    rw [(State.pump_sameButTx ..).replays, State.tport_of_tan (State.count_tan ..), State.tport_setTport]
    dsimp only
    split <;> omega

theorem State.replayStep_of_acked (h : (s.tport p).unacked = []) : s.replayStep p = s := if_pos h

/-- Below the limit of eight a replay is all that happens: the port does not narrow. -/
theorem State.replayStep_counts (h : (s.tport p).unacked ≠ []) (hlt : (s.tport p).replays < 7) :
    Counts s (s.replayStep p) (Reg.TAN_REPLAYS p) 1 := by
  obtain ⟨hcounts, hle⟩ := State.replay_of_unacked h
  have hlimit : ¬ 8 ≤ ((s.replay p).tport p).replays := by omega
  rw [State.replayStep, if_neg h]
  dsimp only
  rwa [if_neg hlimit]

theorem State.replayStep_acked_counts {n : Nat} (h : ((s.acked p n).tport p).unacked ≠ []) (hlt : (s.tport p).replays < 7) :
    Counts s ((s.acked p n).replayStep p) (Reg.TAN_REPLAYS p) 1 :=
  Counts.congr (s.rd_acked p n _).symm rfl (State.replayStep_counts h ((s.acked_replays_le p n).trans_lt hlt))

/-! ### Pairing (R445) -/

variable {x : Pairing} {own peer : Nat}

/-- The control side of `t` differs from that of `s` in the pairing records of the part at most. -/
def State.FixedButRecords (s t : State) : Prop := t.fixed = { s.fixed with part := { s.part with tanRecords := t.part.tanRecords } }

theorem State.FixedButRecords.of_fixed (h : t.fixed = s.fixed) : State.FixedButRecords s t := by
  rw [State.FixedButRecords, h, State.part_of_fixed h]
  rfl

theorem State.FixedButRecords.after_fixed (h : t.fixed = s.fixed) (k : State.FixedButRecords t u) : State.FixedButRecords s u := by
  rw [State.FixedButRecords, show u.fixed = _ from k, h, State.part_of_fixed h]

/-- A pairing that is agreed: its record is written, and the partner gets an acknowledgement. -/
def State.agreePairing (s : State) (p : Nat) (x : Pairing) (r : TanRecord) : State :=
  let s := s.setRecord p (some r)
  ({ s with tan := { s.tan with pairing := s.tan.pairing.map fun y => if y = x then { y with agreed := true } else y } }).tanSend p
    (.pairAck s.chip)

theorem State.agreePairing_fixedButRecords (s : State) (p : Nat) (x : Pairing) (r : TanRecord) :
    State.FixedButRecords s (s.agreePairing p x r) := by
  rw [State.FixedButRecords, State.agreePairing]
  dsimp only
  rw [State.part_of_fixed (State.tanSend_fixed ..), State.tanSend_fixed]
  rfl

theorem State.agreePairing_req (s : State) (p : Nat) (x : Pairing) (r : TanRecord) :
    ((s.agreePairing p x r).tport p).req = (s.tport p).req := State.tanSend_req ..

/-- The pairing as it waited stands no more: it is agreed now. -/
theorem State.not_mem_agreePairing (s : State) (p : Nat) (r : TanRecord) (hx : x.agreed = false) :
    x ∉ (s.agreePairing p x r).tan.pairing := by
  rw [State.agreePairing, State.pairing_of_ledger (State.tanSend_ledger ..)]
  simp only [List.mem_map, not_exists, not_and]
  rintro y - hy
  split at hy
  · rw [← hy] at hx
    exact absurd hx (by simp)
  · contradiction

theorem State.failPairing_tport (s : State) (x : Pairing) (code p : Nat) : (s.failPairing x code).tport p = s.tport p :=
  (State.decide_same ..).tport p

theorem State.not_mem_failPairing (s : State) (x : Pairing) (code : Nat) : x ∉ (s.failPairing x code).tan.pairing := by
  rw [State.failPairing, (State.decide_same ..).tan]
  simp

/-- Where a request meets a pairing, the pairing is agreed or fails. -/
theorem State.matchPair_cases (hx : s.stalePairing p = some x) (hreq : (s.tport p).req = some (own, peer)) :
    (∃ r, s.matchPair p = (s.setTport p { s.tport p with req := none }).agreePairing p x r)
      ∨ s.matchPair p = (s.setTport p { s.tport p with req := none }).failPairing x tanMismatch := by
  unfold State.stalePairing at hx
  unfold State.matchPair
  rw [hx, hreq]
  dsimp only
  split
  · exact .inl ⟨_, rfl⟩
  · exact .inr rfl

theorem State.agreed_of_stale (h : s.stalePairing p = some x) : x.agreed = false := by
  have hfound := List.find?_some h
  simp only [Bool.and_eq_true, Bool.not_eq_true'] at hfound
  exact hfound.2

theorem State.matchPair_of_stale (hx : s.stalePairing p = some x) (hreq : (s.tport p).req = some (own, peer)) :
    State.FixedButRecords s (s.matchPair p) ∧ ((s.matchPair p).tport p).req = none ∧ x ∉ (s.matchPair p).tan.pairing := by
  have hcleared := s.setTport_fixed p { s.tport p with req := none }
  obtain ⟨r, hmatch⟩ | hmatch := State.matchPair_cases hx hreq
  · rw [hmatch, State.agreePairing_req, State.tport_setTport]
    exact ⟨.after_fixed hcleared (State.agreePairing_fixedButRecords ..), rfl,
      State.not_mem_agreePairing _ _ _ (State.agreed_of_stale hx)⟩
  · rw [hmatch, State.failPairing_tport, State.tport_setTport]
    exact ⟨.of_fixed ((State.failPairing_fixed ..).trans hcleared), rfl, State.not_mem_failPairing _ _ _⟩

theorem State.matchPair_of_no_stale (h : s.stalePairing p = none) : s.matchPair p = s := by
  unfold State.stalePairing at h
  unfold State.matchPair
  rw [h]

theorem State.pairReqArrived_of_no_stale (h : s.stalePairing p = none) (own peer : Nat) :
    s.pairReqArrived p own peer = s.modTport p fun x => { x with req := some (own, peer) } := State.matchPair_of_no_stale h

theorem State.pairReqArrived_of_stale (h : s.stalePairing p = some x) (own peer : Nat) :
    State.FixedButRecords s (s.pairReqArrived p own peer) ∧ ((s.pairReqArrived p own peer).tport p).req = none
      ∧ x ∉ (s.pairReqArrived p own peer).tan.pairing := by
  obtain ⟨hfixed, hreq, hpairing⟩ := State.matchPair_of_stale (s := s.modTport p fun x => { x with req := some (own, peer) }) h
    (congrArg TanPort.req (State.tport_modTport ..))
  exact ⟨.after_fixed (State.modTport_fixed ..) hfixed, hreq, hpairing⟩

theorem State.pairReqArrived_fixedButRecords (s : State) (p own peer : Nat) :
    State.FixedButRecords s (s.pairReqArrived p own peer) := by
  cases h : s.stalePairing p with
  | none =>
    rw [State.pairReqArrived_of_no_stale h]
    exact .of_fixed (State.modTport_fixed ..)
  | some x => exact (State.pairReqArrived_of_stale h own peer).1

theorem State.endPairing_of_stale (h : s.stalePairing p = some x) : s.endPairing p = s.failPairing x tanNoPartner := by
  rw [State.endPairing, h]

/-! ### The rows -/

theorem State.portIn_of_tandem (htan : s.part.variant.tandem = true) (hp : p < 2) {f : TanPort → Bool} (hf : f (s.tport p) = true) :
    s.portIn p f = true := by
  simp [State.portIn, htan, hf, Nat.blt_eq, hp]

theorem TanPort.linked_of_state {y : TanPort} (h : y.st = .linked ∨ y.st = .up) : y.linked = true := if_pos h

section
variable (ha : s.alive = true) (htan : s.part.variant.tandem = true) (hp : p < 2)
include ha htan hp

theorem tanFlitReceive_works (hc : (s.tport p).carries = true) (f : List Byte) : Works (.tanFlitReceive p f) s (s.flitReceive p f) :=
  ⟨runCmdIf_alive (fun s => s.portIn p TanPort.carries) (fun s => s.flitReceive p f) s ha (State.portIn_of_tandem htan hp hc),
    State.flitReceive_fixed ..⟩

theorem tanReplayTimeout_doesBy (hc : (s.tport p).carries = true) (hu : (s.tport p).unacked ≠ []) :
    DoesBy (.tanReplayTimeout p) s ((s.tport p).ackAt + 2) ((s.waitTo ((s.tport p).ackAt + 2)).replayStep p) :=
  runCmdAt_alive (fun s => (s.tport p).ackAt + 2) (fun s => s.portIn p fun x => x.carries && x.unacked ≠ [])
    (fun s => s.replayStep p) s ha (State.portIn_of_tandem (s := s.waitTo _) htan hp (Bool.and_eq_true_iff.2 ⟨hc, decide_eq_true hu⟩))

theorem tanNak_works (hc : (s.tport p).carries = true) (ack : Nat) :
    Works (.tanNak p ack) s ((s.acked p (ack % 4096)).replayStep p) :=
  ⟨runCmdIf_alive (fun s => s.portIn p TanPort.carries) (fun s => (s.acked p (ack % 4096)).replayStep p) s ha
    (State.portIn_of_tandem htan hp hc), (State.replayStep_fixed ..).trans (State.acked_fixed ..)⟩

theorem pairReq_does (hst : (s.tport p).st = .linked ∨ (s.tport p).st = .up) (own peer : Nat) :
    Does (.pairReq p own peer) s (s.pairReqArrived p own peer) :=
  runCmdIf_alive (fun s => s.portIn p TanPort.linked) (fun s => s.pairReqArrived p own peer) s ha
    (State.portIn_of_tandem htan hp (TanPort.linked_of_state hst))

theorem pairAck_works (hst : (s.tport p).st = .linked ∨ (s.tport p).st = .up) (hown : own < 256) :
    Works (.pairAck p own) s (s.pairAckArrived p) :=
  ⟨runCmdIf_alive (fun s => s.portIn p TanPort.linked && Nat.blt own 256) (fun s => s.pairAckArrived p) s ha (by
    rw [State.portIn_of_tandem htan hp (TanPort.linked_of_state hst), (Nat.blt_eq ..).mpr hown]
    rfl), State.pairAckArrived_fixed ..⟩

end

theorem tanPairTimeout_doesBy (ha : s.alive = true) (h : s.stalePairing p = some x) :
    DoesBy (.tanPairTimeout p) s (x.since + 10000000) ((s.waitTo (x.since + 10000000)).failPairing x tanNoPartner) := by
  have hrow := runCmdAt_alive (fun s => ((s.stalePairing p).map Pairing.since).getD 0 + 10_000_000)
    (fun s => (s.stalePairing p).isSome) (fun s => s.endPairing p) s ha (congrArg Option.isSome h)
  rw [h] at hrow
  rw [← State.endPairing_of_stale (s := s.waitTo _) h]
  exact hrow

end

/-- Settles O55: each row does its work, and the works say what becomes of the port, its counters and the pairings. -/
theorem flitsAndPairing : Obligations.FlitsAndPairing := fun s p ha htan hp => by
  refine ⟨fun hc => ⟨fun f => ⟨_, tanFlitReceive_works ha htan hp hc f, ?_, State.flitReceive_accepts⟩, fun hu => ?_, fun ack => ?_⟩,
    fun hst => ⟨fun own peer => ?_, fun own => pairAck_works ha htan hp hst⟩, fun x hx => ?_⟩
  · exact fun hbad => ⟨State.flitReceive_counts_of_bad hbad, State.flitReceive_rxNext_of_bad hbad⟩
  · exact ⟨_, tanReplayTimeout_doesBy ha htan hp hc hu, State.replayStep_fixed ..,
      State.replayStep_counts (s := s.waitTo ((s.tport p).ackAt + 2)) hu⟩
  · exact ⟨_, tanNak_works ha htan hp hc ack, State.replayStep_acked_counts, State.replayStep_of_acked⟩
  · refine ⟨_, pairReq_does ha htan hp hst own peer, State.pairReqArrived_fixedButRecords .., fun hx => ?_, fun x hx => ?_⟩
    · rw [State.pairReqArrived_of_no_stale hx, State.tport_modTport]
      exact ⟨rfl, rfl, rfl, rfl⟩
    · exact (State.pairReqArrived_of_stale hx own peer).2
  · exact ⟨_, tanPairTimeout_doesBy ha hx, State.failPairing_fixed .., State.not_mem_failPairing _ x _⟩

end Sys2Proof.Machine

namespace Sys2Proof.Machine
open Sys2Proof

/-! ### What leaves the audio ports (R475 to R481, R527)

The tick, the routes and the sinks lie on the AUD page and in the sinks' own state: what acts on them leaves the PCM and PDM pages, the
clocks of the PCM directions and the ports that have failed. -/

/-- From `s` to `t` no register from the first audio port's page on changes, no PCM clock and no port's failure. -/
structure State.KeepsPorts (s t : State) : Prop where
  rd : ∀ o, 0x16000 ≤ o → t.rd o = s.rd o
  clocks : t.aud.clocks = s.aud.clocks
  failed : t.aud.failed = s.aud.failed

section
variable {s t u : State} {p dir pg : Nat}

theorem State.KeepsPorts.refl (s : State) : State.KeepsPorts s s := ⟨fun _ _ => rfl, rfl, rfl⟩

theorem State.KeepsPorts.trans (h : State.KeepsPorts s t) (k : State.KeepsPorts t u) : State.KeepsPorts s u :=
  ⟨fun o ho => (k.rd o ho).trans (h.rd o ho), k.clocks.trans h.clocks, k.failed.trans h.failed⟩

theorem State.KeepsPorts.ite {c : Prop} [Decidable c] (h : State.KeepsPorts s t) (k : State.KeepsPorts s u) :
    State.KeepsPorts s (if c then t else u) := by
  split
  · exact h
  · exact k

theorem State.KeepsPorts.foldl {A : Type} {f : State → A → State} (l : List A) (s : State)
    (h : ∀ t, ∀ a ∈ l, State.KeepsPorts t (f t a)) : State.KeepsPorts s (l.foldl f s) := by
  induction l generalizing s with
  | nil => exact .refl s
  | cons a l ih => exact (h s a (by simp)).trans (ih _ fun t b hb => h t b (by simp [hb]))

theorem State.KeepsPorts.bit (h : State.KeepsPorts s t) {o : Nat} (ho : 0x16000 ≤ o) (i : Nat) : t.bit o i = s.bit o i :=
  State.bit_congr (h.rd o ho) i

theorem State.KeepsPorts.fld (h : State.KeepsPorts s t) {o : Nat} (ho : 0x16000 ≤ o) (lo n : Nat) : t.fld o lo n = s.fld o lo n := by
  rw [State.fld, h.rd o ho, State.fld]

theorem State.KeepsPorts.pcmClock (h : State.KeepsPorts s t) (p dir : Nat) : t.pcmClock p dir = s.pcmClock p dir := by
  rw [State.pcmClock, h.clocks, State.pcmClock]

theorem State.setSink_keepsPorts (s : State) (j : Nat) (x : Sink) : State.KeepsPorts s (s.setSink j x) := ⟨fun _ _ => rfl, rfl, rfl⟩

theorem State.raiseBit_keepsPorts (s : State) (hpg : pg < 0x016) (i : Nat) : State.KeepsPorts s (s.raiseBit pg i) where
  rd o ho := State.rd_raiseBit_other _ _ _ _ (by simp only [hdrOff]; omega)
  clocks := by rw [State.raiseBit_aud]
  failed := by rw [State.raiseBit_aud]

theorem State.count_keepsPorts (s : State) {off : Nat} (hoff : off < 0x16000) (n : Nat) : State.KeepsPorts s (s.count off n) where
  rd o ho := State.rd_count_other _ _ _ _ (by omega) (by simp only [hdrOff]; omega)
  clocks := by rw [State.count_aud]
  failed := by rw [State.count_aud]

theorem State.trace_keepsPorts (s : State) (point unit a b : Nat) : State.KeepsPorts s (s.trace point unit a b) where
  rd o _ := State.rd_congr (State.trace_regs ..) (State.trace_part ..) o
  clocks := by rw [State.trace_aud]
  failed := by rw [State.trace_aud]

/-- The sinks are sixteen, and their counters lie on the AUD page. -/
theorem State.rerouted_keepsPorts (s : State) {j : Nat} (hj : j < 16) (old new : Nat) : State.KeepsPorts s (s.rerouted j old new) := by
  have hsource (t : State) (i : Nat) : State.KeepsPorts t (if i < 16 then t.count (Reg.AUD_SRC_REROUTES i) 1 else t) := by
    split
    · exact t.count_keepsPorts (by simp only [Reg.AUD_SRC_REROUTES]; omega) 1
    · exact .refl t
  have hsink : State.KeepsPorts s (s.count (Reg.AUD_ROUTE_CHANGES j) 1) :=
    s.count_keepsPorts (by simp only [Reg.AUD_ROUTE_CHANGES]; omega) 1
  exact ((hsink.trans (hsource _ old)).trans (hsource _ new)).trans (State.trace_keepsPorts ..)

theorem State.resetSinks_keepsPorts (s old : State) : State.KeepsPorts s (s.resetSinks old) :=
  .foldl _ _ fun t j hj =>
    have hroute : State.KeepsPorts t (if old.route j ≠ t.route j then t.rerouted j (old.route j) (t.route j) else t) :=
      .ite (t.rerouted_keepsPorts (List.mem_range.1 hj) ..) (.refl t)
    hroute.trans (.ite (State.setSink_keepsPorts ..) (.ite (State.setSink_keepsPorts ..) (.ite (State.setSink_keepsPorts ..)
      (.ite (State.setSink_keepsPorts ..) (.refl _)))))

/-! ### The fall back of the tick (R481) -/

theorem State.tickFallback_keepsPorts (s : State) : State.KeepsPorts s s.tickFallback := by
  have htick : State.KeepsPorts s { s with tick := { s.tick with source := 0, fallback := true } } := ⟨fun _ _ => rfl, rfl, rfl⟩
  exact (htick.trans (State.count_keepsPorts _ (by decide) 1)).trans (State.raiseBit_keepsPorts _ (by decide) 3)

theorem State.tickFallback_tick (s : State) : s.tickFallback.tick = { s.tick with source := 0, fallback := true } := by
  rw [State.tickFallback, State.raiseBit_tick, State.count_tick]

theorem State.tickFallback_counts (s : State) : Counts s s.tickFallback Reg.AUD_TICK_LOST 1 :=
  Counts.congr rfl (State.rd_raiseBit_other _ _ _ _ (by decide))
    (Counts.count { s with tick := { s.tick with source := 0, fallback := true } } Reg.AUD_TICK_LOST 1 (by decide))

theorem State.tickFallback_bit (s : State) : s.tickFallback.bit (hdrOff 0x012 0x010) 3 = true :=
  State.bit_raiseBit_same _ _ (by decide)

/-! ### Frames and rates of a slaved direction (R475, R479) -/

theorem State.pcmClock_setPcmClock (s : State) (p dir : Nat) (c : PcmClock) : (s.setPcmClock p dir c).pcmClock p dir = c :=
  Tab.get_putD_same ..

theorem State.rd_raiseFirst_other (s : State) {pg o : Nat} (cause : Nat) (h : o ≠ hdrOff pg 0x010) :
    (s.raiseFirst pg cause).rd o = s.rd o := by
  simp only [State.raiseFirst]
  split
  · rfl
  · exact State.rd_raiseBit_other _ _ _ _ h

theorem State.pcmFrame_of_own (s : State) (p dir : Nat) : s.pcmFrame p dir (s.frameBits p dir) = s := if_pos rfl

theorem State.pcmFrame_counts {bits : Nat} (h : bits ≠ s.frameBits p dir) : Counts s (s.pcmFrame p dir bits) (Reg.PCM_FRAME_ERRS p) 1 := by
  rw [State.pcmFrame, if_neg h]
  exact Counts.congr rfl (State.rd_raiseFirst_other _ _ (by simp only [Reg.PCM_FRAME_ERRS, hdrOff]; omega))
    (Counts.count s _ 1 (by simp only [Reg.PCM_FRAME_ERRS, hdrOff]; omega))

theorem State.rd_ite {c : Prop} [Decidable c] {o : Nat} {w : Word} (h : t.rd o = w) (k : u.rd o = w) :
    (if c then t else u).rd o = w := by
  split
  · exact h
  · exact k

/-- A rate fits the 24 bits of its register. -/
theorem toNat_rate_word (rate : Nat) : (BitVec.ofNat 32 (rate % 2 ^ 24)).toNat = rate % 2 ^ 24 := by
  rw [BitVec.toNat_ofNat]
  omega

/-- The first measurement after a restart is the reference. -/
theorem State.measure_of_first (h : (s.pcmClock p dir).refSet = false) (rate : Nat) :
    s.measure p dir rate = ((s.wr (Reg.PCM_TX_MEAS p + 0x20 * dir) (BitVec.ofNat 32 (rate % 2 ^ 24))).setPcmClock p dir
      { s.pcmClock p dir with refSet := true }).wr (Reg.PCM_TX_REF p + 0x20 * dir) (BitVec.ofNat 32 (rate % 2 ^ 24)) :=
  if_pos (by rw [h]; rfl)

theorem State.rd_measure (s : State) (p dir rate : Nat) :
    (s.measure p dir rate).rd (Reg.PCM_TX_MEAS p + 0x20 * dir) = BitVec.ofNat 32 (rate % 2 ^ 24) := by
  have href : Reg.PCM_TX_MEAS p + 0x20 * dir ≠ Reg.PCM_TX_REF p + 0x20 * dir := by
    simp only [Reg.PCM_TX_MEAS, Reg.PCM_TX_REF]
    omega
  have hstatus : Reg.PCM_TX_MEAS p + 0x20 * dir ≠ hdrOff (0x016 + p) 0x010 := by
    simp only [Reg.PCM_TX_MEAS, hdrOff]
    omega
  have hshown := State.rd_wr_same s (Reg.PCM_TX_MEAS p + 0x20 * dir) (BitVec.ofNat 32 (rate % 2 ^ 24))
  refine State.rd_ite ?_ (State.rd_ite ?_ hshown)
  · rw [State.rd_wr_other _ _ _ _ href]
    exact hshown
  · rw [State.rd_raiseBit_other _ _ _ _ hstatus, State.rd_wr_other _ _ _ _ href, hshown]

theorem State.measure_sets_reference (h : (s.pcmClock p dir).refSet = false) (rate : Nat) :
    (s.measure p dir rate).rd (Reg.PCM_TX_REF p + 0x20 * dir) = BitVec.ofNat 32 (rate % 2 ^ 24)
      ∧ ((s.measure p dir rate).pcmClock p dir).refSet = true := by
  rw [State.measure_of_first h]
  exact ⟨State.rd_wr_same .., congrArg PcmClock.refSet (State.pcmClock_setPcmClock ..)⟩

/-! ### The loss of a clock (R480) -/

/-- The loss of a direction's clock is kept, counted and signalled; the sinks have not been emptied. -/
def State.showLoss (s : State) (p dir : Nat) : State :=
  ((s.setPcmClock p dir { s.pcmClock p dir with lost := true }).count (Reg.PCM_CLK_LOST p) 1).raiseBit (0x016 + p) (2 + dir)

theorem State.showLoss_counts (s : State) (p dir : Nat) : Counts s (s.showLoss p dir) (Reg.PCM_CLK_LOST p) 1 :=
  Counts.congr rfl (State.rd_raiseBit_other _ _ _ _ (by simp only [Reg.PCM_CLK_LOST, hdrOff]; omega))
    (Counts.count (s.setPcmClock p dir { s.pcmClock p dir with lost := true }) _ 1 (by simp only [Reg.PCM_CLK_LOST, hdrOff]; omega))

theorem State.showLoss_lost (s : State) (p dir : Nat) : ((s.showLoss p dir).pcmClock p dir).lost = true := by
  rw [State.showLoss, State.pcmClock, State.raiseBit_aud, State.count_aud]
  exact congrArg PcmClock.lost (State.pcmClock_setPcmClock ..)

/-- The sinks of a transmit direction are emptied; no port changes. -/
theorem State.clockLost_keepsPorts (s : State) (p dir : Nat) : State.KeepsPorts (s.showLoss p dir) (s.clockLost p dir) :=
  .ite (.foldl _ _ fun _ _ _ => .ite (State.setSink_keepsPorts ..) (.refl _)) (.refl _)

theorem State.clockLost_shows (s : State) (p : Nat) {dir : Nat} (hdir : dir < 2) :
    ((s.clockLost p dir).pcmClock p dir).lost = true ∧ Counts s (s.clockLost p dir) (Reg.PCM_CLK_LOST p) 1
      ∧ (s.clockLost p dir).bit (hdrOff (0x016 + p) 0x010) (2 + dir) = true := by
  have hkeeps := s.clockLost_keepsPorts p dir
  refine ⟨?_, Counts.congr rfl (hkeeps.rd _ (by simp only [Reg.PCM_CLK_LOST]; omega)) (s.showLoss_counts p dir), ?_⟩
  · rw [hkeeps.pcmClock, State.showLoss_lost]
  · rw [hkeeps.bit (by simp only [hdrOff]; omega)]
    exact State.bit_raiseBit_same _ _ (by omega)

/-! ### A port that fails (R527) -/

/-- The port of a page is disabled and kept as failed. -/
def State.shutPort (s : State) (pg : Nat) : State :=
  let s := { s with aud := { s.aud with failed := pg :: s.aud.failed } }
  if pg < 0x018 then (s.setFld (pcmCtl (pg - 0x016) 0) 0 1 0).setFld (pcmCtl (pg - 0x016) 1) 0 1 0
  else s.setFld (Reg.PDM_CTL (pg - 0x018)) 0 1 0

/-- The failure stands in the page's error record and in the journal. -/
def State.recordPortFailed (s : State) (pg : Nat) : State := (s.recordErrAt pg 0x0D01 0x13).journal 0x16 0x10 4 pg 0

theorem Word.bit_setFld_zero (w : Word) : Word.bit (Word.setFld w 0 1 0) 0 = false := by
  have hfld : Word.fld (Word.setFld w 0 1 0) 0 1 = 0 := Word.fld_setFld_same w (by decide) 0
  rw [Word.bit, Nat.testBit_eq_decide_div_mod_eq]
  exact decide_eq_false fun h => absurd (h.symm.trans hfld) (by decide)

theorem State.bit_setFld_zero (s : State) (off : Nat) : (s.setFld off 0 1 0).bit off 0 = false := by
  rw [State.bit, State.rd_setFld_same, Word.bit_setFld_zero]

theorem State.shutPort_failed (s : State) (pg : Nat) : (s.shutPort pg).aud.failed = pg :: s.aud.failed := by
  simp only [State.shutPort]
  split <;> rfl

theorem State.shutPort_pcm (s : State) (h : pg < 0x018) :
    (s.shutPort pg).bit (pcmCtl (pg - 0x016) 0) 0 = false ∧ (s.shutPort pg).bit (pcmCtl (pg - 0x016) 1) 0 = false := by
  rw [State.shutPort, if_pos h]
  refine ⟨?_, State.bit_setFld_zero ..⟩
  rw [State.bit_congr (State.rd_setFld_other _ _ _ _ _ (by simp only [pcmCtl]; omega)), State.bit_setFld_zero]

theorem State.shutPort_pdm (s : State) (h : 0x018 ≤ pg) : (s.shutPort pg).bit (Reg.PDM_CTL (pg - 0x018)) 0 = false := by
  rw [State.shutPort, if_neg (by omega), State.bit_setFld_zero]

theorem State.rd_recordPortFailed (s : State) (pg o : Nat) : (s.recordPortFailed pg).rd o = (s.recordErrAt pg 0x0D01 0x13).rd o :=
  State.rd_congr (State.journal_regs ..) (State.journal_part ..) o

theorem State.recordPortFailed_failed (s : State) (pg : Nat) : (s.recordPortFailed pg).aud.failed = s.aud.failed := by
  rw [State.recordPortFailed, State.journal_aud, State.recordErrAt, State.recordErr_aud]

/-- The error record lies in the headers: the registers after a page's header stay. -/
theorem State.bit_recordPortFailed (s : State) (pg : Nat) {o : Nat} (ho : 0x40 ≤ o % 0x1000) (i : Nat) :
    (s.recordPortFailed pg).bit o i = s.bit o i := by
  refine State.bit_congr ((s.rd_recordPortFailed pg o).trans (State.rd_recordErr_other _ _ _ _ _ _ _ _ ?_ ?_ ?_ ?_)) i
    <;> · simp only [hdrOff]
          omega

theorem State.recordPortFailed_error (s : State) (pg : Nat) :
    (s.recordPortFailed pg).fld (hdrOff pg 0x01C) 0 16 = 0x0D01 ∧ (s.recordPortFailed pg).fld (hdrOff pg 0x01C) 16 8 = 0x13 := by
  have hrecord := s.fld_recordErr_code pg 0x0D01 0x13 (hdrOff pg 0x024) false 0
  rwa [State.fld, State.fld, State.rd_recordPortFailed]

/-- The sinks begin anew and the tick may fall back; no port changes but the one that fails. -/
theorem State.failPort_keepsPorts (h : pg ∉ s.aud.failed) :
    State.KeepsPorts ((s.shutPort pg).recordPortFailed pg) (s.failPort pg) := by
  rw [State.failPort, if_neg (by simpa using h)]
  have hsinks := ((s.shutPort pg).recordPortFailed pg).resetSinks_keepsPorts s
  exact .ite (hsinks.trans (State.tickFallback_keepsPorts _)) hsinks

theorem State.failPort_disables (h : pg ∉ s.aud.failed) :
    (pg < 0x018 → (s.failPort pg).bit (pcmCtl (pg - 0x016) 0) 0 = false ∧ (s.failPort pg).bit (pcmCtl (pg - 0x016) 1) 0 = false)
      ∧ (0x018 ≤ pg → (s.failPort pg).bit (Reg.PDM_CTL (pg - 0x018)) 0 = false) := by
  have hbit {o : Nat} (ho : 0x16000 ≤ o) (hreg : 0x40 ≤ o % 0x1000) : (s.failPort pg).bit o 0 = (s.shutPort pg).bit o 0 := by
    rw [(State.failPort_keepsPorts h).bit ho, State.bit_recordPortFailed _ _ hreg]
  refine ⟨fun hpcm => ?_, fun hpdm => ?_⟩
  · have hctl (dir : Nat) (hdir : dir < 2) := hbit (o := pcmCtl (pg - 0x016) dir) (by simp only [pcmCtl, Reg.PCM_TX_CTL]; omega)
      (by simp only [pcmCtl, Reg.PCM_TX_CTL]; omega)
    rw [hctl 0 (by decide), hctl 1 (by decide)]
    exact s.shutPort_pcm hpcm
  · rw [hbit (by simp only [Reg.PDM_CTL]; omega) (by simp only [Reg.PDM_CTL]; omega), s.shutPort_pdm hpdm]

theorem State.failPort_records (h : pg ∉ s.aud.failed) (hpg : 0x016 ≤ pg) :
    (s.failPort pg).fld (hdrOff pg 0x01C) 0 16 = 0x0D01 ∧ (s.failPort pg).fld (hdrOff pg 0x01C) 16 8 = 0x13 := by
  have hoff : 0x16000 ≤ hdrOff pg 0x01C := by
    simp only [hdrOff]
    omega
  rw [(State.failPort_keepsPorts h).fld hoff, (State.failPort_keepsPorts h).fld hoff]
  exact State.recordPortFailed_error ..

theorem State.failPort_failed (h : pg ∉ s.aud.failed) : (s.failPort pg).aud.failed = pg :: s.aud.failed := by
  rw [(State.failPort_keepsPorts h).failed, State.recordPortFailed_failed, State.shutPort_failed]

/-! ### The rows -/

theorem State.dir_lt_of_slaved {lost : Bool} (h : s.slaved p dir lost = true) : dir < 2 := by
  simp only [State.slaved, Bool.and_eq_true, Nat.blt_eq] at h
  obtain ⟨⟨⟨⟨-, hdir⟩, -⟩, -⟩, -⟩ := h
  exact hdir

/-- A port that may fail has not failed, and its page is a PCM or a PDM page. -/
theorem State.port_of_mayFail {stalled : Bool} (h : s.mayFail pg stalled = true) : pg ∉ s.aud.failed ∧ 0x016 ≤ pg := by
  simp only [State.mayFail, Bool.and_eq_true, Bool.or_eq_true, Bool.not_eq_true', List.contains_eq_mem, decide_eq_false_iff_not,
    Nat.ble_eq] at h
  obtain ⟨hnew, ⟨⟨hpcm, -⟩, -⟩ | ⟨⟨hpdm, -⟩, -⟩⟩ := h
  · exact ⟨hnew, hpcm⟩
  · exact ⟨hnew, by omega⟩

section
variable (ha : s.alive = true)
include ha

theorem pcmFrame_does (h : s.slaved p dir false = true) (bits : Nat) : Does (.pcmFrame p dir bits) s (s.pcmFrame p dir bits) :=
  runCmdIf_alive (fun s => s.slaved p dir false) (fun s => s.pcmFrame p dir bits) s ha h

theorem pcmRateMeasure_does (h : s.slaved p dir false = true) (rate : Nat) :
    Does (.pcmRateMeasure p dir rate) s (s.measure p dir rate) :=
  runCmdIf_alive (fun s => s.slaved p dir false) (fun s => s.measure p dir rate) s ha h

theorem pcmClockLost_does (h : s.slaved p dir false = true) : Does (.pcmClockLost p dir) s (s.clockLost p dir) :=
  runCmdIf_alive (fun s => s.slaved p dir false) (fun s => s.clockLost p dir) s ha h

theorem pcmClockReturn_does (h : s.slaved p dir true = true) : Does (.pcmClockReturn p dir) s (s.clockReturn p dir) :=
  runCmdIf_alive (fun s => s.slaved p dir true) (fun s => s.clockReturn p dir) s ha h

theorem tickSourceLost_does (h : s.sourceLost = true) : Does .tickSourceLost s s.tickFallback :=
  runCmdIf_alive State.sourceLost State.tickFallback s ha h

theorem audioPortFail_does {stalled : Bool} (h : s.mayFail pg stalled = true) : Does (.audioPortFail pg stalled) s (s.failPort pg) :=
  runCmdIf_alive (fun s => s.mayFail pg stalled) (fun s => s.failPort pg) s ha h

end

end

/-- Settles O29, row by row: each row does its work, and the work's lemmas say what it shows, counts and signals. -/
theorem pcmDirectionsAreWatched : Obligations.PcmDirectionsAreWatched := fun s ha => by
  refine ⟨fun p dir n hs => ⟨⟨_, pcmFrame_does ha hs n, ?_⟩, ⟨_, pcmRateMeasure_does ha hs n, ?_, fun hfirst => ?_⟩,
    _, pcmClockLost_does ha hs, s.clockLost_shows p (State.dir_lt_of_slaved hs)⟩, fun p dir hs => pcmClockReturn_does ha hs,
    fun hs => ⟨_, tickSourceLost_does ha hs, s.tickFallback_tick, s.tickFallback_counts, s.tickFallback_bit⟩, fun pg stalled hs => ?_⟩
  · split
    · next hown => rw [hown, State.pcmFrame_of_own]
    · next hother => exact State.pcmFrame_counts hother
  · rw [State.rd_measure, toNat_rate_word]
  · obtain ⟨hreference, hset⟩ := State.measure_sets_reference hfirst n
    exact ⟨by rw [hreference, toNat_rate_word], hset⟩
  · obtain ⟨hnew, hpg⟩ := State.port_of_mayFail hs
    obtain ⟨hcode, hagent⟩ := State.failPort_records hnew hpg
    exact ⟨_, audioPortFail_does ha hs, State.failPort_failed hnew, hcode, hagent, State.failPort_disables hnew⟩

end Sys2Proof.Machine

namespace Sys2Proof.Machine
open Sys2Proof

/-! ### A step is the command in front (spec/95) -/

theorem step_of_front {s : State} {c : Instr} {rest : List Instr} (h : s.pending = c :: rest) :
    step s = exec c { s with pending := rest } := by
  simp only [step, h]

theorem step_of_idle {s : State} (h : s.pending = []) : step s = .next { s with now := s.now + 1 } := by
  simp only [step, h]

/-- Settles O1: a step takes the queue apart. -/
theorem stepRunsTheFront : Obligations.StepRunsTheFront := fun _ _ _ h => step_of_front h

/-- Settles O2: an idle step. -/
theorem idleStepPassesAMicrosecond : Obligations.IdleStepPassesAMicrosecond := fun _ h => step_of_idle h

/-! ### The queue and the clock -/

/-- The queue stays, and the clock does not run back. -/
structure KeepsTime (s t : State) : Prop where
  pending : t.pending = s.pending
  now : s.now ≤ t.now

theorem KeepsTime.refl (s : State) : KeepsTime s s := ⟨rfl, le_refl _⟩

theorem KeepsTime.trans {s t u : State} (h : KeepsTime s t) (k : KeepsTime t u) : KeepsTime s u :=
  ⟨k.pending.trans h.pending, h.now.trans k.now⟩

theorem Kept.keepsTime {s t : State} (h : Kept s t) : KeepsTime s t := ⟨h.pending, h.now⟩

theorem State.coldReset_keepsTime (s : State) (cause : Nat) : KeepsTime s (s.coldReset cause) := ⟨rfl, le_refl _⟩
theorem State.fresh_keepsTime (s : State) : KeepsTime s s.fresh.2 := ⟨rfl, le_refl _⟩
theorem State.vinLost_keepsTime (s : State) : KeepsTime s s.vinLost := ⟨rfl, le_refl _⟩

@[simp] theorem State.closeWindow_pending (s : State) : s.closeWindow.pending = s.pending := by
  unfold State.closeWindow
  split
  · rfl
  · rw [State.raiseBit_pending, State.journal_pending]

@[simp] theorem State.closeWindow_now (s : State) : s.closeWindow.now = s.now := by
  unfold State.closeWindow
  split
  · rfl
  · rw [State.raiseBit_now, State.journal_now]

theorem State.resetnReset_keepsTime (s : State) : KeepsTime s s.resetnReset :=
  ⟨s.closeWindow_pending, s.closeWindow_now.ge⟩

theorem execVinRise_keepsTime {s t : State} (h : execVinRise s = .next t) : KeepsTime s t := by
  unfold execVinRise at h
  split at h
  · cases h
    exact s.coldReset_keepsTime 1
  · cases h

theorem execVinLoss_keepsTime {s t : State} (h : execVinLoss s = .next t) : KeepsTime s t := by
  unfold execVinLoss at h
  cases h
  split
  · exact .refl s
  · exact s.vinLost_keepsTime

/-- A pulse of RESET_N is passed over, or it resets at once (R568). -/
theorem execResetNPulse_keepsTime {n : Nat} {s t : State} (h : execResetNPulse n s = .next t) : KeepsTime s t := by
  simp only [execResetNPulse] at h
  split_ifs at h
  · cases h
    exact .refl s
  · cases h
    exact s.resetnReset_keepsTime
  · cases h
    exact s.fresh_keepsTime.trans (State.resetnReset_keepsTime _)
  · cases h
    exact s.fresh_keepsTime

theorem execColdReset_keepsTime {b : BootIn} {s t : State} (h : execColdReset b s = .next t) : KeepsTime s t := by
  unfold execColdReset at h
  split at h
  · cases h
    exact .refl s
  · split at h
    · cases h
      exact ⟨rfl, le_refl _⟩
    · cases h

theorem execTickEdge_keepsTime {a : AudioIn} {u : Nat} {s t : State} (h : execTickEdge a u s = .next t) : KeepsTime s t := by
  by_cases ha : s.alive = true
  · obtain ⟨-, hpending, hnow, -⟩ := execTickEdge_next ha h
    exact ⟨hpending, hnow⟩
  · rw [execTickEdge, if_pos (by simpa using ha)] at h
    cases h
    exact .refl s

/-- No command puts another in the queue, and none turns the clock back. -/
theorem exec_keepsTime {c : Instr} {s t : State} (h : exec c s = .next t) : KeepsTime s t := by
  by_cases hc : resetsOrTicks c = false
  · exact ((exec_sound c s hc).next t h).keepsTime
  · cases c
    case vinRise => exact execVinRise_keepsTime h
    case vinLoss => exact execVinLoss_keepsTime h
    case resetNPulse => exact execResetNPulse_keepsTime h
    case coldReset => exact execColdReset_keepsTime h
    case tickEdge => exact execTickEdge_keepsTime h
    all_goals exact absurd rfl hc

/-- Settles O10: an idle step lets a microsecond pass over an empty queue; any other takes the front off, and `exec_keepsTime` says what
the command does. -/
theorem queueIsFirstInFirstOut : Obligations.QueueIsFirstInFirstOut := by
  intro s t h
  cases hp : s.pending with
  | nil =>
    rw [step_of_idle hp] at h
    cases h
    exact ⟨hp, Nat.le_succ _⟩
  | cons c rest =>
    rw [step_of_front hp] at h
    obtain ⟨hpending, hnow⟩ := exec_keepsTime h
    exact ⟨hpending, hnow⟩

/-! ### What a command that stops says -/

/-- An answer that is no refusal, and stops only at an event that the block cannot show then. -/
structure Answers (s : State) (c : Instr) (a : Answer) : Prop where
  refused : ∀ r, a ≠ .refused r
  fault : ∀ f, a = .fault f → f = .noSuchEvent ∧ (s.alive = true ∨ (c = .vinRise ∧ s.pwr.st ≠ .off))

theorem Answers.next (s : State) (c : Instr) (t : State) : Answers s c (.next t) :=
  ⟨nofun, nofun⟩

theorem Answers.stop {s : State} {c : Instr} (h : s.alive = true ∨ (c = .vinRise ∧ s.pwr.st ≠ .off)) :
    Answers s c (.fault .noSuchEvent) :=
  ⟨nofun, fun _ e => by cases e; exact ⟨rfl, h⟩⟩

theorem Sound.answers {s : State} {a : Answer} (h : Sound s a) (c : Instr) : Answers s c a :=
  ⟨h.refused, fun f hf => (h.fault f hf).imp_right .inl⟩

theorem execVinRise_answers (s : State) : Answers s .vinRise (execVinRise s) := by
  unfold execVinRise
  split
  · exact .next ..
  · next h => exact .stop (.inr ⟨rfl, h⟩)

theorem execResetNPulse_answers (n : Nat) (s : State) : Answers s (.resetNPulse n) (execResetNPulse n s) := by
  simp only [execResetNPulse]
  split_ifs <;> exact .next ..

theorem execColdReset_answers (b : BootIn) (s : State) : Answers s (.coldReset b) (execColdReset b s) := by
  unfold execColdReset
  split
  · exact .next ..
  · next ha =>
    split
    · exact .next ..
    · exact .stop (.inl (by simpa using ha))

theorem execTickEdge_answers (a : AudioIn) (u : Nat) (s : State) : Answers s (.tickEdge a u) (execTickEdge a u s) := by
  unfold execTickEdge
  split
  · exact .next ..
  · next ha =>
    split
    · exact .next ..
    · exact .stop (.inl (by simpa using ha))

theorem exec_answers (c : Instr) (s : State) : Answers s c (exec c s) := by
  by_cases hc : resetsOrTicks c = false
  · exact (exec_sound c s hc).answers c
  · cases c
    case vinRise => exact execVinRise_answers s
    case vinLoss => exact .next ..
    case resetNPulse n => exact execResetNPulse_answers n s
    case coldReset b => exact execColdReset_answers b s
    case tickEdge a u => exact execTickEdge_answers a u s
    all_goals exact absurd rfl hc

/-- Settles O4: `exec_answers`. -/
theorem noCommandIsRefused : Obligations.NoCommandIsRefused := fun s c =>
  have h := exec_answers c s
  ⟨h.refused, h.fault⟩

end Sys2Proof.Machine

namespace Sys2Proof.Machine
open Sys2Proof

/-! ### RESET_N (R568) -/

/-- The last cold reset that RESET_N caused lies less than 100 µs back: a pulse is not counted. -/
def State.tooSoon (s : State) : Bool := match s.boot.resetnAt with
  | none => false
  | some t => s.now < t + 100

theorem State.tooSoon_of_at {s : State} {t : Nat} (h : s.boot.resetnAt = some t) (hlt : s.now < t + 100) : s.tooSoon = true := by
  simp only [State.tooSoon, h, hlt, decide_true]

theorem State.not_tooSoon {s : State} (h : ∀ t, s.boot.resetnAt = some t → t + 100 ≤ s.now) : s.tooSoon = false := by
  unfold State.tooSoon
  split
  · rfl
  · next t ht => exact decide_eq_false (by have := h t ht; omega)

theorem execResetNPulse_eq (n : Nat) (s : State) :
    execResetNPulse n s = if s.pwr.st = .off || n = 0 || s.tooSoon then .next s
      else if 10 ≤ n then .next s.resetnReset
      else .next (if Config.shortPulseResets s.fresh.1 then s.fresh.2.resetnReset else s.fresh.2) := rfl

theorem exec_resetNPulse_tooSoon {s : State} (h : s.tooSoon = true) (n : Nat) : exec (.resetNPulse n) s = .next s :=
  (execResetNPulse_eq n s).trans (if_pos (by simp [h]))

theorem exec_resetNPulse_none (s : State) : exec (.resetNPulse 0) s = .next s :=
  (execResetNPulse_eq 0 s).trans (if_pos (by simp))

theorem exec_resetNPulse_counted {s : State} (hst : s.pwr.st ≠ .off) (h : s.tooSoon = false) {n : Nat} (hn : 1 ≤ n) :
    exec (.resetNPulse n) s = if 10 ≤ n then .next s.resetnReset
      else .next (if Config.shortPulseResets s.fresh.1 then s.fresh.2.resetnReset else s.fresh.2) :=
  (execResetNPulse_eq n s).trans (if_neg (by simp [hst, h]; omega))

/-- RESET_N resets the block whole: what it keeps, the journal and its count of resets, is no work of a rider (R128, R216). -/
theorem State.resetnReset_inColdReset {s r : State} (h : r.part = s.part) : InColdReset s r.resetnReset :=
  ⟨r.resetnReset_part.trans h, rfl, rfl, ⟨rfl, rfl⟩, rfl, rfl, rfl, rfl, rfl, rfl, rfl⟩

theorem State.resetnReset_resetnAt (s : State) : s.resetnReset.boot.resetnAt = some s.now := rfl

/-- Settles O32: a pulse that is not counted leaves the state, a long one resets, and for one between a free value decides. -/
theorem resetPulses : Obligations.ResetPulses := by
  intro s n hst
  refine ⟨fun t ht hlt => exec_resetNPulse_tooSoon (State.tooSoon_of_at ht hlt) n, fun hlate => ?_⟩
  have hcounted {n : Nat} := exec_resetNPulse_counted (n := n) hst (State.not_tooSoon hlate)
  refine ⟨fun hlong => ⟨_, (hcounted (by omega)).trans (if_pos hlong), State.resetnReset_inColdReset rfl, s.resetnReset_resetnAt⟩, ?_,
    fun hpos hshort => ?_⟩
  · rintro rfl
    exact exec_resetNPulse_none s
  · have hfree := (hcounted hpos).trans (if_neg (by omega))
    by_cases hreset : Config.shortPulseResets s.fresh.1 = true
    · rw [if_pos hreset] at hfree
      exact .inr ⟨_, hfree, State.resetnReset_inColdReset rfl, State.resetnReset_resetnAt _⟩
    · rw [if_neg hreset] at hfree
      exact .inl hfree

end Sys2Proof.Machine

namespace Sys2Proof.Machine
open Sys2Proof

/-! ### Registers past the header of a page
An error record, a cause that is raised and a journal entry touch the headers of pages alone (R102, R122). -/

theorem ne_hdrOff {o pg k : Nat} (ho : 0x40 ≤ o % 0x1000) (hk : k < 0x40) : o ≠ hdrOff pg k := by
  rintro rfl
  rw [hdrOff_mod pg (by omega)] at ho
  omega

section
variable {s : State} {o : Nat} (ho : 0x40 ≤ o % 0x1000)
include ho

theorem State.rd_raiseBit_past (pg i : Nat) : (s.raiseBit pg i).rd o = s.rd o :=
  State.rd_raiseBit_other _ _ _ _ (ne_hdrOff ho (by decide))

theorem State.rd_recordErr_past (pg code agent off : Nat) (write : Bool) (be : Nat) :
    (s.recordErr pg code agent off write be).rd o = s.rd o :=
  State.rd_recordErr_other _ _ _ _ _ _ _ _ (ne_hdrOff ho (by decide)) (ne_hdrOff ho (by decide)) (ne_hdrOff ho (by decide))
    (ne_hdrOff ho (by decide))

theorem State.rd_count_past {off : Nat} (h : o ≠ off) (n : Nat) : (s.count off n).rd o = s.rd o :=
  State.rd_count_other _ _ _ _ h (ne_hdrOff ho (by decide))

end

theorem State.rd_safety (s : State) (code a b o : Nat) : (s.safety code a b).rd o = s.rd o :=
  State.rd_congr (State.journal_regs ..) (State.journal_part ..) o

/-- An error of the island as it is reported: the error record with the agent, the SAFETY entry, and the page's cause. -/
def State.report (s : State) (err agent code a b cause : Nat) : State :=
  ((s.recordErrAt 0x005 err agent).safety code a b).raiseBit 0x005 cause

theorem State.rd_report {s : State} {o : Nat} (ho : 0x40 ≤ o % 0x1000) (err agent code a b cause : Nat) :
    (s.report err agent code a b cause).rd o = s.rd o := by
  rw [State.report, State.rd_raiseBit_past ho, State.rd_safety, State.recordErrAt, State.rd_recordErr_past ho]

theorem State.report_fixed (s : State) (err agent code a b cause : Nat) : (s.report err agent code a b cause).fixed = s.fixed := by
  rw [State.report, State.raiseBit_fixed, State.safety_fixed, State.recordErrAt_fixed]

theorem State.fld_congr {s t : State} {o : Nat} (h : t.rd o = s.rd o) (lo n : Nat) : t.fld o lo n = s.fld o lo n := by
  rw [State.fld, h, State.fld]

/-! ### Causes of the kickstand in force (R501 to R504) -/

theorem State.kickCauses_congr {s t : State} (h : t.rd Reg.SAF_KICK = s.rd Reg.SAF_KICK) : t.kickCauses = s.kickCauses :=
  State.fld_congr h 0 10

theorem State.kick_inForce {s : State} {c : Nat} (h : s.kickCauses.testBit c = true) : s.kick c = s := if_pos h

/-- A cause arises, or was in force already and adds nothing (R503). -/
theorem State.kicks (s : State) {c : Nat} (hc : c < 10) : Kicks s (s.kick c) c := by
  cases h : s.kickCauses.testBit c with
  | false => exact State.kick_kicks hc h
  | true =>
    intro i
    rw [State.kick_inForce h]
    by_cases hi : i = c
    · simp [hi, h]
    · simp [hi]

theorem Kicks.congr {s s' t : State} {c : Nat} (h : Kicks s t c) (hs : s.kickCauses = s'.kickCauses) : Kicks s' t c := by
  intro i
  rw [← hs]
  exact h i

theorem Kicks.inForce {s t : State} {c : Nat} (h : Kicks s t c) : t.kickCauses.testBit c = true := by
  simp [h c]

/-- No cause in force clears as another arises. -/
theorem Kicks.stands {s t : State} {c i : Nat} (h : Kicks s t c) (hi : s.kickCauses.testBit i = true) :
    t.kickCauses.testBit i = true := by
  simp [h i, hi]

theorem testBit_clearBit (m i j : Nat) : (clearBit m i).testBit j = (m.testBit j && decide (j ≠ i)) := by
  unfold clearBit
  split
  · next h =>
    have hodd : m / 2 ^ i % 2 = 1 := by simpa [Nat.testBit_eq_decide_div_mod_eq] using h
    have hle : 2 ^ i ≤ m := Nat.ge_two_pow_of_testBit h
    have hclear : (m - 2 ^ i).testBit i = false := by
      have hquot := Nat.sub_mul_div m (2 ^ i) 1
      rw [mul_one] at hquot
      rw [Nat.testBit_eq_decide_div_mod_eq, hquot]
      generalize m / 2 ^ i = k at hodd
      rw [decide_eq_false_iff_not]
      omega
    have hset : setBit (m - 2 ^ i) i = m := by
      rw [setBit, if_neg (by simp [hclear]), Nat.sub_add_cancel hle]
    have hbits := testBit_setBit (m - 2 ^ i) i j
    rw [hset] at hbits
    by_cases hj : j = i
    · simp [hj, hclear]
    · simp [hbits, hj]
  · next h =>
    by_cases hj : j = i
    · simp [hj, h]
    · simp [hj]

theorem clearBit_le (m i : Nat) : clearBit m i ≤ m := by
  unfold clearBit
  split
  · exact Nat.sub_le ..
  · exact le_refl m

theorem State.kickCauses_lt (s : State) : s.kickCauses < 2 ^ 10 := Nat.mod_lt _ (by decide)

theorem State.kickCauses_unkick {s : State} {c : Nat} (h : s.kickCauses.testBit c = true) :
    (s.unkick c).kickCauses = clearBit s.kickCauses c := by
  have hlt := lt_of_le_of_lt (clearBit_le s.kickCauses c) s.kickCauses_lt
  have hshown : (s.unkick c).rd Reg.SAF_KICK = BitVec.ofNat 32 (clearBit s.kickCauses c) := by
    rw [State.unkick, if_neg (by simp [h])]
    exact State.rd_wr_same ..
  rw [State.kickCauses, State.fld, hshown, Word.fld, bitsOf, BitVec.toNat_ofNat]
  omega

/-- A cause clears, and nothing else of the causes in force. -/
theorem State.testBit_unkick (s : State) (c i : Nat) :
    (s.unkick c).kickCauses.testBit i = (s.kickCauses.testBit i && i ≠ c) := by
  cases h : s.kickCauses.testBit c with
  | true => rw [State.kickCauses_unkick h, testBit_clearBit]
  | false =>
    rw [State.unkick, if_pos (by rw [h]; rfl)]
    by_cases hi : i = c
    · simp [hi, h]
    · simp [hi]

/-! ### What the kickstand leaves of the control side -/

/-- From `s` to `t` the control side changes in the island and the state of power at most, and the island's tests have run or not as
before. -/
def State.SameButKick (s t : State) : Prop := ∃ i p, t.fixed = { s.fixed with isl := i, pwr := p } ∧ i.started = s.isl.started

section
variable {s t u : State}

theorem State.SameButKick.of_fixed (h : t.fixed = s.fixed) : State.SameButKick s t := ⟨s.isl, s.pwr, h, rfl⟩

theorem State.SameButKick.trans (h : State.SameButKick s t) (k : State.SameButKick t u) : State.SameButKick s u := by
  obtain ⟨i, p, h, hi⟩ := h
  obtain ⟨j, q, k, hj⟩ := k
  have hisl : t.isl = i := congrArg Fixed.isl h
  exact ⟨j, q, by rw [k, h], by rw [hj, hisl, hi]⟩

theorem State.SameButKick.part (h : State.SameButKick s t) : t.part = s.part := by
  obtain ⟨i, p, h, -⟩ := h
  exact congrArg Fixed.part h

theorem State.SameButKick.window (h : State.SameButKick s t) : t.window = s.window := by
  obtain ⟨i, p, h, -⟩ := h
  exact congrArg Fixed.window h

theorem State.SameButKick.started (h : State.SameButKick s t) : t.isl.started = s.isl.started := by
  obtain ⟨i, p, h, hi⟩ := h
  have hisl : t.isl = i := congrArg Fixed.isl h
  rw [hisl, hi]

end

/-- A requested transition that the kickstand stops counts as refused. -/
def State.refuseRequest (s : State) : State :=
  if s.fld Reg.PWR_STATE 4 3 = 1 && s.pwr.request.isNone then (s.setFld Reg.PWR_STATE 4 3 5).raiseBit 0x001 1 else s

/-- Pins are silent and the gate is shut; the state of power is the kickstand. -/
def State.enterKick (s : State) : State :=
  { s with isl := { s.isl with kickRun := true, gate := false, closing := s.isl.sink },
           pwr := { s.pwr with st := .kick, wakeNext := none,
                               trans := some { src := s.pwr.st, dst := .kick, since := s.now, done := false } } }

/-- The kickstand's work after it came into force: it is shown, and the work in flight ends (R502, R529). -/
def State.endWork (s : State) (gated : Bool) : State :=
  let s := s.setFld Reg.SAF_STATUS 0 1 1
  let s := if gated then (s.raiseBit 0x012 4).trace 22 0 0 0 else s
  (s.loseClaims fun _ => true).kickLoops.kickCommands.portsOff

theorem State.kickForce_eq (s : State) : s.kickForce = s.refuseRequest.enterKick.endWork s.isl.gate := rfl

theorem State.refuseRequest_fixed (s : State) : s.refuseRequest.fixed = s.fixed := by
  unfold State.refuseRequest
  split
  · rw [State.raiseBit_fixed, State.setFld_fixed]
  · rfl

theorem State.endWork_fixed (s : State) (gated : Bool) : (s.endWork gated).fixed = s.fixed := by
  simp only [State.endWork, State.portsOff_fixed, State.kickCommands_fixed, State.kickLoops_fixed, State.loseClaims_fixed]
  split
  · rw [State.trace_fixed, State.raiseBit_fixed, State.setFld_fixed]
  · rw [State.setFld_fixed]

theorem State.kickForce_sameButKick (s : State) : State.SameButKick s s.kickForce := by
  rw [State.kickForce_eq]
  have henter : State.SameButKick s.refuseRequest s.refuseRequest.enterKick := ⟨_, _, rfl, rfl⟩
  exact ((State.SameButKick.of_fixed s.refuseRequest_fixed).trans henter).trans (.of_fixed (State.endWork_fixed ..))

theorem State.kick_sameButKick (s : State) (c : Nat) : State.SameButKick s (s.kick c) := by
  have hforce (again : Bool) (t : State) : State.SameButKick t (if again then t else t.kickForce) := by
    split
    · exact .of_fixed rfl
    · exact t.kickForce_sameButKick
  have herror (p : Prop) [Decidable p] : (if p then s.safErr 0x0C05 else s).fixed = s.fixed := by
    split
    · exact s.safErr_fixed _
    · rfl
  rw [State.kick]
  split
  · exact .of_fixed rfl
  · refine .trans ?_ (.of_fixed (State.wr_fixed ..))
    refine .trans (.of_fixed ?_) (hforce _ _)
    rw [State.raiseBit_fixed, State.safety_fixed, herror]

/-- The block is on its way from the kickstand to SERVE. -/
def State.leaveKick (s : State) : State :=
  { s with isl := { s.isl with kickRun := false },
           pwr := { s.pwr with trans := some { src := .kick, dst := .serve, since := s.now, done := false } } }

/-- The kickstand is released with its last cause (R503, R530). -/
def State.releaseKick (s : State) : State :=
  ((s.kickClear.leaveKick.setFld Reg.SAF_STATUS 0 1 0).safety 2 0 0).raiseBit 0x005 1

theorem State.unkick_eq (s : State) (c : Nat) : s.unkick c = if !s.kickCauses.testBit c then s
    else (if clearBit s.kickCauses c ≠ 0 then s else s.releaseKick).wr Reg.SAF_KICK (BitVec.ofNat 32 (clearBit s.kickCauses c)) := rfl

theorem State.releaseKick_sameButKick (s : State) : State.SameButKick s s.releaseKick := by
  have hleave : State.SameButKick s.kickClear s.kickClear.leaveKick := ⟨_, _, rfl, rfl⟩
  refine ((State.SameButKick.of_fixed s.kickClear_fixed).trans hleave).trans (.of_fixed ?_)
  rw [State.releaseKick, State.raiseBit_fixed, State.safety_fixed, State.setFld_fixed]

theorem State.unkick_sameButKick (s : State) (c : Nat) : State.SameButKick s (s.unkick c) := by
  rw [State.unkick_eq]
  split
  · exact .of_fixed rfl
  · refine .trans ?_ (.of_fixed (State.wr_fixed ..))
    split
    · exact .of_fixed rfl
    · exact s.releaseKick_sameButKick

end Sys2Proof.Machine

namespace Sys2Proof.Machine
open Sys2Proof

/-! ### Trigger registers of the SAF page (R98, R114) -/

/-- The trigger bits `mask` of a register in a word that a row writes with the bits of `m` set. -/
def written (val : Word) (m mask : Nat) : Nat := Nat.land (BitVec.ofNat 32 (withBits val m).toNat : Word).toNat mask

theorem testBit_of_written (val : Word) (m mask : Nat) {i : Nat} (hi : i < 32) :
    (written val m mask).testBit i = ((Word.bit val i || m.testBit i) && mask.testBit i) := by
  refine (Nat.testBit_and ..).trans ?_
  rw [word_of_withBits, BitVec.testBit_toNat, BitVec.getLsbD_or, BitVec.getLsbD_ofNat, Word.bit, BitVec.testBit_toNat]
  simp [hi]

/-- The row's own bit is written. -/
theorem testBit_written_own (val : Word) {m mask i : Nat} (hi : i < 32) (hm : m.testBit i = true) (hk : mask.testBit i = true) :
    (written val m mask).testBit i = true := by
  simp [testBit_of_written val m mask hi, hm, hk]

/-- A bit that neither the row nor the word sets is not written. -/
theorem testBit_written_clear {val : Word} {m i : Nat} (mask : Nat) (hi : i < 32) (hv : Word.bit val i = false)
    (hm : m.testBit i = false) : (written val m mask).testBit i = false := by
  simp [testBit_of_written val m mask hi, hv, hm]

/-- No hub keeps a write of the SAF page waiting: where no claim is held, the bits of a trigger register act at once. -/
theorem State.write32_saf {s : State} {agent off : Nat} (h : Reaches s agent off) (hc : s.claimOf 0x005 = none) {r : RegSpec}
    (hb : pageOf (off / 0x1000) = some (.saf, 0)) (hr : specAt off = some r) (ho : 0x40 ≤ off % 0x1000)
    (hrole : r.role = .single) (hrw : r.rw = 0)
    (hnone : ∀ t : State, t.triggerAct agent .saf 0 (off % 0x1000) 0 none false = t) (val : Word) (m : Nat) :
    s.write32 agent off (withBits val m) = (woken s agent).triggerAct agent .saf 0 (off % 0x1000)
      (written val m (Nat.lor r.w1c (Nat.lor r.w1s r.wo))) none false := by
  have hpage : off / 0x1000 = 0x005 := (Block.page_of_pageOf hb).symm
  rw [State.write32_unclaimed h hb hr ho hrole (hpage ▸ hc), State.applyWord]
  simp only [hrw, if_true]
  split
  · next hbits => rw [written, hbits, hnone]
  · exact State.actTrigger_now hb (State.hubWaits_none (by simp [hubOf])) ..

/-! ### SAF_CTL (R504, R509) -/

/-- What the three bits of SAF_CTL do, in their order. -/
def State.safCtl (s : State) (agent bits : Nat) : State :=
  ((s.onBit bits 0 fun s => s.kick 9).onBit bits 1 fun s => s.unkick 9).onBit bits 2 fun s => s.storeCeilings agent

section
variable {bits : Nat} (s : State) (agent : Nat)

theorem State.safCtl_force (h0 : bits.testBit 0 = true) (h1 : bits.testBit 1 = false) (h2 : bits.testBit 2 = false) :
    s.safCtl agent bits = s.kick 9 := by simp [State.safCtl, State.onBit, h0, h1, h2]

theorem State.safCtl_release (h0 : bits.testBit 0 = false) (h1 : bits.testBit 1 = true) (h2 : bits.testBit 2 = false) :
    s.safCtl agent bits = s.unkick 9 := by simp [State.safCtl, State.onBit, h0, h1, h2]

theorem State.safCtl_store (h0 : bits.testBit 0 = false) (h1 : bits.testBit 1 = false) (h2 : bits.testBit 2 = true) :
    s.safCtl agent bits = s.storeCeilings agent := by simp [State.safCtl, State.onBit, h0, h1, h2]

end

theorem State.write32_safCtl {s : State} {agent : Nat} (h : Reaches s agent Reg.SAF_CTL) (hc : s.claimOf 0x005 = none) (val : Word)
    (m : Nat) : s.write32 agent Reg.SAF_CTL (withBits val m) = (woken s agent).safCtl agent (written val m 7) :=
  State.write32_saf (r := ⟨0x048, 0x0, 1, 0x0, 0x0, 0x7, 0x0, 0x0, .single⟩) h hc (by decide) (by decide) (by decide) rfl rfl
    (fun _ => rfl) val m

theorem woken_kickCauses (s : State) (agent : Nat) : (woken s agent).kickCauses = s.kickCauses :=
  State.kickCauses_congr (rd_woken_other _ _ (by decide) (by decide) (by decide))

theorem kickCauses_of_kicks {s t : State} {c : Nat} (h : Kicks s t c) : t.kickCauses = s.kickCauses ||| 2 ^ c := by
  refine Nat.eq_of_testBit_eq fun i => ?_
  rw [h i, Nat.testBit_or, Nat.testBit_two_pow]
  simp [eq_comm]

section
variable {s : State} {agent : Nat} (h : Reaches s agent Reg.SAF_CTL) (hc : s.claimOf 0x005 = none) {val : Word}
include h hc

theorem safCtl_row (val : Word) (m : Nat) :
    runWrite agent Reg.SAF_CTL (withBits val m) s
      = .next (State.keepCmd (fun _ => (woken s agent).safCtl agent (written val m 7)) s) := by
  rw [runWrite_alive h, State.write32_safCtl h hc]

theorem does_safCtlForce (h1 : Word.bit val 1 = false) (h2 : Word.bit val 2 = false) :
    Does (.safCtlForce agent val) s ((woken s agent).kick 9) := by
  have hact := (woken s agent).safCtl_force agent (bits := written val 1 7) (testBit_written_own val (by decide) (by decide) (by decide))
    (testBit_written_clear 7 (by decide) h1 (by decide))
    (testBit_written_clear 7 (by decide) h2 (by decide))
  have hrow := safCtl_row h hc val 1
  rwa [hact] at hrow

theorem does_safCtlRelease (h0 : Word.bit val 0 = false) (h2 : Word.bit val 2 = false) :
    Does (.safCtlRelease agent val) s ((woken s agent).unkick 9) := by
  have hact := (woken s agent).safCtl_release agent (bits := written val 2 7) (testBit_written_clear 7 (by decide) h0 (by decide))
    (testBit_written_own val (by decide) (by decide) (by decide))
    (testBit_written_clear 7 (by decide) h2 (by decide))
  have hrow := safCtl_row h hc val 2
  rwa [hact] at hrow

theorem does_safCtlStore (h0 : Word.bit val 0 = false) (h1 : Word.bit val 1 = false) :
    Does (.safCtlStore agent val) s ((woken s agent).storeCeilings agent) := by
  have hact := (woken s agent).safCtl_store agent (bits := written val 4 7) (testBit_written_clear 7 (by decide) h0 (by decide))
    (testBit_written_clear 7 (by decide) h1 (by decide))
    (testBit_written_own val (by decide) (by decide) (by decide))
  have hrow := safCtl_row h hc val 4
  rwa [hact] at hrow

end

/-- Settles O25: the two bits are `State.kick` and `State.unkick` of cause 9, which leave the presence window. -/
theorem kickstandForceAndRelease : Obligations.KickstandForceAndRelease := by
  intro s agent val h hc
  have hcauses := woken_kickCauses s agent
  have hwindow := woken_window s agent
  refine ⟨fun h1 h2 => ⟨_, does_safCtlForce h hc h1 h2, ?_, ?_⟩, fun h0 h2 => ⟨_, does_safCtlRelease h hc h0 h2, fun i => ?_, ?_⟩⟩
  · rw [kickCauses_of_kicks ((woken s agent).kicks (by decide)), hcauses]
  · rw [((woken s agent).kick_sameButKick 9).window, hwindow]
  · rw [State.testBit_unkick, hcauses]
  · rw [((woken s agent).unkick_sameButKick 9).window, hwindow]

/-! ### SAF_CTL.store (R509) -/

/-- The store with the ceiling maxima as they stand in the registers. -/
def State.storedCeilings (s : State) : Part := { s.part with ceilMax := (List.range 4).map fun o => (o, s.rd (Reg.SAF_CEIL_MAX o)) }

theorem State.storeCeilings_unsealed {s : State} (h : s.part.sealFuse = false) (agent : Nat) :
    s.storeCeilings agent = { s with part := s.storedCeilings } := if_neg (by simp [h])

theorem State.storeCeilings_sealed {s : State} (h : s.part.sealFuse = true) (agent : Nat) :
    s.storeCeilings agent = s.badVal agent Reg.SAF_CTL := if_pos h

theorem rd_woken_saf (s : State) (agent : Nat) {o : Nat} (h : o < 0x0C000) : (woken s agent).rd o = s.rd o :=
  rd_woken_other _ _ (by simp only [Reg.LNK_STATUS]; omega) (by simp only [Reg.LNK_L1_EXITS]; omega) (by simp only [hdrOff]; omega)

theorem woken_storedCeilings (s : State) (agent : Nat) : (woken s agent).storedCeilings = s.storedCeilings := by
  rw [State.storedCeilings, (woken_same s agent).part]
  refine congrArg (fun l => { s.part with ceilMax := l }) (List.map_congr_left fun o ho => ?_)
  rw [rd_woken_saf _ _ (by have := List.mem_range.1 ho; simp only [Reg.SAF_CEIL_MAX]; omega)]

theorem State.fld_badVal_code (s : State) (agent : Nat) {off : Nat} (h : off / 0x1000 = 0x005) :
    (s.badVal agent off).fld (hdrOff 0x005 0x01C) 0 16 = 0x0107 := by
  have hcode := s.fld_recordErr_code 0x005 0x0107 agent off true 0xF
  rw [State.badVal, h]
  exact hcode.1

end Sys2Proof.Machine

namespace Sys2Proof.Machine
open Sys2Proof

/-! ### Pin outputs (R505, R506) -/

theorem State.pinOut_setPinOut_same (s : State) (o : Nat) (x : PinOut) : (s.setPinOut o x).pinOut o = x := Tab.get_put_same ..

theorem State.pinOut_setPinOut_other (s : State) {o k : Nat} (x : PinOut) (h : k ≠ o) : (s.setPinOut o x).pinOut k = s.pinOut k :=
  Tab.get_put_other _ _ _ _ _ h

theorem State.rd_setPinOut (s : State) (o : Nat) (x : PinOut) (a : Nat) : (s.setPinOut o x).rd a = s.rd a := rfl

theorem State.pinOut_of_isl {s t : State} (h : t.isl = s.isl) (o : Nat) : t.pinOut o = s.pinOut o := by
  rw [State.pinOut, h, State.pinOut]

/-- An exceedance is shown in the output's state, counted and reported (R506). -/
def State.showHit (s : State) (o which lvl : Nat) : State :=
  ((s.wr (Reg.SAF_CEIL_STATE o) (BitVec.ofNat 32 (1 + 2 * which + lvl * 2 ^ 16))).count (Reg.SAF_CEIL_MUTES o) 1).report
    0x0C01 0xFF 3 o lvl 2

theorem State.recordHit_of_hit {s : State} {o which : Nat} {q : Int} (h : (s.pinOut o).hit = some (which, q)) :
    s.recordHit o = (s.setPinOut o { s.pinOut o with hit := none }).showHit o which (q % 65536).toNat := by
  simp only [State.recordHit, h]
  rfl

theorem State.recordHit_of_none {s : State} {o : Nat} (h : (s.pinOut o).hit = none) : s.recordHit o = s := by
  simp only [State.recordHit, h]

theorem State.showHit_fixed (s : State) (o which lvl : Nat) : (s.showHit o which lvl).fixed = s.fixed := by
  rw [State.showHit, State.report_fixed, State.count_fixed, State.wr_fixed]

theorem State.rd_showHit_other (s : State) (o which lvl : Nat) {a : Nat} (ha : 0x40 ≤ a % 0x1000) (h1 : a ≠ Reg.SAF_CEIL_STATE o)
    (h2 : a ≠ Reg.SAF_CEIL_MUTES o) : (s.showHit o which lvl).rd a = s.rd a := by
  rw [State.showHit, State.rd_report ha, State.rd_count_past ha h2, State.rd_wr_other _ _ _ _ h1]

theorem State.pinOut_showHit (s : State) (o which lvl k : Nat) : (s.showHit o which lvl).pinOut k = s.pinOut k :=
  State.pinOut_of_isl (State.isl_of_fixed (State.showHit_fixed ..)) k

/-- An exceedance is recorded once. -/
theorem State.pinOut_recordHit (s : State) (o : Nat) : (s.recordHit o).pinOut o = { s.pinOut o with hit := none } := by
  match h : (s.pinOut o).hit with
  | none =>
    rw [State.recordHit_of_none h, ← h]
  | some (which, q) => rw [State.recordHit_of_hit h, State.pinOut_showHit, State.pinOut_setPinOut_same]

/-- `t` differs from `s` in output `o`, with what it shows, and in the headers of pages and what they send at most: limits, other
outputs and the registers before the outputs' states stay. -/
structure OnlyOutput (o : Nat) (s t : State) : Prop where
  part : t.part = s.part
  pins : ∀ k, k ≠ o → t.pinOut k = s.pinOut k
  rd : ∀ a, 0x40 ≤ a % 0x1000 → a < 0x050A0 → t.rd a = s.rd a

theorem OnlyOutput.refl (o : Nat) (s : State) : OnlyOutput o s s := ⟨rfl, fun _ _ => rfl, fun _ _ _ => rfl⟩

theorem OnlyOutput.trans {o : Nat} {s t u : State} (h : OnlyOutput o s t) (k : OnlyOutput o t u) : OnlyOutput o s u where
  part := k.part.trans h.part
  pins j hj := (k.pins j hj).trans (h.pins j hj)
  rd a ha hlow := (k.rd a ha hlow).trans (h.rd a ha hlow)

theorem State.setPinOut_onlyOutput (s : State) (o : Nat) (x : PinOut) : OnlyOutput o s (s.setPinOut o x) where
  part := rfl
  pins _ h := s.pinOut_setPinOut_other x h
  rd _ _ _ := rfl

theorem State.showHit_onlyOutput (s : State) (o which lvl : Nat) : OnlyOutput o s (s.showHit o which lvl) where
  part := State.part_of_fixed (State.showHit_fixed ..)
  pins k _ := State.pinOut_showHit ..
  rd a ha hlow := State.rd_showHit_other _ _ _ _ ha (by simp only [Reg.SAF_CEIL_STATE]; omega) (by simp only [Reg.SAF_CEIL_MUTES]; omega)

theorem State.recordHit_onlyOutput (s : State) (o : Nat) : OnlyOutput o s (s.recordHit o) := by
  match h : (s.pinOut o).hit with
  | none =>
    rw [State.recordHit_of_none h]
    exact .refl o s
  | some (which, q) =>
    rw [State.recordHit_of_hit h]
    exact (s.setPinOut_onlyOutput o _).trans (State.showHit_onlyOutput ..)

/-! ### SAF_TEST.ceiling (R523) -/

/-- Output `o` is muted for an exceedance, which is recorded. -/
def State.tripOutput (s : State) (o which : Nat) (q : Int) (meters : List (Nat × Meter)) : State :=
  (s.setPinOut o { s.pinOut o with meters := meters, hit := some (which, q), muted := true, mutedAt := s.now }).recordHit o

theorem State.tripOutput_onlyOutput (s : State) (o which : Nat) (q : Int) (meters : List (Nat × Meter)) :
    OnlyOutput o s (s.tripOutput o which q meters) :=
  (s.setPinOut_onlyOutput o _).trans (State.recordHit_onlyOutput ..)

theorem State.pinOut_tripOutput (s : State) (o which : Nat) (q : Int) (meters : List (Nat × Meter)) :
    (s.tripOutput o which q meters).pinOut o
      = { s.pinOut o with meters := meters, hit := none, muted := true, mutedAt := s.now } := by
  rw [State.tripOutput, State.pinOut_recordHit, State.pinOut_setPinOut_same]

/-- A limit in force of output `o` lies below +3 dBFS. -/
def State.limited (s : State) (o : Nat) : Bool := s.ceiling o 0 < 12 || s.ceiling o 1 < 12

theorem State.testCeiling_eq (s : State) (o : Nat) :
    s.testCeiling o = if (s.pinOut o).muted then s
      else if s.ceiling o 0 < 12 then s.tripOutput o 0 12 (s.pinOut o).meters
      else if s.ceiling o 1 < 12 then s.tripOutput o 1 12 (s.pinOut o).meters
      else s := rfl

theorem State.testCeiling_onlyOutput (s : State) (o : Nat) : OnlyOutput o s (s.testCeiling o) := by
  rw [State.testCeiling_eq]
  split_ifs
  · exact .refl o s
  · exact State.tripOutput_onlyOutput ..
  · exact State.tripOutput_onlyOutput ..
  · exact .refl o s

theorem State.muted_testCeiling (s : State) (o : Nat) :
    ((s.testCeiling o).pinOut o).muted = ((s.pinOut o).muted || s.limited o) := by
  rw [State.testCeiling_eq, State.limited]
  split_ifs with hm h0 h1
  · simp [hm]
  · simp [State.pinOut_tripOutput, h0]
  · simp [State.pinOut_tripOutput, h1]
  · simp [hm, h0, h1]

theorem OnlyOutput.limited {j : Nat} {s t : State} (h : OnlyOutput j s t) {o : Nat} (ho : o < 4) : t.limited o = s.limited o := by
  have hlimit : t.rd (Reg.SAF_CEIL_LIMIT o) = s.rd (Reg.SAF_CEIL_LIMIT o) :=
    h.rd _ (by simp only [Reg.SAF_CEIL_LIMIT]; omega) (by simp only [Reg.SAF_CEIL_LIMIT]; omega)
  have hceiling (which : Nat) : t.ceiling o which = s.ceiling o which := by
    rw [State.ceiling, State.fld_congr hlimit, h.part, State.ceiling]
  rw [State.limited, hceiling, hceiling, State.limited]

/-- The outputs named by the bits of a word are tested in turn. -/
def State.testOutputs (s : State) (bits : Nat) (l : List Nat) : State :=
  l.foldl (fun s k => s.onBit bits k fun s => s.testCeiling k) s

theorem State.onBit_testCeiling_onlyOutput (s : State) (bits k : Nat) :
    OnlyOutput k s (s.onBit bits k fun s => s.testCeiling k) := by
  unfold State.onBit
  split
  · exact s.testCeiling_onlyOutput k
  · exact .refl k s

theorem State.muted_onBit_testCeiling (s : State) (bits k o : Nat) :
    ((s.onBit bits k fun s => s.testCeiling k).pinOut o).muted
      = ((s.pinOut o).muted || (o = k && bits.testBit o && s.limited o)) := by
  by_cases ho : o = k
  · subst ho
    unfold State.onBit
    split
    · next h => simp [State.muted_testCeiling, h]
    · next h => simp [h]
  · simp [(s.onBit_testCeiling_onlyOutput bits k).pins o ho, ho]

/-- A tested output is muted where a limit lies below +3 dBFS, and stays muted. -/
theorem State.muted_testOutputs (bits : Nat) (l : List Nat) (s : State) {o : Nat} (ho : o < 4) :
    ((s.testOutputs bits l).pinOut o).muted = ((s.pinOut o).muted || (o ∈ l && bits.testBit o && s.limited o)) := by
  induction l generalizing s with
  | nil => simp [State.testOutputs]
  | cons k l ih =>
    have hstep := ih (s.onBit bits k fun s => s.testCeiling k)
    rw [State.testOutputs, List.foldl_cons]
    rw [State.testOutputs, State.muted_onBit_testCeiling, (s.onBit_testCeiling_onlyOutput bits k).limited ho] at hstep
    rw [hstep]
    simp only [List.mem_cons, Bool.decide_or, Bool.and_or_distrib_right, Bool.or_assoc]

theorem State.rd_testOutputs (bits : Nat) (l : List Nat) (s : State) {a : Nat} (ha : 0x40 ≤ a % 0x1000) (hlow : a < 0x050A0) :
    (s.testOutputs bits l).rd a = s.rd a := by
  induction l generalizing s with
  | nil => rfl
  | cons k l ih => exact (ih _).trans ((s.onBit_testCeiling_onlyOutput bits k).rd a ha hlow)

end Sys2Proof.Machine

namespace Sys2Proof.Machine
open Sys2Proof

/-! ### SAF_TEST (R517, R523) -/

/-- What the bits of SAF_TEST do, in their order. -/
def State.safTest (s : State) (bits : Nat) : State :=
  (((s.testOutputs bits (List.range 4)).onBit bits 4 State.testTag).onBit bits 5
    fun s => { s with isl := { s.isl with forceDark := 5 } })

theorem State.write32_safTest {s : State} {agent : Nat} (h : Reaches s agent Reg.SAF_TEST) (hc : s.claimOf 0x005 = none) (val : Word)
    (m : Nat) : s.write32 agent Reg.SAF_TEST (withBits val m) = (woken s agent).safTest (written val m 0x3F) :=
  State.write32_saf (r := ⟨0x06C, 0x0, 1, 0x0, 0x0, 0x3F, 0x0, 0x0, .single⟩) h hc (by decide) (by decide) (by decide) rfl rfl
    (fun _ => rfl) val m

theorem State.tagFails_eq (s : State) (handle tag agent : Nat) :
    s.tagFails handle tag agent = (((s.count Reg.SAF_TAG_MISMATCHES 1).wr Reg.SAF_TAG_LAST (BitVec.ofNat 32 (tag % 65536))).wr
      Reg.SAF_TAG_LAST_HANDLE (BitVec.ofNat 32 handle)).report 0x0C03 agent 5 handle (tag % 65536) 4 := rfl

theorem State.tagFails_counts (s : State) (handle tag agent : Nat) :
    Counts s (s.tagFails handle tag agent) Reg.SAF_TAG_MISMATCHES 1 := by
  refine Counts.congr rfl ?_ (Counts.count s Reg.SAF_TAG_MISMATCHES 1 (by decide))
  rw [State.tagFails_eq, State.rd_report (by decide), State.rd_wr_other _ _ _ _ (by decide), State.rd_wr_other _ _ _ _ (by decide)]

theorem State.bit_report (s : State) (err agent code a b : Nat) {cause : Nat} (h : cause < 32) :
    (s.report err agent code a b cause).bit (hdrOff 0x005 0x010) cause = true := State.bit_raiseBit_same _ _ h

/-- A mismatch of the test block is counted and signalled; nothing that follows in the register's acts undoes it. -/
theorem State.safTest_tag (s : State) {bits : Nat} (h : bits.testBit 4 = true) :
    Counts s (s.safTest bits) Reg.SAF_TAG_MISMATCHES 1 ∧ (s.safTest bits).bit (hdrOff 0x005 0x010) 4 = true := by
  have hrd (t : State) (o : Nat) :
      (t.onBit bits 5 fun s => { s with isl := { s.isl with forceDark := 5 } }).rd o = t.rd o := by
    unfold State.onBit
    split <;> rfl
  have hfails : (s.testOutputs bits (List.range 4)).onBit bits 4 State.testTag = (s.testOutputs bits (List.range 4)).testTag := if_pos h
  have htested : (s.testOutputs bits (List.range 4)).rd Reg.SAF_TAG_MISMATCHES = s.rd Reg.SAF_TAG_MISMATCHES :=
    State.rd_testOutputs _ _ _ (by decide) (by decide)
  rw [State.safTest, hfails]
  exact ⟨Counts.congr htested.symm (hrd _ _) (State.tagFails_counts (s.testOutputs bits (List.range 4)).fresh.2 _ _ _),
    (State.bit_congr (hrd _ _) 4).trans (State.bit_report _ _ _ _ _ _ (by decide))⟩

theorem State.safTest_lamp (s : State) {bits : Nat} (h : bits.testBit 5 = true) : (s.safTest bits).isl.forceDark = 5 := by
  rw [State.safTest, State.onBit, if_pos h]

theorem State.safTest_ceiling (s : State) {bits : Nat} (h4 : bits.testBit 4 = false) (h5 : bits.testBit 5 = false) :
    s.safTest bits = s.testOutputs bits (List.range 4) := by
  simp [State.safTest, State.onBit, h4, h5]

theorem bit_of_fld_zero {w : Word} {lo n i : Nat} (h : Word.fld w lo n = 0) (hi : i < n) : Word.bit w (lo + i) = false := by
  have hbit : (Word.fld w lo n).testBit i = Word.bit w (lo + i) := by
    simp [Word.fld, bitsOf, Word.bit, Nat.testBit_mod_two_pow, Nat.testBit_div_two_pow, hi, Nat.add_comm]
  rw [← hbit, h, Nat.zero_testBit]

theorem woken_pinOut (s : State) (agent o : Nat) : (woken s agent).pinOut o = s.pinOut o :=
  State.pinOut_of_isl (woken_same s agent).isl o

theorem woken_limited (s : State) (agent : Nat) {o : Nat} (ho : o < 4) : (woken s agent).limited o = s.limited o := by
  have hceiling (which : Nat) : (woken s agent).ceiling o which = s.ceiling o which := by
    rw [State.ceiling, State.fld_congr (rd_woken_saf s agent (by simp only [Reg.SAF_CEIL_LIMIT]; omega)), (woken_same s agent).part,
      State.ceiling]
  rw [State.limited, hceiling, hceiling, State.limited]

/-- The outputs that a row of SAF_TEST.ceiling mutes. -/
theorem muted_safTest {s : State} (agent : Nat) {val : Word} (hval : Word.fld val 4 28 = 0) {o : Nat} (ho : o < 4) :
    (((woken s agent).safTest (written val 0 0x3F)).pinOut o).muted
      = ((s.pinOut o).muted || (Word.bit val o && (s.ceiling o 0 < 12 || s.ceiling o 1 < 12))) := by
  have hhigh (i : Nat) (hi : i < 28) : (written val 0 0x3F).testBit (4 + i) = false :=
    testBit_written_clear 0x3F (by omega) (bit_of_fld_zero hval hi) (Nat.zero_testBit _)
  have hbit : (written val 0 0x3F).testBit o = Word.bit val o := by
    have hmask : Nat.testBit 0x3F o = true := by interval_cases o <;> rfl
    simp [testBit_of_written val 0 0x3F (i := o) (by omega), hmask]
  rw [State.safTest_ceiling _ (hhigh 0 (by decide)) (hhigh 1 (by decide)), State.muted_testOutputs _ _ _ ho, woken_pinOut, hbit,
    woken_limited s agent ho, State.limited]
  simp [ho]

/-! ### SAF_CEIL_STATE.clear and SAF_PRIV.clear (R508, R512) -/

theorem State.write32_ceilState {s : State} {agent o : Nat} (ho : o < 4) (h : Reaches s agent (Reg.SAF_CEIL_STATE o))
    (hc : s.claimOf 0x005 = none) (val : Word) :
    s.write32 agent (Reg.SAF_CEIL_STATE o) (withBits val 4)
      = (woken s agent).setPinOut o { (woken s agent).pinOut o with clear := true } := by
  have hbit := testBit_written_own val (m := 4) (mask := 4) (i := 2) (by decide) (by decide) (by decide)
  have hspec : specAt (Reg.SAF_CEIL_STATE o) = some ⟨0x0A0, 0x4, 4, 0x0, 0x0, 0x4, 0x0, 0x0, .single⟩ := by
    interval_cases o <;> decide
  have hpage : pageOf (Reg.SAF_CEIL_STATE o / 0x1000) = some (.saf, 0) := by interval_cases o <;> decide
  have hoff : Reg.SAF_CEIL_STATE o % 0x1000 = 0x0A0 + 4 * o := by simp only [Reg.SAF_CEIL_STATE]; omega
  have hact (t : State) (bits : Nat) : t.triggerAct agent .saf 0 (Reg.SAF_CEIL_STATE o % 0x1000) bits none false
      = t.onBit bits 2 fun s => s.setPinOut o { s.pinOut o with clear := true } := by
    rw [hoff]
    interval_cases o <;> rfl
  rw [State.write32_saf h hc hpage hspec (by omega) rfl rfl (fun t => hact t 0) val 4, hact, State.onBit]
  exact if_pos hbit

theorem State.write32_safPriv {s : State} {agent : Nat} (h : Reaches s agent Reg.SAF_PRIV) (hc : s.claimOf 0x005 = none) (val : Word) :
    s.write32 agent Reg.SAF_PRIV (withBits val (2 ^ 16)) = (woken s agent).setFld Reg.SAF_PRIV 2 3 0 := by
  have hbit := testBit_written_own val (m := 2 ^ 16) (mask := 0x10000) (i := 16) (by decide) (by decide) (by decide)
  rw [State.write32_saf (r := ⟨0x050, 0x0, 1, 0x0, 0x0, 0x10000, 0x0, 0x0, .single⟩) h hc (by decide) (by decide) (by decide) rfl rfl
    (fun _ => rfl) val (2 ^ 16)]
  exact if_pos hbit

theorem State.setFld_touchesOnly (s : State) (off lo n v : Nat) : TouchesOnly s (s.setFld off lo n v) [off] :=
  ⟨rfl, fun _ ho => State.rd_setFld_other _ _ _ _ _ (by simpa using ho)⟩

/-- The latched fault and its kind are one field, which the clear sets to 0. -/
theorem State.clearPriv_clears (s : State) :
    (s.setFld Reg.SAF_PRIV 2 3 0).fld Reg.SAF_PRIV 2 3 = 0 ∧ (s.setFld Reg.SAF_PRIV 2 3 0).privFault = false := by
  have hfld : (s.setFld Reg.SAF_PRIV 2 3 0).fld Reg.SAF_PRIV 2 3 = 0 := by
    rw [State.fld, State.rd_setFld_same, Word.fld_setFld_same _ (by decide), Nat.zero_mod]
  exact ⟨hfld, bit_of_fld_zero (i := 0) hfld (by decide)⟩

/-! ### The rows of the SAF page -/

section
variable {s : State} {agent : Nat} (hc : s.claimOf 0x005 = none) (val : Word)
include hc

theorem safCtlStore_row (h : Reaches s agent Reg.SAF_CTL) (h0 : Word.bit val 0 = false) (h1 : Word.bit val 1 = false) :
    ∃ u, Does (.safCtlStore agent val) s u
      ∧ (s.part.sealFuse = false → u.part = s.storedCeilings ∧ ∀ o, u.rd o = (woken s agent).rd o)
      ∧ (s.part.sealFuse = true → u.part = s.part ∧ u.fld (hdrOff 0x005 0x01C) 0 16 = 0x0107) := by
  have hpart := (woken_same s agent).part
  refine ⟨_, does_safCtlStore h hc h0 h1, fun hopen => ?_, fun hsealed => ?_⟩
  · rw [State.storeCeilings_unsealed (hpart ▸ hopen), woken_storedCeilings]
    refine ⟨rfl, fun o => ?_⟩
    rw [State.rd, State.rd, hpart]
    rfl
  · rw [State.storeCeilings_sealed (hpart ▸ hsealed), State.part_of_fixed (State.badVal_fixed ..), hpart]
    exact ⟨rfl, State.fld_badVal_code _ _ rfl⟩

theorem safCeilClear_row {o : Nat} (ho : o < 4) (h : Reaches s agent (Reg.SAF_CEIL_STATE o)) :
    ∃ u, Does (.safCeilClear agent o val) s u
      ∧ u.pinOut o = { s.pinOut o with clear := true } ∧ (∀ k, k ≠ o → u.pinOut k = s.pinOut k)
      ∧ ∀ a, u.rd a = (woken s agent).rd a := by
  have hrow := runWrite_alive h (withBits val 4)
  rw [State.write32_ceilState ho h hc] at hrow
  refine ⟨_, (?_ : exec _ s = _).trans hrow, ?_, fun k hk => ?_, fun _ => rfl⟩
  · show runWrite agent (Reg.SAF_CEIL_STATE (o % 4)) _ s = _
    rw [Nat.mod_eq_of_lt ho]
  · rw [State.pinOut_setPinOut_same, woken_pinOut]
  · rw [State.pinOut_setPinOut_other _ _ hk, woken_pinOut]

theorem safPrivClear_row (h : Reaches s agent Reg.SAF_PRIV) :
    ∃ u, Does (.safPrivClear agent val) s u ∧ u.fld Reg.SAF_PRIV 2 3 = 0 ∧ u.privFault = false
      ∧ TouchesOnly (woken s agent) u [Reg.SAF_PRIV] := by
  have hrow := runWrite_alive h (withBits val (2 ^ 16))
  rw [State.write32_safPriv h hc] at hrow
  obtain ⟨hfld, hfault⟩ := State.clearPriv_clears (woken s agent)
  exact ⟨_, hrow, hfld, hfault, State.setFld_touchesOnly ..⟩

theorem safTest_row (h : Reaches s agent Reg.SAF_TEST) (m : Nat) :
    runWrite agent Reg.SAF_TEST (withBits val m) s
      = .next (State.keepCmd (fun _ => (woken s agent).safTest (written val m 0x3F)) s) := by
  rw [runWrite_alive h, State.write32_safTest h hc]

theorem safTestTag_row (h : Reaches s agent Reg.SAF_TEST) :
    ∃ u, Does (.safTestTag agent val) s u ∧ Counts s u Reg.SAF_TAG_MISMATCHES 1 ∧ u.bit (hdrOff 0x005 0x010) 4 = true := by
  obtain ⟨hcounts, hbit⟩ := (woken s agent).safTest_tag
    (testBit_written_own val (m := 0x10) (mask := 0x3F) (i := 4) (by decide) (by decide) (by decide))
  exact ⟨_, safTest_row hc val h 0x10, Counts.congr (rd_woken_saf s agent (by decide)).symm rfl hcounts, hbit⟩

theorem safTestLamp_row (h : Reaches s agent Reg.SAF_TEST) : ∃ u, Does (.safTestLamp agent val) s u ∧ u.isl.forceDark = 5 :=
  ⟨_, safTest_row hc val h 0x20, State.safTest_lamp _
    (testBit_written_own val (m := 0x20) (mask := 0x3F) (i := 5) (by decide) (by decide) (by decide))⟩

end

/-- Settles O26, register by register. -/
theorem safetyRegistersAct : Obligations.SafetyRegistersAct := fun _ agent val hc =>
  ⟨fun h h0 h1 => safCtlStore_row hc val h h0 h1, fun _ ho h => safCeilClear_row hc val ho h, fun h => safPrivClear_row hc val h,
    fun h hval => ⟨_, safTest_row hc val h 0, fun _ ho => muted_safTest agent hval ho⟩, fun h => safTestTag_row hc val h,
    fun h => safTestLamp_row hc val h⟩

end Sys2Proof.Machine

namespace Sys2Proof.Machine
open Sys2Proof

/-! ### The privacy fault (R512, R513) -/

/-- Bits below a field that is set stay. -/
theorem Word.bit_setFld_low (w : Word) {lo i : Nat} (hi : i < lo) (hlo : lo ≤ 32) (n v : Nat) :
    Word.bit (Word.setFld w lo n v) i = Word.bit w i := by
  have hle : 2 ^ lo * Word.fld w lo n ≤ w.toNat := by
    have hfld : Word.fld w lo n ≤ w.toNat / 2 ^ lo := Nat.mod_le _ _
    exact (Nat.mul_le_mul_left _ hfld).trans (Nat.mul_div_le _ _)
  have hmod : (w.toNat - Word.fld w lo n * 2 ^ lo + v % 2 ^ n * 2 ^ lo) % 2 ^ lo = w.toNat % 2 ^ lo := by
    rw [Nat.add_mul_mod_self_right, Nat.mul_comm, Nat.sub_mul_mod hle]
  have hbits := congrArg (Nat.testBit · i) hmod
  simp only [Nat.testBit_mod_two_pow, hi, decide_true, Bool.true_and] at hbits
  rw [Word.bit, Word.setFld, BitVec.toNat_ofNat, Nat.testBit_mod_two_pow, hbits, Word.bit]
  simp [lt_of_lt_of_le hi hlo]

/-- A new privacy fault is latched with its kind; it has not been reported. -/
def State.showFault (s : State) (kind : Nat) : State := (s.setFld Reg.SAF_PRIV 2 1 1).setFld Reg.SAF_PRIV 3 2 kind

theorem State.latchPriv_again {s : State} (h : s.privFault = true) (kind : Nat) : s.latchPriv kind = s := if_pos h

theorem State.latchPriv_first {s : State} (h : s.privFault = false) (kind : Nat) :
    s.latchPriv kind = (s.showFault kind).report 0x0C02 0xFF 4 kind 0 3 := if_neg (by simp [h])

theorem State.privFault_latchPriv (s : State) (kind : Nat) : (s.latchPriv kind).privFault = true := by
  cases hf : s.privFault with
  | true => rw [State.latchPriv_again hf, hf]
  | false =>
    rw [State.latchPriv_first hf, State.privFault, State.bit_congr (State.rd_report (by decide) ..), State.showFault, State.bit,
      State.rd_setFld_same, Word.bit_setFld_low _ (by decide) (by decide)]
    exact State.bit_setFld_one _ _ (by decide)

theorem State.kind_latchPriv {s : State} (h : s.privFault = false) (kind : Nat) :
    (s.latchPriv kind).fld Reg.SAF_PRIV 3 2 = kind % 4 := by
  rw [State.latchPriv_first h, State.fld_congr (State.rd_report (by decide) ..), State.showFault, State.fld, State.rd_setFld_same,
    Word.fld_setFld_same _ (by decide)]
  rfl

/-! ### The self-tests (R514, R519) -/

/-- A cause that arises under a condition. -/
def State.kickIf (s : State) (p : Bool) (c : Nat) : State := if p then s.kick c else s

theorem State.kickIf_stands (s : State) (p : Bool) {c i : Nat} (hc : c < 10) (h : s.kickCauses.testBit i = true) :
    (s.kickIf p c).kickCauses.testBit i = true := by
  unfold State.kickIf
  split
  · exact Kicks.stands (s.kicks hc) h
  · exact h

theorem State.kickIf_inForce (s : State) {p : Bool} {c : Nat} (hc : c < 10) (h : p = true) :
    (s.kickIf p c).kickCauses.testBit c = true := by
  rw [State.kickIf, if_pos h]
  exact Kicks.inForce (s.kicks hc)

theorem State.kickIf_sameButKick (s : State) (p : Bool) (c : Nat) : State.SameButKick s (s.kickIf p c) := by
  unfold State.kickIf
  split
  · exact s.kick_sameButKick c
  · exact .of_fixed rfl

/-- A run is counted, and the sensor's test is shown. -/
def State.countRun (s : State) (failed : Nat) : State :=
  (s.count Reg.SAF_SELFTEST_RUNS 1).setFld Reg.SAF_TEMP 31 1 (Bool.num (!failed.testBit 9))

/-- A failed run is recorded; a failed interlock test latches a privacy fault. -/
def State.recordFailed (s : State) (failed when_ : Nat) : State :=
  let s := ((s.setFld Reg.SAF_SELFTEST 0 10 failed).safety 6 failed when_).safErr 0x0C04
  if failed.testBit 7 then s.latchPriv (if when_ = 1 then 3 else 2) else s

/-- A test has failed that has no cause of its own: neither the sensor's, nor the clock's, nor the interlock's. -/
def otherFailed (failed : Nat) : Bool := (List.range 10).any fun t => failed.testBit t && t ≠ 2 && t ≠ 7 && t ≠ 9

theorem State.selfTests_passed (s : State) (when_ : Nat) : s.selfTests 0 when_ = s.countRun 0 := rfl

theorem State.selfTests_failed (s : State) {failed : Nat} (h : failed ≠ 0) (when_ : Nat) :
    s.selfTests failed when_ = ((((s.countRun failed).recordFailed failed when_).kickIf (failed.testBit 9) 7).kickIf
      (failed.testBit 2) 8).kickIf (otherFailed failed) (when_ - 1) := if_neg h

theorem State.rd_countRun_other (s : State) (failed : Nat) {o : Nat} (ho : 0x40 ≤ o % 0x1000) (h1 : o ≠ Reg.SAF_SELFTEST_RUNS)
    (h2 : o ≠ Reg.SAF_TEMP) : (s.countRun failed).rd o = s.rd o := by
  rw [State.countRun, State.rd_setFld_other _ _ _ _ _ h2, State.rd_count_past ho h1]

theorem State.countRun_counts (s : State) (failed : Nat) : Counts s (s.countRun failed) Reg.SAF_SELFTEST_RUNS 1 :=
  Counts.congr rfl (State.rd_setFld_other _ _ _ _ _ (by decide)) (Counts.count s Reg.SAF_SELFTEST_RUNS 1 (by decide))

theorem State.countRun_fixed (s : State) (failed : Nat) : (s.countRun failed).fixed = s.fixed := by
  rw [State.countRun, State.setFld_fixed, State.count_fixed]

theorem State.recordFailed_fixed (s : State) (failed when_ : Nat) : (s.recordFailed failed when_).fixed = s.fixed := by
  simp only [State.recordFailed]
  split
  · rw [State.latchPriv_fixed, State.safErr_fixed, State.safety_fixed, State.setFld_fixed]
  · rw [State.safErr_fixed, State.safety_fixed, State.setFld_fixed]

theorem State.selfTests_sameButKick (s : State) (failed when_ : Nat) : State.SameButKick s (s.selfTests failed when_) := by
  by_cases h : failed = 0
  · rw [h, State.selfTests_passed]
    exact .of_fixed (s.countRun_fixed 0)
  · rw [State.selfTests_failed s h]
    have hrecorded : ((s.countRun failed).recordFailed failed when_).fixed = s.fixed := by
      rw [State.recordFailed_fixed, State.countRun_fixed]
    exact (((State.SameButKick.of_fixed hrecorded).trans (State.kickIf_sameButKick ..)).trans (State.kickIf_sameButKick ..)).trans
      (State.kickIf_sameButKick ..)

/-- What a failed periodic run sets, test by test. -/
theorem State.selfTests_causes (s : State) (failed : Nat) :
    (failed.testBit 2 = true → (s.selfTests failed 2).kickCauses.testBit 8 = true)
      ∧ (failed.testBit 9 = true → (s.selfTests failed 2).kickCauses.testBit 7 = true)
      ∧ (otherFailed failed = true → (s.selfTests failed 2).kickCauses.testBit 1 = true) := by
  by_cases h : failed = 0
  · subst h
    exact ⟨by simp, by simp, by simp [otherFailed]⟩
  · rw [State.selfTests_failed s h]
    exact ⟨fun h2 => State.kickIf_stands _ _ (by decide) (State.kickIf_inForce _ (by decide) h2),
      fun h9 => State.kickIf_stands _ _ (by decide) (State.kickIf_stands _ _ (by decide) (State.kickIf_inForce _ (by decide) h9)),
      State.kickIf_inForce _ (by decide)⟩

theorem otherFailed_of_bit {failed i : Nat} (hlt : failed < 1024) (h : failed.testBit i = true) (h2 : i ≠ 2) (h7 : i ≠ 7) (h9 : i ≠ 9) :
    otherFailed failed = true := by
  have hi : i < 10 := (Nat.pow_lt_pow_iff_right (by decide)).1 ((Nat.ge_two_pow_of_testBit h).trans_lt hlt)
  exact List.any_eq_true.2 ⟨i, List.mem_range.2 hi, by simp [h, h2, h7, h9]⟩

theorem does_periodicSelfTest {s : State} (ha : s.alive = true) (hstart : s.isl.started = true) {failed : Nat} (h : failed < 1024) :
    Does (.periodicSelfTest failed) s (s.selfTests failed 2) :=
  runCmdIf_alive (fun s => s.isl.started && Nat.blt failed 1024) (fun s => s.selfTests failed 2) s ha
    (by rw [hstart]; exact Nat.ble_eq_true_of_le h)

/-! ### The start-up tests (R501, R519) -/

/-- The start-up run has begun. -/
def State.startIsland (s : State) : State := { s with isl := { s.isl with started := true } }

/-- The start-up run has ended, and its result is shown. -/
def State.startRun (s : State) (failed : Nat) : State :=
  (s.startIsland.selfTests failed 1).setFld Reg.SAF_STATUS 1 2 (if failed = 0 then 3 else 1)

/-- The kickstand that reset began is released where no cause is in force. -/
def State.endHold (s : State) : State := if s.kickCauses = 0 then { s with isl := { s.isl with kickRun := false } } else s

theorem exec_islandStartupTests {s : State} (ha : s.alive = true) (h : s.isl.started = false) (failed : Nat) :
    exec (.islandStartupTests failed) s = .next (State.keep (fun s => (s.startRun failed).endHold) s) :=
  runIf_alive (p := fun s => !s.isl.started) ha (by rw [h]; rfl) _

theorem State.keep_isl (f : State → State) (s : State) : (State.keep f s).isl = (f s).isl := rfl

theorem State.endHold_rd (s : State) (o : Nat) : s.endHold.rd o = s.rd o := by
  unfold State.endHold
  split <;> rfl

theorem State.endHold_part (s : State) : s.endHold.part = s.part := by
  unfold State.endHold
  split <;> rfl

theorem State.endHold_started (s : State) : s.endHold.isl.started = s.isl.started := by
  unfold State.endHold
  split <;> rfl

theorem State.endHold_free {s : State} (h : s.kickCauses = 0) : s.endHold.isl.kickRun = false := by
  rw [State.endHold, if_pos h]

theorem State.startRun_part (s : State) (failed : Nat) : (s.startRun failed).part = s.part :=
  (s.startIsland.selfTests_sameButKick failed 1).part

theorem State.startRun_started (s : State) (failed : Nat) : (s.startRun failed).isl.started = true :=
  (s.startIsland.selfTests_sameButKick failed 1).started

theorem State.startRun_status (s : State) (failed : Nat) :
    (s.startRun failed).fld Reg.SAF_STATUS 1 2 = if failed = 0 then 3 else 1 := by
  rw [State.startRun, State.fld, State.rd_setFld_same, Word.fld_setFld_same _ (by decide)]
  split <;> rfl

theorem State.startRun_passed (s : State) : (s.startRun 0).kickCauses = s.kickCauses := by
  refine State.kickCauses_congr ?_
  rw [State.startRun, State.rd_setFld_other _ _ _ _ _ (by decide), State.selfTests_passed,
    State.rd_countRun_other _ _ (by decide) (by decide) (by decide)]
  rfl

theorem islandStartupTests_row {s : State} (ha : s.alive = true) (failed : Nat) (h : s.isl.started = false) :
    ∃ t, exec (.islandStartupTests failed) s = .next t ∧ t.isl.started = true
      ∧ t.fld Reg.SAF_STATUS 1 2 = (if failed = 0 then 3 else 1)
      ∧ (failed = 0 → s.kickCauses = 0 → t.isl.kickRun = false ∧ t.kickCauses = 0) := by
  have hpart : (s.startRun failed).endHold.part = s.part := by rw [State.endHold_part, State.startRun_part]
  have hrd (o : Nat) : (State.keep (fun s => (s.startRun failed).endHold) s).rd o = (s.startRun failed).rd o := by
    rw [State.rd_keep hpart, State.endHold_rd]
  refine ⟨_, exec_islandStartupTests ha h failed, ?_, ?_, fun hf hk => ⟨?_, ?_⟩⟩
  · rw [State.keep_isl, State.endHold_started, State.startRun_started]
  · rw [State.fld_congr (hrd _), State.startRun_status]
  · rw [State.keep_isl, hf, State.endHold_free (s.startRun_passed.trans hk)]
  · rw [State.kickCauses_congr (hrd _), hf, State.startRun_passed, hk]

/-! ### The island's sensor (R518) -/

/-- A sample is shown, and counts towards heat or the time below 95 °C. -/
def State.sampleTemp (s : State) (q : Int) : State :=
  { s.setFld Reg.SAF_TEMP 0 16 (q % 65536).toNat with
    isl := { s.isl with hot := if 440 ≤ q then s.isl.hot + 1 else 0,
                        coolFrom := if q < 380 then some (s.isl.coolFrom.getD s.now) else none } }

theorem State.islandTemp_eq (s : State) (q : Int) :
    s.islandTemp q = if 4 ≤ (s.sampleTemp q).isl.hot then (s.sampleTemp q).kick 4 else s.sampleTemp q := rfl

theorem State.sampleTemp_hot (s : State) (q : Int) : (s.sampleTemp q).isl.hot = if 440 ≤ q then s.isl.hot + 1 else 0 := rfl

theorem State.sampleTemp_kickCauses (s : State) (q : Int) : (s.sampleTemp q).kickCauses = s.kickCauses :=
  State.kickCauses_congr (s.rd_setFld_other Reg.SAF_TEMP 0 16 (q % 65536).toNat (by decide))

theorem State.sampleTemp_shown (s : State) (q : Int) : (s.sampleTemp q).fld Reg.SAF_TEMP 0 16 = (q % 65536).toNat :=
  (congrArg (Word.fld · 0 16) (s.rd_setFld_same Reg.SAF_TEMP 0 16 (q % 65536).toNat)).trans (Word.fld_setFld_low _ (by omega))

theorem islandThermalSample_row {s : State} (ha : s.alive = true) (q : Int) :
    ∃ u, Does (.islandThermalSample q) s u
      ∧ (440 ≤ q → 3 ≤ s.isl.hot → Kicks s u 4)
      ∧ ((q < 440 ∨ s.isl.hot < 3) → u.kickCauses = s.kickCauses ∧ u.fld Reg.SAF_TEMP 0 16 = (q % 65536).toNat
        ∧ u.isl.hot = if 440 ≤ q then s.isl.hot + 1 else 0) := by
  refine ⟨_, runCmd_alive _ s ha, fun hq hhot => ?_, fun hfew => ?_⟩
  · rw [State.islandTemp_eq, if_pos (by rw [State.sampleTemp_hot, if_pos hq]; omega)]
    exact Kicks.congr (State.kicks _ (by decide)) (s.sampleTemp_kickCauses q)
  · rw [State.islandTemp_eq, if_neg (by rw [State.sampleTemp_hot]; split <;> omega)]
    exact ⟨s.sampleTemp_kickCauses q, s.sampleTemp_shown q, s.sampleTemp_hot q⟩

theorem islandThermalClear_row {s : State} (ha : s.alive = true) (from_ : Nat) (h4 : s.kickCauses.testBit 4 = true)
    (hcool : s.isl.coolFrom = some from_) : ∃ u, DoesBy .islandThermalClear s (from_ + 1000000) u
      ∧ ∀ i, u.kickCauses.testBit i = (s.kickCauses.testBit i && i ≠ 4) := by
  have hdue : s.isl.coolFrom.getD 0 + 1_000_000 = from_ + 1000000 := by rw [hcool]; rfl
  have hready : (s.waitTo (s.isl.coolFrom.getD 0 + 1_000_000)).islandCool = true := by
    rw [State.islandCool, State.waitTo_isl, hcool, Option.isSome_some, Bool.and_true]
    exact h4
  have hrow := runCmdAt_alive (fun s => s.isl.coolFrom.getD 0 + 1_000_000) State.islandCool (fun s => s.unkick 4) s ha hready
  rw [hdue] at hrow
  exact ⟨_, hrow, fun i => State.testBit_unkick (s.waitTo (from_ + 1000000)) 4 i⟩

/-! ### The comparison of two sensors (R518) -/

/-- The island's sensor and sensor 8 lie more than 10 °C apart. -/
def State.sensorsFar (s : State) : Prop := 40 < (s.islandQ - (s.sensor 8).temp).natAbs

/-- So many comparisons in a row were more than 10 °C apart. -/
def State.withApart (s : State) (n : Nat) : State := { s with isl := { s.isl with apart := n } }

/-- The comparisons in a row that were far apart, this one among them. -/
def State.apartNow (s : State) : Nat := if 40 < (s.islandQ - (s.sensor 8).temp).natAbs then s.isl.apart + 1 else 0

theorem State.compareSensors_eq (s : State) :
    s.compareSensors = if !(s.sensor 8).valid then s
      else if 3 ≤ s.apartNow then (s.withApart s.apartNow).kick 7 else s.withApart s.apartNow := rfl

theorem State.compareSensors_invalid {s : State} (h : (s.sensor 8).valid = false) : s.compareSensors = s := by
  rw [State.compareSensors_eq, h]
  rfl

theorem State.compareSensors_near {s : State} (h : (s.sensor 8).valid = true) (hnear : ¬ s.sensorsFar) :
    s.compareSensors = s.withApart 0 := by
  have hapart : s.apartNow = 0 := if_neg hnear
  rw [State.compareSensors_eq, h, hapart]
  rfl

theorem State.compareSensors_far {s : State} (h : (s.sensor 8).valid = true) (hfar : s.sensorsFar) :
    s.compareSensors
      = if 3 ≤ s.isl.apart + 1 then (s.withApart (s.isl.apart + 1)).kick 7 else s.withApart (s.isl.apart + 1) := by
  have hapart : s.apartNow = s.isl.apart + 1 := if_pos hfar
  rw [State.compareSensors_eq, h, hapart]
  rfl

theorem islandSensorCompare_row {s : State} (ha : s.alive = true) : ∃ u, Does .islandSensorCompare s u
      ∧ ((s.sensor 8).valid = false → u = s)
      ∧ ((s.sensor 8).valid = true → s.sensorsFar → 2 ≤ s.isl.apart → Kicks s u 7)
      ∧ ((s.sensor 8).valid = true → s.sensorsFar → s.isl.apart < 2 → u.isl.apart = s.isl.apart + 1 ∧ u.kickCauses = s.kickCauses)
      ∧ ((s.sensor 8).valid = true → ¬ s.sensorsFar → u.isl.apart = 0 ∧ u.kickCauses = s.kickCauses) := by
  refine ⟨_, runCmd_alive _ s ha, State.compareSensors_invalid, fun hv hfar h2 => ?_, fun hv hfar h2 => ?_, fun hv hnear => ?_⟩
  · rw [State.compareSensors_far hv hfar, if_pos (by omega)]
    exact Kicks.congr (State.kicks _ (by decide)) rfl
  · rw [State.compareSensors_far hv hfar, if_neg (by omega)]
    exact ⟨rfl, rfl⟩
  · rw [State.compareSensors_near hv hnear]
    exact ⟨rfl, rfl⟩

/-! ### Checks that set a cause (R507, R514, R519) -/

theorem muteCheckFail_row {s : State} (ha : s.alive = true) {o : Nat} (ho : o < 4) (hm : (s.pinOut o).muted = true) :
    ∃ u, DoesBy (.muteCheckFail o) s ((s.pinOut o).mutedAt + 500) u ∧ Kicks s u 5 := by
  have hready : (Nat.blt o 4 && ((s.waitTo ((s.pinOut o).mutedAt + 500)).pinOut o).muted) = true := by
    rw [State.pinOut_of_isl (State.waitTo_isl ..), hm, Bool.and_true]
    exact Nat.ble_eq_true_of_le ho
  exact ⟨_, runCmdAt_alive (fun s => (s.pinOut o).mutedAt + 500) (fun s => Nat.blt o 4 && (s.pinOut o).muted) (fun s => s.kick 5) s ha
    hready, Kicks.congr (State.kicks _ (by decide)) rfl⟩

theorem gateCheckFail_row {s : State} (ha : s.alive = true) {i : Nat} (hi : i < 16) (hk : s.srcKind i = 1 ∨ s.srcKind i = 2)
    (hopen : s.srcOpen i = false) : ∃ u, Does (.gateCheckFail i) s u ∧ Kicks s u 6 := by
  have hready : (Nat.blt i 16 && (s.srcKind i = 1 || s.srcKind i = 2) && !s.srcOpen i) = true := by
    rw [hopen, Bool.not_false, Bool.and_true, show Nat.blt i 16 = true from Nat.ble_eq_true_of_le hi]
    simpa using hk
  exact ⟨_, runCmdIf_alive (fun s => Nat.blt i 16 && (s.srcKind i = 1 || s.srcKind i = 2) && !s.srcOpen i) (fun s => s.kick 6) s ha
    hready, s.kicks (by decide)⟩

theorem periodicSelfTest_row {s : State} (ha : s.alive = true) (failed : Nat) (hstart : s.isl.started = true) (hlt : failed < 1024) :
    ∃ u, Does (.periodicSelfTest failed) s u
      ∧ (failed = 0 → Counts s u Reg.SAF_SELFTEST_RUNS 1 ∧ u.kickCauses = s.kickCauses)
      ∧ (failed.testBit 2 = true → u.kickCauses.testBit 8 = true) ∧ (failed.testBit 9 = true → u.kickCauses.testBit 7 = true)
      ∧ ((∃ i, failed.testBit i = true ∧ i ≠ 2 ∧ i ≠ 7 ∧ i ≠ 9) → u.kickCauses.testBit 1 = true) := by
  obtain ⟨hclock, hsensor, hother⟩ := s.selfTests_causes failed
  refine ⟨_, does_periodicSelfTest ha hstart hlt, ?_, hclock, hsensor, ?_⟩
  · rintro rfl
    exact ⟨s.countRun_counts 0, State.kickCauses_congr (s.rd_countRun_other 0 (by decide) (by decide) (by decide))⟩
  · rintro ⟨i, hi, h2, h7, h9⟩
    exact hother (otherFailed_of_bit hlt hi h2 h7 h9)

/-- Settles O30, row by row. -/
theorem kickstandCausesArise : Obligations.KickstandCausesArise := fun s ha =>
  ⟨islandStartupTests_row ha, periodicSelfTest_row ha, ⟨_, runCmd_alive _ s ha, s.kicks (by decide)⟩,
    fun _ ho hm => muteCheckFail_row ha ho hm, fun _ hi hk hopen => gateCheckFail_row ha hi hk hopen, islandThermalSample_row ha,
    islandThermalClear_row ha, islandSensorCompare_row ha⟩

end Sys2Proof.Machine

namespace Sys2Proof.Machine
open Sys2Proof

/-! ### An exceedance is recorded (R506, R507) -/

theorem State.showHit_counts (s : State) {o : Nat} (ho : o < 4) (which lvl : Nat) :
    Counts s (s.showHit o which lvl) (Reg.SAF_CEIL_MUTES o) 1 := by
  have hpast : 0x40 ≤ Reg.SAF_CEIL_MUTES o % 0x1000 := by
    simp only [Reg.SAF_CEIL_MUTES]
    omega
  have hother : Reg.SAF_CEIL_MUTES o ≠ Reg.SAF_CEIL_STATE o := by
    simp only [Reg.SAF_CEIL_MUTES, Reg.SAF_CEIL_STATE]
    omega
  exact Counts.congr (State.rd_wr_other _ _ _ _ hother).symm (State.rd_report hpast ..)
    (Counts.count _ _ 1 (ne_hdrOff hpast (by decide)))

theorem State.rd_showHit_state (s : State) {o : Nat} (ho : o < 4) (which lvl : Nat) :
    (s.showHit o which lvl).rd (Reg.SAF_CEIL_STATE o) = BitVec.ofNat 32 (1 + 2 * which + lvl * 2 ^ 16) := by
  have hpast : 0x40 ≤ Reg.SAF_CEIL_STATE o % 0x1000 := by
    simp only [Reg.SAF_CEIL_STATE]
    omega
  have hother : Reg.SAF_CEIL_STATE o ≠ Reg.SAF_CEIL_MUTES o := by
    simp only [Reg.SAF_CEIL_MUTES, Reg.SAF_CEIL_STATE]
    omega
  rw [State.showHit, State.rd_report hpast, State.rd_count_past hpast hother, State.rd_wr_same]

theorem ceilingExceedance_row {s : State} (ha : s.alive = true) {o which : Nat} {q : Int} (ho : o < 4)
    (hhit : (s.pinOut o).hit = some (which, q)) :
    ∃ u, Does (.ceilingExceedance o) s u ∧ (u.pinOut o).hit = none
      ∧ u.rd (Reg.SAF_CEIL_STATE o) = BitVec.ofNat 32 (1 + 2 * which + (q % 65536).toNat * 2 ^ 16)
      ∧ Counts s u (Reg.SAF_CEIL_MUTES o) 1 ∧ ∀ k, k ≠ o → u.pinOut k = s.pinOut k := by
  have hready : (Nat.blt o 4 && (s.pinOut o).hit.isSome) = true := by
    rw [hhit, Option.isSome_some, Bool.and_true]
    exact Nat.ble_eq_true_of_le ho
  refine ⟨_, runCmdIf_alive (fun s => Nat.blt o 4 && (s.pinOut o).hit.isSome) (fun s => s.recordHit o) s ha hready, ?_, ?_, ?_,
    (s.recordHit_onlyOutput o).pins⟩
  · rw [State.pinOut_recordHit]
  · rw [State.recordHit_of_hit hhit, State.rd_showHit_state _ ho]
  · rw [State.recordHit_of_hit hhit]
    have hcounts := (s.setPinOut o { s.pinOut o with hit := none }).showHit_counts ho which (q % 65536).toNat
    rwa [Counts, State.rd_setPinOut] at hcounts

/-! ### The long meters (R505) -/

/-- The meters of an output at an evaluation: the samples since the last join the latest 30 s. -/
def longMeters (l : List (Nat × Meter)) : List (Nat × Meter) :=
  l.map fun m => (m.1, { m.2 with part := 0, long := (m.2.part :: m.2.long).take 15_000 })

/-- The long meters of output `o` are brought up to now. -/
def State.meterOutput (s : State) (o : Nat) : State := s.setPinOut o { s.pinOut o with meters := longMeters (s.pinOut o).meters }

/-- The highest long level of an output as it stands after its meters were brought up to now, as a sum of squares. -/
def State.topLong (s : State) (o : Nat) : Nat :=
  (longMeters (s.pinOut o).meters).foldl (fun a (m : Nat × Meter) => max a m.2.longSum) 0

/-- The highest short level, likewise. -/
def State.topShort (s : State) (o : Nat) : Nat :=
  (longMeters (s.pinOut o).meters).foldl (fun a (m : Nat × Meter) => max a (total m.2.recent)) 0

/-- An output that is not muted is muted where its long level exceeds the limit in force, and else shows its short level. -/
def State.judgeLong (s : State) (o : Nat) : State :=
  let t := s.meterOutput o
  let n := max 1 (t.pinRate o * 30)
  if above (s.topLong o) n (2 * t.ceiling o 1) then
    (t.setPinOut o { s.pinOut o with meters := longMeters (s.pinOut o).meters, hit := some (1, levelQ (s.topLong o) n), muted := true,
                                     mutedAt := t.now }).recordHit o
  else t.setFld (Reg.SAF_CEIL_STATE o) 16 16 ((levelQ (s.topShort o) (t.shortLen o)) % 65536).toNat

theorem State.evalLong_eq (s : State) (o : Nat) :
    s.evalLong o = if (s.pinOut o).muted then s.meterOutput o else s.judgeLong o := rfl

theorem State.meterOutput_onlyOutput (s : State) (o : Nat) : OnlyOutput o s (s.meterOutput o) := s.setPinOut_onlyOutput o _

theorem State.pinOut_meterOutput (s : State) (o : Nat) :
    (s.meterOutput o).pinOut o = { s.pinOut o with meters := longMeters (s.pinOut o).meters } := s.pinOut_setPinOut_same o _

theorem State.pinOut_setFld (s : State) (off lo n v o : Nat) : (s.setFld off lo n v).pinOut o = s.pinOut o := rfl

theorem State.judgeLong_pins (s : State) (o : Nat) {k : Nat} (h : k ≠ o) : (s.judgeLong o).pinOut k = s.pinOut k := by
  have hmeter := (s.meterOutput_onlyOutput o).pins k h
  simp only [State.judgeLong]
  split
  · rw [(State.recordHit_onlyOutput _ o).pins k h, State.pinOut_setPinOut_other _ _ h, hmeter]
  · rw [State.pinOut_setFld, hmeter]

theorem State.judgeLong_meters (s : State) (o : Nat) : ((s.judgeLong o).pinOut o).meters = longMeters (s.pinOut o).meters := by
  simp only [State.judgeLong]
  split
  · rw [State.pinOut_recordHit, State.pinOut_setPinOut_same]
  · rw [State.pinOut_setFld, State.pinOut_meterOutput]

theorem ceilingLongEval_row {s : State} (ha : s.alive = true) {o : Nat} (ho : o < 4) :
    ∃ u, Does (.ceilingLongEval o) s u ∧ ((s.pinOut o).muted = true → (u.pinOut o).muted = true)
      ∧ (u.pinOut o).meters = longMeters (s.pinOut o).meters ∧ ∀ k, k ≠ o → u.pinOut k = s.pinOut k := by
  refine ⟨_, runCmdIf_alive (fun _ => Nat.blt o 4) (fun s => s.evalLong o) s ha (Nat.ble_eq_true_of_le ho), ?_⟩
  rw [State.evalLong_eq]
  split
  · next hm =>
    rw [State.pinOut_meterOutput]
    exact ⟨fun _ => hm, rfl, (s.meterOutput_onlyOutput o).pins⟩
  · next hm => exact ⟨fun h => absurd h hm, s.judgeLong_meters o, fun k hk => s.judgeLong_pins o hk⟩

/-! ### The lamp (R47, R512, R513) -/

/-- A sample finds the lamp lit. -/
def State.sampleLit (s : State) (current : Bool) (mv : Nat) : Bool := current && 1200 ≤ mv && mv ≤ 3600 && s.isl.forceDark = 0

/-- A sample is kept and counted. -/
def State.countSense (s : State) (current : Bool) (mv : Nat) : State :=
  { s with isl := { s.isl with sense := mv, lit := if s.sampleLit current mv then s.isl.lit + 1 else 0,
                               dark := if s.sampleLit current mv then 0 else s.isl.dark + 1, forceDark := s.isl.forceDark - 1 } }

/-- The gate shuts at the next router-frame edge. -/
def State.failLamp (s : State) : State := { s with isl := { s.isl with lampFault := true } }

theorem State.senseLamp_eq (s : State) (current : Bool) (mv : Nat) :
    s.senseLamp current mv = if (s.countSense current mv).isl.dark = 5 && !s.privFault then (s.countSense current mv).failLamp.latchPriv 1
      else s.countSense current mv := rfl

/-- The lamp's fault is a flag of its own: the counts of samples stand as counted. -/
theorem State.senseLamp_isl (s : State) (current : Bool) (mv : Nat) :
    ∃ fault, (s.senseLamp current mv).isl = { (s.countSense current mv).isl with lampFault := fault } := by
  rw [State.senseLamp_eq]
  split
  · exact ⟨true, State.isl_of_fixed (State.latchPriv_fixed ..)⟩
  · exact ⟨_, rfl⟩

theorem State.senseLamp_privFault {s : State} {current : Bool} {mv : Nat} (h : (s.countSense current mv).isl.dark = 5) :
    (s.senseLamp current mv).privFault = true := by
  rw [State.senseLamp_eq]
  cases hf : s.privFault with
  | false => rw [if_pos (by simp [h]), State.privFault_latchPriv]
  | true =>
    rw [if_neg (by simp)]
    exact hf

theorem State.countSense_lit {s : State} {current : Bool} {mv : Nat} (h : s.sampleLit current mv = true) :
    (s.countSense current mv).isl.lit = s.isl.lit + 1 ∧ (s.countSense current mv).isl.dark = 0 := ⟨if_pos h, if_pos h⟩

theorem State.countSense_dark {s : State} {current : Bool} {mv : Nat} (h : s.sampleLit current mv = false) :
    (s.countSense current mv).isl.lit = 0 ∧ (s.countSense current mv).isl.dark = s.isl.dark + 1 :=
  ⟨if_neg (by simp [h]), if_neg (by simp [h])⟩

theorem lampSenseSample_row {s : State} (ha : s.alive = true) (current : Bool) (mv : Nat) (hsink : s.isl.sink = true) :
    ∃ u, Does (.lampSenseSample current mv) s u ∧ u.isl.sense = mv
      ∧ (current = true → 1200 ≤ mv → mv ≤ 3600 → s.isl.forceDark = 0 → u.isl.lit = s.isl.lit + 1 ∧ u.isl.dark = 0)
      ∧ (current = false → u.isl.lit = 0 ∧ u.isl.dark = s.isl.dark + 1 ∧ (s.isl.dark = 4 → u.privFault = true)) := by
  refine ⟨_, runCmdIf_alive (fun s => s.isl.sink) (fun s => s.senseLamp current mv) s ha hsink, ?_⟩
  obtain ⟨fault, hisl⟩ := s.senseLamp_isl current mv
  rw [hisl]
  refine ⟨rfl, fun hcur hlow hhigh hforce => ?_, fun hcur => ?_⟩
  · exact State.countSense_lit (by simp [State.sampleLit, hcur, hlow, hhigh, hforce])
  · obtain ⟨hlit, hdark⟩ := State.countSense_dark (s := s) (current := current) (mv := mv) (by simp [State.sampleLit, hcur])
    exact ⟨hlit, hdark, fun h4 => State.senseLamp_privFault (by rw [hdark, h4])⟩

theorem lampOffCheck_row {s : State} (ha : s.alive = true) (mv : Nat) (hsink : s.isl.sink = false) :
    ∃ u, Does (.lampOffCheck mv) s u
      ∧ (if mv < 2500 then u.privFault = true ∧ (s.privFault = false → u.fld Reg.SAF_PRIV 3 2 = 2) else u = s) := by
  refine ⟨_, runCmdIf_alive (fun s => !s.isl.sink) (fun s => if mv < 2500 then s.latchPriv 2 else s) s ha (by rw [hsink]; rfl), ?_⟩
  by_cases h : mv < 2500
  · simp only [if_pos h]
    exact ⟨s.privFault_latchPriv 2, fun hf => State.kind_latchPriv hf 2⟩
  · simp only [if_neg h]

/-- Settles O31, row by row. -/
theorem ceilingAndPrivacyEvents : Obligations.CeilingAndPrivacyEvents := fun _ ha =>
  ⟨fun _ _ _ ho hhit _ => ceilingExceedance_row ha ho hhit, fun _ ho => ceilingLongEval_row ha ho, lampSenseSample_row ha,
    lampOffCheck_row ha⟩

end Sys2Proof.Machine
